-- ==== Sys2Proof/Word.lean ====
section
/-!
DEFINITION. The word types of the part and the numbers that name its nests, rails, tracks, inputs, checks, nodes and slots.
-/
namespace Sys2Proof

/-- A word is 32 bits (00_scope.md, section 6). -/
abbrev Word := BitVec 32
/-- The smallest addressable unit. -/
abbrev Byte := BitVec 8
/-- A nest clock value in microseconds, wrapping at 2^32 (R9). -/
abbrev Clock := BitVec 32

/-- Nest 0 is A, nest 1 is B (R3). The port of a nest has the nest's number (R71). -/
abbrev NestId := Fin 2
/-- Global rail number: BATT, IGN, ILLUM of nest A, then of nest B (section 2.1). -/
abbrev RailId := Fin 6
abbrev TrackId := Fin 8
/-- Response inputs 0-7 belong to nest A, 8-15 to nest B. -/
abbrev InputId := Fin 16
abbrev CheckId := Fin 64
abbrev NodeId := Fin 15
/-- Action slot number. -/
abbrev SlotId := Fin 16
/-- A capture slot, 0-15 of nest A and 16-31 of nest B. -/
abbrev CaptureId := Fin 32

end Sys2Proof
end

