-- ==== Sys2Proof/Syntax.lean ====
section
/-!
DEFINITION. The commands: one constructor for each row of spec/opcode_table.json, with what the part learns from
outside at that step as operands. The rows have no encoding.
-/
namespace Sys2Proof

/-- One host access on the host bus: a word, its byte lanes and, for a store, its data (section 9.3). -/
structure HostAccess where
  /-- set for a store, clear for a load -/
  store : Bool
  /-- word number: the byte address divided by 4, in the 16 MiB space -/
  word : BitVec 22
  /-- byte enables, bit 0 for byte 0 -/
  lanes : BitVec 4
  data : Word
  deriving DecidableEq, Repr

/-- What the nest sample measures on one rail (R21 step 1). -/
structure RailReading where
  /-- microamperes through the output switch -/
  current : Nat
  /-- the limiter is engaged -/
  limiter : Bool
  /-- millivolts at the output -/
  voltage : Nat
  deriving DecidableEq, Repr

/-- One nest sample: all the part reads from the rack for one nest at one millisecond (R21, R88). -/
structure NestReading where
  /-- BATT, IGN, ILLUM -/
  rails : Vector RailReading 3
  /-- microamperes through the probe path, if it is on -/
  probe : Nat
  /-- supply monitor: rack supply out of range -/
  range : Bool
  /-- supply monitor: rail drivers over temperature -/
  temperature : Bool
  /-- the seat loop reads closed -/
  seatClosed : Bool
  /-- line voltage in millivolts of the nest's response inputs 0-7 -/
  lines : Vector Int 8
  deriving DecidableEq, Repr

/-- A frame of the DUT as it ends on the bus (R81). -/
structure DutFrame where
  identifier : BitVec 29
  extended : Bool
  length : Nat
  /-- payload bytes in the order sent; bytes from the length on are not part of the frame -/
  payload : Vector Byte 8
  /-- fixed-format fields correct and frame check in agreement with the contents -/
  intact : Bool
  /-- the port went OFF while the frame was on the bus (R73, log 44) -/
  cut : Bool
  deriving DecidableEq, Repr

/-- A reply of a node as FXL receives it, from its opener to the idle line that ends the attempt (R124). -/
structure LinkReply where
  /-- opener pair, first symbol in bits 7-4, or none if the line went idle inside it -/
  opener : Option (BitVec 8)
  /-- the address echo, or none if the line went idle before it was complete -/
  echo : Option (BitVec 6)
  /-- the whole words that arrived before the line went idle, each with its nibble check -/
  words : List (Word × BitVec 4)
  /-- a further symbol began within 8 bit times after the last whole word -/
  further : Bool
  deriving DecidableEq, Repr

/-- The commands of spec/opcode_table.json, in the table's order. -/
inductive Instr where
  /-- BASE straps, LINKRATE strap (set: 4 Mbit/s) and SRQ levels at the end of RESET -/
  | powerOnReset (base : BitVec 10) (fast : Bool) (srq : BitVec 15)
  | startUpFillBurst
  | hostLoad
  /-- the operand is the present voltage of the response input line whose record the store restarts, if it does -/
  | hostStore (line : Int)
  | eventConsumerStore
  | verdictConsumerStore
  | requestProducerStore
  | partialActionStore
  | unknownAction
  | nestArm
  | nestDisarm
  | nestRelease
  | nestAbort
  | railOn
  | railOff
  | railClear
  | railChargeReset
  | trackLaunch
  | trackSuspend
  | trackResume
  | trackStop
  | trackExtend
  | portStart
  | portStop
  | checkArm
  | checkArmRun
  | checkCancel
  | nodeEnable
  | nodeDisable
  | nodeRestore
  | linkPause
  | linkResume
  | restart
  | nestSample (n : NestId) (m : NestReading)
  | seatOpen (n : NestId) (m : NestReading)
  | attach (n : NestId) (m : NestReading)
  | seatWithoutLoad (n : NestId) (m : NestReading)
  | limitingDwellExpiry (r : RailId) (m : NestReading)
  | faultWaitExpiry (r : RailId) (m : NestReading)
  | retryTestExpiry (r : RailId) (m : NestReading)
  | dischargeExpiry (r : RailId) (m : NestReading)
  | budgetCrossing (r : RailId) (m : NestReading)
  | risingEdge (i : InputId)
  | fallingEdge (i : InputId)
  | gateEnd (i : InputId) (m : NestReading)
  | snapshotTimerExpiry (n : NestId)
  | drainEnd (n : NestId)
  | entryFetch
  | entryDue (t : TrackId)
  | pulsePeriodEnd (n : NestId) (k : Fin 4)
  | frameGapEnd (t : TrackId)
  | stallPlaceOffered (p : NestId)
  | attemptStart (p : NestId)
  | acked (p : NestId)
  /-- identifier and format of the DUT frame that begins at the same moment -/
  | lostArbitration (p : NestId) (identifier : BitVec 29) (extended : Bool)
  | notAcked (p : NestId)
  | dutFrameReceived (p : NestId) (f : DutFrame)
  | timeTrigger (c : CheckId)
  | delayEnd (c : CheckId)
  | windowSample (c : CheckId)
  | profileSample (c : CheckId)
  | pendingSampleDue (c : CheckId)
  | windowEnd (c : CheckId)
  | verdictTaken
  | heldRequestTaken
  | requestRecordTaken
  /-- the level is the new level of the node's request line -/
  | serviceRequest (d : NodeId) (level : Bool)
  | transactionStart
  | blockSourceRead
  | requestFrameEnd
  | noReply
  | linkError (r : LinkReply)
  | linkReplyComplete (r : LinkReply)
  | blockItemTaken
  | takePrompt (n : NestId)
  | promptTimeout (n : NestId)
  | postFifoBurst
  | slotWrite
  | replyOpenerBegins
  | hostAccess (a : HostAccess)
  deriving DecidableEq, Repr

end Sys2Proof
end

