-- ==== Sys2Proof/Decode.lean ====
section
/-!
DEFINITION. The command a word of the opcode table spells. No row of spec/opcode_table.json gives bits
(98_reader.md: n_rows_with_fixed 0, n_rows_with_fields 0), so no word spells a command.
-/
namespace Sys2Proof

/-- The command spelled by a word of `nbits` bits: none, since no row of the table has an encoding. -/
def decodeTableWord (_nbits _w : Nat) : Option Instr := none

end Sys2Proof
end

