-- ==== Sys2Proof/Config.lean ====
section
/-!
DEFINITION. What an implementation fixes, the fixed capacities of the part, and the free values.
-/
namespace Sys2Proof.Config

/-- Number of places of the post FIFO (R171). -/
def fifoPlaces : Nat := 32
/-- Depth from which the post FIFO is granted in class 2 (R167). -/
def fifoUrgent : Nat := 24
/-- Number of places of the link request queue (R130). -/
def linkPlaces : Nat := 16
/-- Places that stay free for internal requesters plus the one a host request takes (R137). -/
def hostIntake : Nat := 5
/-- Places of a port's transmit queue (section 4.3). -/
def portPlaces : Nat := 4
/-- Failed frames in a row that silence a port (R79). -/
def silenceAfter : Nat := 8
/-- Entries a prefetch holds (section 3.4). -/
def prefetchPlaces : Nat := 8
/-- Below this many held entries a fetch request is urgent (R51). -/
def urgentBelow : Nat := 3
/-- Consecutive open readings that confirm an open seat (R2). -/
def openConfirm : Nat := 20
/-- Consecutive qualifying readings that attach (R6). -/
def attachConfirm : Nat := 50
/-- Closure time at which SEAT_WITHOUT_LOAD is reported (R7). -/
def closureReport : Nat := 2000
/-- Microseconds after which a missing reply opener is NO_REPLY (R124). -/
def replyTimeout : Nat := 100
/-- Word 0 of the status area (section 11.3). -/
def identity : Word := 0x07420001#32
/-- What a byte of memory reads as that nothing has written: DESIGN CHOICE, unsafe, log 6. -/
def unlistedByte : Byte := 0#8

/-- FREE VALUE (log 24, safe): whether an event about a node whose record holds the undefined nest binding 3
is stamped with nest B (true) or nest A (false). Only LINK_REPLY of a DISABLED node can meet it (R140, R180). -/
opaque undefinedBindingIsB : Nat → Bool

end Sys2Proof.Config
end

