-- ==== Sys2Proof/Machine/State.lean ====
section
/-!
DEFINITION. The state of the part: every item of the state tables R1, R20, R45, R69, R83, R87, R97, R122, R144, R156
and R171, the outputs of R46 and R47, the memory behind the part, and the queue of waiting commands.
-/
namespace Sys2Proof.Machine

/-- Nest states (R1). -/
inductive NestState where
  | idle | waiting | opened | draining | held
  deriving DecidableEq, Repr

/-- Drain causes (R1). -/
inductive DrainCause where
  | none | released | aborted | removed | restart
  deriving DecidableEq, Repr

/-- Interlock status (R15). -/
inductive Interlock where
  | none | satisfied | unsatisfied
  deriving DecidableEq, Repr

/-- NCT's record of one nest (R1). -/
structure Nest where
  state : NestState
  session : BitVec 16
  clock : Clock
  cause : DrainCause
  /-- debounced seat state: set is CLOSED -/
  seat : Bool
  openRun : Nat
  attachRun : Nat
  closureTime : Nat
  closureReported : Bool
  interlock : Interlock
  trip : Bool
  /-- stopped, or microseconds since the last start (log 11) -/
  snapTimer : Option Nat
  deriving DecidableEq, Repr

/-- RLU's record of one nest's supply monitor and probe (R20). -/
structure Supply where
  range : Bool
  temperature : Bool
  probe : Nat
  /-- the supply fault has cleared since the last nest sample: the probe path turns on again at the next one (R37) -/
  resuming : Bool
  deriving DecidableEq, Repr

/-- Rail states (R20). -/
inductive RailState where
  | off | probe | on | limiting | faultWait | retryTest | latched | discharging
  deriving DecidableEq, Repr

/-- Last causes of a rail (R20). -/
inductive RailCause where
  | none | overcurrent | backfeed | short | supply | dischargeFail | battLost | drain | interlock | restart
  deriving DecidableEq, Repr

/-- RLU's record of one rail (R20). -/
structure Rail where
  state : RailState
  cause : RailCause
  retry : Nat
  dwell : Nat
  /-- stopped, or nest samples counted since the start -/
  timer : Option Nat
  /-- instant current, µA -/
  current : Nat
  /-- mV -/
  voltage : Nat
  /-- the last 64 current samples, oldest first -/
  history : List Nat
  /-- charge accumulator, µC -/
  charge : Nat
  /-- charge residue, nC -/
  residue : Nat
  crossed : Bool
  deriving DecidableEq, Repr

/-- Track states (R45). -/
inductive TrackState where
  | idle | priming | running | suspending | suspended | done | halted | faulted
  deriving DecidableEq, Repr

/-- Track causes (R45). -/
inductive TrackCause where
  | none | stop | rail | drain | badEntry | underrun
  deriving DecidableEq, Repr

/-- A held stimulus entry: its buffer index and its four words (section 3.1). -/
structure Entry where
  index : Nat
  w0 : Word
  w1 : Word
  w2 : Word
  w3 : Word
  deriving DecidableEq, Repr

/-- STE's record of one track (R45). -/
structure Track where
  state : TrackState
  cause : TrackCause
  launch : BitVec 8
  total : Nat
  played : Nat
  fetched : Nat
  fetchIndex : Nat
  /-- oldest first -/
  held : List Entry
  /-- a fetch request waits at PTH -/
  request : Bool
  /-- µs since the last play -/
  interval : Nat
  starved : Bool
  stalled : Bool
  /-- NO_FRAME, or µs since the last frame submission -/
  gap : Option Nat
  underruns : Nat
  underrunReported : Bool
  lateness : Nat
  dropped : Nat
  deriving DecidableEq, Repr

/-- A pulse output (R47). -/
structure Pulse where
  /-- mHz, 0 for off -/
  frequency : Nat
  /-- percent -/
  duty : Nat
  /-- frequency and duty that take effect at the end of the period in progress -/
  waiting : Option (Nat × Nat)
  deriving DecidableEq, Repr

/-- The stimulus outputs of one nest (R46). -/
structure Outputs where
  pulse : Vector Pulse 4
  /-- mV -/
  level : Vector Nat 4
  /-- set is closed -/
  line : Vector Bool 8
  deriving DecidableEq, Repr

/-- Port states (R69). -/
inductive PortState where
  | off | on | silent
  deriving DecidableEq, Repr

/-- A queued frame (R70). -/
structure Frame where
  identifier : BitVec 29
  extended : Bool
  /-- payload bytes in order, as many as the length -/
  payload : List Byte
  track : TrackId
  launch : BitVec 8
  number : BitVec 8
  attempts : Nat
  deriving DecidableEq, Repr

/-- VNP's record of one port (R69). -/
structure Port where
  state : PortState
  /-- head first -/
  queue : List Frame
  /-- the place in the queue of the frame being sent -/
  inFlight : Option Nat
  stall : List TrackId
  failures : Nat
  number : BitVec 8
  /-- MODEL's own: the last DUT frame was acknowledged on the bus (R81) -/
  ackDriven : Bool
  deriving DecidableEq, Repr

/-- A capture slot (R83). -/
structure Capture where
  count : Nat
  length : Nat
  payload : Vector Byte 8
  base : Option Clock
  lastPeriod : Option Word
  minPeriod : Option Word
  maxPeriod : Option Word
  deriving DecidableEq, Repr

/-- Input modes (section 5.1). -/
inductive InputMode where
  | off | level | frequency | duty | edges
  deriving DecidableEq, Repr

/-- The gate record of an input (R87). -/
structure Gate where
  rising : Nat
  first : Option Clock
  last : Option Clock
  /-- high time since the first rising edge, µs -/
  high : Nat
  /-- high time up to the last rising edge, µs -/
  highToLast : Nat
  deriving DecidableEq, Repr

/-- MODEL's own: the stamp of the latest edge of an input, with the gate record and the edge count before it. An edge
back in the same microsecond takes it back (R88, log 41), and on a gate boundary it belongs to the gate that begins there
(R90, log 14). -/
structure EdgeMark where
  clock : Clock
  gate : Gate
  edges : Nat
  deriving DecidableEq, Repr

/-- RIN's record of one input (R87). -/
structure Input where
  measuring : Bool
  mode : InputMode
  /-- oldest first, mV -/
  history : List Nat
  taken : Nat
  /-- comparator: set is HIGH -/
  high : Bool
  /-- NOT_STARTED, or ms into the gate -/
  position : Option Nat
  firstDone : Bool
  gate : Gate
  edges : Nat
  /-- NO_DATA is none -/
  value : Option Nat
  /-- MODEL's own (logs 14 and 41) -/
  lastEdge : Option EdgeMark
  deriving DecidableEq, Repr

/-- Check states (R97). -/
inductive CheckState where
  | idle | armed | delaying | sampling | querying | promptWait | prompting | decided
  deriving DecidableEq, Repr

/-- Query offers (R97). -/
inductive QueryOffer where
  | none | held | issued
  deriving DecidableEq, Repr

/-- Verdicts (section 11.5). -/
inductive VerdictCode where
  | pass | failLow | failHigh | mismatch | operatorFail | notTested | noData | timeout
  | sourceFault | aborted | cancelled | notRun
  deriving DecidableEq, Repr

/-- What a decision says: verdict, detail and the two values (R117: a field no rule gives is 0). -/
structure Decision where
  verdict : VerdictCode
  detail : Nat := 0
  a : Int := 0
  b : Int := 0
  deriving DecidableEq, Repr

/-- A verdict record (R117). -/
structure Verdict where
  check : CheckId
  nest : NestId
  arming : BitVec 8
  session : BitVec 16
  decision : Decision
  trigger : Option Clock
  time : Clock
  deriving DecidableEq, Repr

/-- CHK's record of one check (R97). -/
structure Check where
  state : CheckState
  arming : BitVec 8
  session : BitVec 16
  trigger : Option Clock
  phase : Clock
  samples : Nat
  minimum : Option Int
  maximum : Option Int
  /-- the last sample taken (R110, R116), log 29 -/
  last : Option Int
  base : Nat
  signature : Word
  fed : Nat
  due : Option Clock
  query : QueryOffer
  held : Option Verdict
  deriving DecidableEq, Repr

/-- Node states (R122). -/
inductive NodeState where
  | disabled | inService | outOfService
  deriving DecidableEq, Repr

/-- FXL's record of one node (R122). -/
structure Node where
  state : NodeState
  /-- none is UNKNOWN -/
  status : Option Word
  servicePending : Bool
  pollHeld : Bool
  lineSeen : Bool
  deriving DecidableEq, Repr

/-- Request kinds (R123). -/
inductive LinkKind where
  | put | get | doCommand | poll | putBlock | getBlock
  deriving DecidableEq, Repr

/-- The steps of a prompt on the link (R147). -/
inductive PromptStep where
  | load | show | clear
  deriving DecidableEq, Repr

/-- Who asked, and what the request carries for its answer (R130). -/
inductive Requester where
  | service
  | host (ring : BitVec 4) (buffer : Word) (tag : BitVec 16)
  | check (c : CheckId) (arming : BitVec 8) (session : BitVec 16)
  | prompt (n : NestId) (sequence : BitVec 8) (step : PromptStep) (text : Nat)
  deriving DecidableEq, Repr

/-- A link request (R130). -/
structure Request where
  kind : LinkKind
  node : NodeId
  /-- register, command or block number -/
  register : BitVec 8
  /-- data or operand word -/
  data : Word
  requester : Requester
  deriving DecidableEq, Repr

/-- Link errors (R124). -/
inductive LinkError where
  | noReply | badOpener | addressMismatch | nibbleCheck | gap | wordCount | garbled
  deriving DecidableEq, Repr

/-- Reply codes that are answers (R124). -/
inductive ReplyCode where
  | ok | nodeError | refused
  deriving DecidableEq, Repr

/-- Link results (R140). -/
inductive LinkResult where
  | ok | nodeError | refused | nodeLost | notInService | badRequest | badAddress | flushed
  deriving DecidableEq, Repr

/-- Phases of a transaction (section 7.1). -/
inductive Phase where
  | reading | sending | awaiting | receiving | handingOff
  deriving DecidableEq, Repr

/-- The transaction in flight (R122). -/
structure Transaction where
  request : Request
  /-- set on attempt 2 -/
  second : Bool
  phase : Phase
  firstError : Option LinkError
  /-- words gathered or carried by the request -/
  words : List Word
  /-- the request frame, bit by bit in the order sent (R123) -/
  frame : List Bool
  /-- µs in AWAITING_REPLY (log 30) -/
  wait : Nat
  /-- RESTART was taken while it was in flight (R143, log 31) -/
  flushed : Bool
  deriving DecidableEq, Repr

/-- A block item waiting for the post FIFO (R139). -/
structure BlockItem where
  words : List Word
  buffer : Word
  request : Request
  deriving DecidableEq, Repr

/-- FXL's state beside the nodes (R122). -/
structure Link where
  queue : List Request
  flight : Option Transaction
  block : Option BlockItem
  paused : Bool
  outOfService : Nat
  /-- set for 4 Mbit/s -/
  fast : Bool
  /-- request consumer index, as FXL last handed it to PST -/
  consumer : BitVec 4
  deriving DecidableEq, Repr

/-- Context states (R144). -/
inductive ContextState where
  | free | loading | showing | shown | clearing
  deriving DecidableEq, Repr

/-- The arming a prompt belongs to. -/
structure Arming where
  check : CheckId
  arming : BitVec 8
  session : BitVec 16
  deriving DecidableEq, Repr

/-- PRC's record of one nest (R144). -/
structure Prompt where
  state : ContextState
  sequence : BitVec 8
  answered : Option (BitVec 8)
  check : Option Arming
  text : Nat
  /-- bit 0 PASS, bit 1 FAIL, bit 2 SKIP -/
  answers : BitVec 3
  panel : NodeId
  /-- the step outstanding, and whether it is held (waiting for a queue place) -/
  step : Option (PromptStep × Bool)
  withdrawn : Bool
  /-- stopped, or µs counted -/
  timer : Option Nat
  waiting : List Arming
  /-- a CLEAR of RESTART that waits for a queue place (R155) -/
  restartClear : Option (NodeId × BitVec 8)
  deriving DecidableEq, Repr

/-- PTH's state (R156). -/
structure Path where
  base : BitVec 10
  ready : Bool
  fill : BitVec 12
  /-- word number in the control block and word; a word not listed is 0 -/
  shadow : List (Nat × Word)
  host : Option HostAccess
  guards : Nat
  takes : Vector (BitVec 8) 16
  urgentTurn : Fin 8
  /-- 0-7 tracks, 8 FXL -/
  backTurn : Fin 9
  /-- the word the last load put on the host bus -/
  hostData : Word
  /-- the entry fetch that has been granted and is on the memory port, by its track (R167, R169) -/
  burst : Option TrackId
  deriving DecidableEq, Repr

/-- The places of PST whose value is replaced rather than queued (R176). -/
inductive Place where
  | result (k : SlotId)
  | rail (r : RailId)
  | input (i : InputId)
  | track (t : TrackId)
  | nest (n : NestId)
  | summary
  | requestConsumer
  deriving DecidableEq, Repr

/-- Items of the post FIFO (R171). -/
inductive Item where
  | event (slot : BitVec 7) (words : List Word)
  | verdict (slot : BitVec 7) (words : List Word)
  | block (buffer : Word) (words : List Word)
  deriving DecidableEq, Repr

/-- PST's state (R171). -/
structure Post where
  fifo : List Item
  progress : Nat
  eventReserve : BitVec 7
  eventProducer : BitVec 7
  verdictReserve : BitVec 7
  verdictProducer : BitVec 7
  lost : Nat
  /-- the places that hold a value, in the order they became pending, with their values; the summary's value is
  made at its grant (R177) -/
  places : List (Place × List Word)
  identity : Word
  ready : Bool
  paused : Bool
  outOfService : Nat
  guards : Nat
  attention : Bool
  deriving DecidableEq, Repr

/-- The machine: the part, the memory behind it and the commands that wait for it. -/
structure State where
  /-- commands waiting, first in, first out -/
  pending : List Instr
  /-- memory behind the part; a byte not listed reads `Config.unlistedByte` -/
  mem : List Host.Cell
  nests : Vector Nest 2
  supplies : Vector Supply 2
  rails : Vector Rail 6
  tracks : Vector Track 8
  outputs : Vector Outputs 2
  /-- claim map: outputs 0-3 pulse, 4-7 level, 8-15 discrete of nest A, then of nest B -/
  claims : Vector (Option TrackId) 32
  /-- for each nest, which tracks hold the frame flag -/
  frameHolders : Vector (Vector Bool 8) 2
  ports : Vector Port 2
  capture : Vector Capture 32
  inputs : Vector Input 16
  checks : Vector Check 64
  unposted : List CheckId
  nodes : Vector Node 15
  link : Link
  prompts : Vector Prompt 2
  path : Path
  post : Post
  deriving DecidableEq, Repr

/-- No command of this part stops it: the spec gives no machine fault (a refused action, a guarded store, a rail
fault and a lost node are results, events and state), so there is no constructor. -/
inductive Fault where
  deriving DecidableEq, Repr

/-- Refusals. -/
inductive Refusal where
  /-- raised by `exec` only, for a command that has no meaning yet; safe: the model stops where the part goes on -/
  | notModelled (mnemonic : String)
  deriving DecidableEq, Repr

/-- R1, last column. -/
def Nest.reset : Nest where
  state := .idle
  session := 0
  clock := 0
  cause := .none
  seat := false
  openRun := 0
  attachRun := 0
  closureTime := 0
  closureReported := false
  interlock := .none
  trip := false
  snapTimer := none

/-- R20. -/
def Supply.reset : Supply := ⟨false, false, 0, false⟩

/-- R20, last column. -/
def Rail.reset : Rail where
  state := .off
  cause := .none
  retry := 0
  dwell := 0
  timer := none
  current := 0
  voltage := 0
  history := List.replicate 64 0
  charge := 0
  residue := 0
  crossed := false

/-- R45, last column. -/
def Track.reset : Track where
  state := .idle
  cause := .none
  launch := 0
  total := 0
  played := 0
  fetched := 0
  fetchIndex := 0
  held := []
  request := false
  interval := 0
  starved := false
  stalled := false
  gap := none
  underruns := 0
  underrunReported := false
  lateness := 0
  dropped := 0

/-- R47: pulse outputs off with 50 %, level outputs 0 mV, lines open. -/
def Pulse.idle : Pulse := ⟨0, 50, none⟩

/-- R47: the idle values. -/
def Outputs.idle : Outputs where
  pulse := Vector.replicate 4 Pulse.idle
  level := Vector.replicate 4 0
  line := Vector.replicate 8 false

/-- R69, last column. -/
def Port.reset : Port := ⟨.off, [], none, [], 0, 0, false⟩

/-- R83, last column. -/
def Capture.clear : Capture := ⟨0, 0, Vector.replicate 8 0, none, none, none, none⟩

/-- R90: a clear gate record. -/
def Gate.clear : Gate := ⟨0, none, none, 0, 0⟩

/-- R87, last column. -/
def Input.reset : Input := ⟨false, .off, [], 0, false, none, false, Gate.clear, 0, none, none⟩

/-- R97, last column. -/
def Check.reset : Check :=
  ⟨.idle, 0, 0, none, 0, 0, none, none, none, 0, 0, 0, none, .none, none⟩

/-- R122, last column; the argument is the level of SRQ at the end of reset. -/
def Node.reset (line : Bool) : Node := ⟨.disabled, none, false, false, line⟩

/-- R122, last column; the argument is the LINKRATE strap. -/
def Link.reset (fast : Bool) : Link := ⟨[], none, none, false, 0, fast, 0⟩

/-- R144, last column. -/
def Prompt.reset : Prompt := ⟨.free, 0, none, none, 0, 0, 0, none, false, none, [], none⟩

/-- R156, last column; the argument is the BASE straps. -/
def Path.reset (base : BitVec 10) : Path :=
  ⟨base, false, 0, [], none, 0, Vector.replicate 16 0, 7, 8, 0, none⟩

/-- R171, last column. -/
def Post.reset : Post := ⟨[], 0, 0, 0, 0, 0, 0, [], 0, false, false, 0, 0, false⟩

/-- The part right after power-on reset with these straps and SRQ levels, in front of this memory. -/
def State.afterReset (base : BitVec 10) (fast : Bool) (srq : BitVec 15) (mem : List Host.Cell)
    (pending : List Instr) : State where
  pending := pending
  mem := mem
  nests := Vector.replicate 2 Nest.reset
  supplies := Vector.replicate 2 Supply.reset
  rails := Vector.replicate 6 Rail.reset
  tracks := Vector.replicate 8 Track.reset
  outputs := Vector.replicate 2 Outputs.idle
  claims := Vector.replicate 32 none
  frameHolders := Vector.replicate 2 (Vector.replicate 8 false)
  ports := Vector.replicate 2 Port.reset
  capture := Vector.replicate 32 Capture.clear
  inputs := Vector.replicate 16 Input.reset
  checks := Vector.replicate 64 Check.reset
  unposted := []
  nodes := Vector.ofFn (fun d : Fin 15 => Node.reset (srq.getLsbD d))
  link := Link.reset fast
  prompts := Vector.replicate 2 Prompt.reset
  path := Path.reset base
  post := Post.reset

/-- The machine right after reset: straps and SRQ lines low and memory with nothing listed (DESIGN CHOICE, logs 6
and 8); POWER_ON_RESET takes any other straps. -/
def State.reset : State := State.afterReset 0 false 0 [] []

end Sys2Proof.Machine
end

