-- ==== Sys2Proof/Machine/Ops.lean ====
section
/-!
DEFINITION. The named operations over memory, the shadow and the tables of the state: canonical sparse lists, words
in memory, bit fields, saturating counts, and one update for each table of State.
-/
namespace Sys2Proof.Machine

/-! ### Sparse lists in canonical form -/

/-- The value at a key; a key not listed holds 0. -/
def Sparse.read {w : Nat} : List (Nat × BitVec w) → Nat → BitVec w
  | [], _ => 0
  | (k, v) :: r, a => if k = a then v else Sparse.read r a

/-- Write a value; writing 0 removes the entry, so that equal contents are equal lists. -/
def Sparse.write {w : Nat} : List (Nat × BitVec w) → Nat → BitVec w → List (Nat × BitVec w)
  | [], a, v => if v = 0 then [] else [(a, v)]
  | (k, x) :: r, a, v =>
    if a < k then (if v = 0 then (k, x) :: r else (a, v) :: (k, x) :: r)
    else if a = k then (if v = 0 then r else (a, v) :: r)
    else (k, x) :: Sparse.write r a v

/-- Keys from `lo` up to below `hi`, strictly rising, no value 0. -/
def Sparse.wf {w : Nat} (hi : Nat) : Nat → List (Nat × BitVec w) → Bool
  | _, [] => true
  | lo, (k, v) :: r => decide (lo ≤ k) && decide (k < hi) && decide (v ≠ 0) && Sparse.wf hi (k + 1) r

/-! ### Memory behind the part -/

/-- Size of the address space in bytes (00_scope.md, section 6). -/
def memorySize : Nat := 16777216

/-- The canonical form of memory: addresses of the 16 MiB space, strictly rising, no entry that reads as unlisted. -/
def Memory.wf (m : List Host.Cell) : Bool := Sparse.wf memorySize 0 m

/-- Byte i of word number w. The port has 24 address lines, so a word number wraps at 2^22 (log 7). -/
def byteAddress (w i : Nat) : Nat := 4 * (w % 4194304) + i

/-- One byte of memory. -/
def readByte (m : List Host.Cell) (a : Nat) : Byte := Sparse.read m a

/-- The word with this word number, least significant byte at the lowest address (section 6). -/
def readWord (m : List Host.Cell) (w : Nat) : Word :=
  readByte m (byteAddress w 3) ++ readByte m (byteAddress w 2) ++ readByte m (byteAddress w 1)
    ++ readByte m (byteAddress w 0)

/-- Byte i of a word, byte 0 least significant. -/
def byteOf (v : Word) (i : Nat) : Byte := v.extractLsb' (8 * i) 8

/-- Write byte i of a word if its lane is enabled. -/
def writeLane (lanes : BitVec 4) (v : Word) (w i : Nat) (m : List Host.Cell) : List Host.Cell :=
  if lanes.getLsbD i then Sparse.write m (byteAddress w i) (byteOf v i) else m

/-- Write the enabled lanes of a word (R159). -/
def writeLanes (m : List Host.Cell) (w : Nat) (lanes : BitVec 4) (v : Word) : List Host.Cell :=
  writeLane lanes v w 3 (writeLane lanes v w 2 (writeLane lanes v w 1 (writeLane lanes v w 0 m)))

/-- Write a whole word. -/
def writeWord (m : List Host.Cell) (w : Nat) (v : Word) : List Host.Cell := writeLanes m w 0xF#4 v

/-- Write consecutive words from word number w on: one burst. -/
def writeWords (m : List Host.Cell) (w : Nat) : List Word → List Host.Cell
  | [] => m
  | v :: r => writeWords (writeWord m w v) (w + 1) r

/-- Read consecutive words from word number w on: one burst. -/
def readWords (m : List Host.Cell) (w : Nat) : Nat → List Word
  | 0 => []
  | n + 1 => readWord m w :: readWords m (w + 1) n

/-- R160: each enabled lane takes the store's byte, each other lane keeps the byte the word holds. -/
def mergeLanes (old v : Word) (lanes : BitVec 4) : Word :=
  let pick (i : Nat) : Byte := if lanes.getLsbD i then byteOf v i else byteOf old i
  pick 3 ++ pick 2 ++ pick 1 ++ pick 0

/-! ### Bit fields and counts -/

/-- The number in the `n` bits of a word from bit `lo` on (section 11.1). -/
def fld (v : Word) (lo n : Nat) : Nat := (v.toNat / 2 ^ lo) % 2 ^ n

/-- One bit of a word. -/
def bit (v : Word) (i : Nat) : Bool := v.getLsbD i

/-- A number placed in the `n` bits from bit `lo` on, low bits first (R179). -/
def put (lo n v : Nat) : Nat := (v % 2 ^ n) * 2 ^ lo

/-- A word made of placed fields; bits no field takes are 0 (R179). -/
def pack (fields : List Nat) : Word := BitVec.ofNat 32 fields.sum

/-- Bool as a field value. -/
def flag (b : Bool) : Nat := if b then 1 else 0

/-- A count that stays at its greatest value. -/
def satAdd (top n k : Nat) : Nat := min top (n + k)

/-- Greatest 32-bit count. -/
def max32 : Nat := 4294967295

/-! ### One update for each table of State -/

def State.setMem (s : State) (m : List Host.Cell) : State := { s with mem := m }

def State.modNest (s : State) (n : NestId) (f : Nest → Nest) : State :=
  { s with nests := s.nests.set n (f s.nests[n]) }

def State.modSupply (s : State) (n : NestId) (f : Supply → Supply) : State :=
  { s with supplies := s.supplies.set n (f s.supplies[n]) }

def State.modRail (s : State) (r : RailId) (f : Rail → Rail) : State :=
  { s with rails := s.rails.set r (f s.rails[r]) }

def State.modTrack (s : State) (t : TrackId) (f : Track → Track) : State :=
  { s with tracks := s.tracks.set t (f s.tracks[t]) }

def State.modOutputs (s : State) (n : NestId) (f : Outputs → Outputs) : State :=
  { s with outputs := s.outputs.set n (f s.outputs[n]) }

def State.setClaims (s : State) (c : Vector (Option TrackId) 32) : State := { s with claims := c }

def State.modHolders (s : State) (n : NestId) (f : Vector Bool 8 → Vector Bool 8) : State :=
  { s with frameHolders := s.frameHolders.set n (f s.frameHolders[n]) }

def State.modPort (s : State) (p : NestId) (f : Port → Port) : State :=
  { s with ports := s.ports.set p (f s.ports[p]) }

def State.modCapture (s : State) (j : CaptureId) (f : Capture → Capture) : State :=
  { s with capture := s.capture.set j (f s.capture[j]) }

def State.modInput (s : State) (i : InputId) (f : Input → Input) : State :=
  { s with inputs := s.inputs.set i (f s.inputs[i]) }

def State.modCheck (s : State) (c : CheckId) (f : Check → Check) : State :=
  { s with checks := s.checks.set c (f s.checks[c]) }

def State.setUnposted (s : State) (l : List CheckId) : State := { s with unposted := l }

def State.modNode (s : State) (d : NodeId) (f : Node → Node) : State :=
  { s with nodes := s.nodes.set d (f s.nodes[d]) }

def State.modLink (s : State) (f : Link → Link) : State := { s with link := f s.link }

def State.modPrompt (s : State) (n : NestId) (f : Prompt → Prompt) : State :=
  { s with prompts := s.prompts.set n (f s.prompts[n]) }

def State.modPath (s : State) (f : Path → Path) : State := { s with path := f s.path }

def State.modPost (s : State) (f : Post → Post) : State := { s with post := f s.post }

/-! ### Numbering -/

/-- Rail k (0 BATT, 1 IGN, 2 ILLUM) of a nest (section 2.1). -/
def railOf (n : NestId) (k : Fin 3) : RailId := ⟨3 * n.val + k.val, by omega⟩

def nestOfRail (r : RailId) : NestId := ⟨r.val / 3, by omega⟩

/-- BATT, IGN or ILLUM. -/
def kindOfRail (r : RailId) : Fin 3 := ⟨r.val % 3, by omega⟩

/-- Input i of a nest. -/
def inputOf (n : NestId) (i : Fin 8) : InputId := ⟨8 * n.val + i.val, by omega⟩

def nestOfInput (i : InputId) : NestId := ⟨i.val / 8, by omega⟩

/-- Capture slot j of a nest. -/
def captureOf (n : NestId) (j : Fin 16) : CaptureId := ⟨16 * n.val + j.val, by omega⟩

/-- Output o of a nest in the claim map. -/
def claimOf (n : NestId) (o : Fin 16) : Fin 32 := ⟨16 * n.val + o.val, by omega⟩

def allChecks : List CheckId := List.finRange 64
def allTracks : List TrackId := List.finRange 8
def allNodes : List NodeId := List.finRange 15
def allNests : List NestId := [0, 1]
/-- BATT first (R36). -/
def allKinds : List (Fin 3) := [0, 1, 2]

/-- Apply a step for each element in turn. -/
def State.forEach {α : Type} (s : State) (l : List α) (f : α → State → State) : State :=
  l.foldl (fun s a => f a s) s

end Sys2Proof.Machine
end

