-- ==== Sys2Proof/Machine/Operands.lean ====
section
/-!
DEFINITION. The fields of the records software writes, read from the shadow at their places of chapter 11: nest, rail,
track, port, filter, input, node, check, limit, prompt text and request ring records, and stimulus entries.
-/
namespace Sys2Proof.Machine

/-- The captured word at a byte offset of the control block (R156). -/
def cfg (s : State) (off : Nat) : Word := Sparse.read s.path.shadow (off / 4)

/-- A node field of the nest record: 0 is NONE, n + 1 is node n (section 11.2). -/
def nodeField (v : Nat) : Option NodeId :=
  if h : 1 ≤ v ∧ v ≤ 15 then some ⟨v - 1, by omega⟩ else none

/-! ### Nest record (section 1.1) -/

def nestWord (s : State) (n : NestId) : Word := cfg s (0x100 + 0x20 * n.val)
def autoArm (s : State) (n : NestId) : Bool := bit (nestWord s n) 0
/-- Attach threshold in µA: 0.5, 1, 2 or 4 mA. -/
def attachThreshold (s : State) (n : NestId) : Nat := 500 * 2 ^ fld (nestWord s n) 4 2
def interlockNode (s : State) (n : NestId) : Option NodeId := nodeField (fld (nestWord s n) 8 4)
def panelNode (s : State) (n : NestId) : Option NodeId := nodeField (fld (nestWord s n) 12 4)
/-- Snapshot period in ms. -/
def snapshotPeriod (s : State) (n : NestId) : Nat := fld (nestWord s n) 16 11

/-- R4 test 4: every node field of four bits is NONE or names node 0-14, so only the period can be out of range. -/
def nestRecordInRange (s : State) (n : NestId) : Bool :=
  let p := snapshotPeriod s n
  p == 0 || (decide (10 ≤ p) && decide (p ≤ 1000))

/-! ### Rail record (section 2.1) -/

def railWord (s : State) (r : RailId) (i : Nat) : Word := cfg s (0x140 + 0x20 * r.val + 4 * i)
def setpoint (s : State) (r : RailId) : Nat := fld (railWord s r 0) 0 16
def limitingDwell (s : State) (r : RailId) : Nat := fld (railWord s r 0) 16 8
/-- Set: RETRY; clear: LATCH. -/
def policyRetry (s : State) (r : RailId) : Bool := bit (railWord s r 0) 24
def maxRetries (s : State) (r : RailId) : Nat := fld (railWord s r 0) 28 4
def currentLimit (s : State) (r : RailId) : Nat := fld (railWord s r 1) 0 16
/-- ms: 10 to 80. -/
def faultWaitTime (s : State) (r : RailId) : Nat := 10 * (fld (railWord s r 2) 0 3 + 1)
/-- ms: 10, 20, 40 or 80. -/
def retryTestTime (s : State) (r : RailId) : Nat := 10 * 2 ^ fld (railWord s r 2) 4 2
/-- Percent of the setpoint: 25, 50, 75 or 90. -/
def passPercent (s : State) (r : RailId) : Nat :=
  match fld (railWord s r 2) 8 2 with
  | 0 => 25
  | 1 => 50
  | 2 => 75
  | _ => 90
/-- ms: 50, 100, 200 or 400. -/
def dischargeTime (s : State) (r : RailId) : Nat := 50 * 2 ^ fld (railWord s r 2) 12 2
/-- µC, 0 for none. -/
def chargeBudget (s : State) (r : RailId) : Nat := (railWord s r 3).toNat

/-- R23 test 7: every field in range and on its step. -/
def railRecordInRange (s : State) (r : RailId) : Bool :=
  decide (5000 ≤ setpoint s r) && decide (setpoint s r ≤ 16000) && setpoint s r % 50 == 0
    && decide (50 ≤ currentLimit s r) && decide (currentLimit s r ≤ 5000) && currentLimit s r % 10 == 0
    && decide (1 ≤ limitingDwell s r)

/-! ### Track descriptor (section 3.1) -/

def trackWord (s : State) (t : TrackId) (i : Nat) : Word := cfg s (0x200 + 0x40 * t.val + 4 * i)
def trackNest (s : State) (t : TrackId) : NestId := if bit (trackWord s t 0) 0 then 1 else 0
def sizeCode (s : State) (t : TrackId) : Nat := fld (trackWord s t 0) 4 4
/-- Number of entries of the buffer. -/
def bufferSize (s : State) (t : TrackId) : Nat := 2 ^ (4 + sizeCode s t)
/-- 0 HOLD, 1 SAFE, 2 STOP. -/
def underrunPolicy (s : State) (t : TrackId) : Nat := fld (trackWord s t 0) 8 2
def requiresRail (s : State) (t : TrackId) (k : Fin 3) : Bool := bit (trackWord s t 0) (12 + k.val)
def bufferBase (s : State) (t : TrackId) : Nat := (trackWord s t 1).toNat
def startIndex (s : State) (t : TrackId) : Nat := fld (trackWord s t 2) 0 12
def entryCount (s : State) (t : TrackId) : Nat := fld (trackWord s t 2) 16 16
/-- µs. -/
def frameGap (s : State) (t : TrackId) : Nat := fld (trackWord s t 3) 0 16
/-- Output o of the nest is in the claim set: 0-3 pulse, 4-7 level, 8-15 discrete. -/
def claimsOutput (s : State) (t : TrackId) (o : Fin 16) : Bool := bit (trackWord s t 4) o.val
def claimsFrames (s : State) (t : TrackId) : Bool := bit (trackWord s t 4) 16

/-! ### Stimulus entry (section 3.1) -/

/-- What an entry acts on. -/
inductive Target where
  | wait
  | pulse (k : Fin 4)
  | level (k : Fin 4)
  | discrete
  | frame
  deriving DecidableEq, Repr

def Entry.delay (e : Entry) : Nat := fld e.w0 0 17
def Entry.targetCode (e : Entry) : Nat := fld e.w0 17 5
def Entry.mark (e : Entry) : Nat := fld e.w0 22 6
def Entry.frameLength (e : Entry) : Nat := fld e.w0 28 4

/-- Target codes 11-31 are not defined. -/
def Entry.target (e : Entry) : Option Target :=
  let c := e.targetCode
  if c = 0 then some .wait
  else if h : 1 ≤ c ∧ c ≤ 4 then some (.pulse ⟨c - 1, by omega⟩)
  else if h : 5 ≤ c ∧ c ≤ 8 then some (.level ⟨c - 5, by omega⟩)
  else if c = 9 then some .discrete
  else if c = 10 then some .frame
  else none

/-- R54: the entry's delay, plus its extra delay for a WAIT. -/
def Entry.required (e : Entry) : Nat :=
  if e.target = some .wait then e.delay + e.w1.toNat else e.delay

def Entry.duty (e : Entry) : Nat := fld e.w2 0 8
def Entry.setMask (e : Entry) (i : Nat) : Bool := bit e.w1 i
def Entry.clearMask (e : Entry) (i : Nat) : Bool := bit e.w1 (8 + i)
def Entry.identifier (e : Entry) : BitVec 29 := e.w1.extractLsb' 0 29
def Entry.extended (e : Entry) : Bool := bit e.w1 31
/-- Payload byte k is the byte at entry offset 8 + k. -/
def Entry.payload (e : Entry) : List Byte :=
  [byteOf e.w2 0, byteOf e.w2 1, byteOf e.w2 2, byteOf e.w2 3,
   byteOf e.w3 0, byteOf e.w3 1, byteOf e.w3 2, byteOf e.w3 3].take e.frameLength

/-! ### Port record and capture filters (section 4.1) -/

def portWord (s : State) (p : NestId) : Word := cfg s (0x400 + 0x20 * p.val)
def bitRateCode (s : State) (p : NestId) : Nat := fld (portWord s p) 0 3
def retryLimit (s : State) (p : NestId) : Nat := fld (portWord s p) 4 4
def filterWord (s : State) (j : CaptureId) (i : Nat) : Word := cfg s (0x440 + 0x10 * j.val + 4 * i)

/-! ### Response input record (section 5.1) -/

def inputWord (s : State) (i : InputId) (k : Nat) : Word := cfg s (0x640 + 8 * i.val + 4 * k)
def inputModeCode (s : State) (i : InputId) : Nat := fld (inputWord s i 0) 0 3
def gateCode (s : State) (i : InputId) : Nat := fld (inputWord s i 0) 4 2
/-- ms: 10, 100 or 1000. -/
def gateTime (s : State) (i : InputId) : Nat := 10 ^ (gateCode s i + 1)
def edgeThreshold (s : State) (i : InputId) : Nat := fld (inputWord s i 1) 0 16

/-- R89, R180: the mode the record puts in force; OFF if a field lies outside section 5.1. -/
def recordMode (s : State) (i : InputId) : InputMode :=
  if 3 ≤ gateCode s i ∨ 30000 < edgeThreshold s i then .off
  else match inputModeCode s i with
    | 1 => .level
    | 2 => .frequency
    | 3 => .duty
    | 4 => .edges
    | _ => .off

/-! ### Node record (section 7.1) -/

def nodeWord (s : State) (d : NodeId) : Word := cfg s (0x6C0 + 0x10 * d.val)
def addressCode (s : State) (d : NodeId) : BitVec 6 := (nodeWord s d).extractLsb' 0 6
/-- 0 CLAMP, 1 PANEL, 2 SENSOR, 3 GENERIC. -/
def nodeKind (s : State) (d : NodeId) : Nat := fld (nodeWord s d) 8 3
/-- 0 NONE, 1 A, 2 B. -/
def nodeBinding (s : State) (d : NodeId) : Nat := fld (nodeWord s d) 12 2
def serviceMasked (s : State) (d : NodeId) : Bool := bit (nodeWord s d) 16
def reportService (s : State) (d : NodeId) : Bool := bit (nodeWord s d) 17

/-- The nest a node is bound to; NONE is none. -/
def boundNest (s : State) (d : NodeId) : Option NestId :=
  match nodeBinding s d with
  | 1 => some 0
  | 2 => some 1
  | 0 => none
  | _ => if Config.undefinedBindingIsB d.val then some 1 else some 0

/-- Number of set bits of an address code. -/
def setBits (c : BitVec 6) : Nat := ((List.range 6).filter fun i => c.getLsbD i).length

/-! ### Check entry and limits (section 6.1) -/

inductive CheckKind where
  | level | window | profile | charge | signature | query | operator
  deriving DecidableEq, Repr

inductive RailSelector where
  | instant | mean | voltage
  deriving DecidableEq, Repr

inductive SlotSelector where
  | count | lastPeriod | minPeriod | maxPeriod | field
  deriving DecidableEq, Repr

inductive Trigger where
  | now
  | mark (m : Nat)
  /-- the event is BUDGET if set, ON if clear -/
  | rail (k : Fin 3) (budget : Bool)
  | service (d : NodeId)
  /-- ms of nest clock -/
  | time (t : Nat)
  | after (c : CheckId) (passOnly : Bool)
  deriving DecidableEq, Repr

def checkWord (s : State) (c : CheckId) (i : Nat) : Word := cfg s (0x800 + 0x20 * c.val + 4 * i)
def checkNest (s : State) (c : CheckId) : NestId := if bit (checkWord s c 0) 0 then 1 else 0

def checkKind (s : State) (c : CheckId) : Option CheckKind :=
  match fld (checkWord s c 0) 1 3 with
  | 0 => some .level
  | 1 => some .window
  | 2 => some .profile
  | 3 => some .charge
  | 4 => some .signature
  | 5 => some .query
  | 6 => some .operator
  | _ => none

/-- 0 rail, 1 input, 2 slot. -/
def sourceType (s : State) (c : CheckId) : Nat := fld (checkWord s c 0) 4 2
def sourceNumber (s : State) (c : CheckId) : Nat := fld (checkWord s c 0) 8 4
def selectorCode (s : State) (c : CheckId) : Nat := fld (checkWord s c 0) 12 3

/-- The rail source of an entry: BATT, IGN or ILLUM. -/
def sourceRail (s : State) (c : CheckId) : Option (Fin 3) :=
  if h : sourceType s c = 0 ∧ sourceNumber s c < 3 then some ⟨sourceNumber s c, h.2⟩ else none

/-- The input source of an entry, counted in the nest. -/
def sourceInput (s : State) (c : CheckId) : Option (Fin 8) :=
  if h : sourceType s c = 1 ∧ sourceNumber s c < 8 then some ⟨sourceNumber s c, h.2⟩ else none

/-- The capture slot source of an entry, counted in the nest. -/
def sourceSlot (s : State) (c : CheckId) : Option (Fin 16) :=
  if h : sourceType s c = 2 ∧ sourceNumber s c < 16 then some ⟨sourceNumber s c, h.2⟩ else none

def railSelector (s : State) (c : CheckId) : Option RailSelector :=
  match selectorCode s c with
  | 0 => some .instant
  | 1 => some .mean
  | 2 => some .voltage
  | _ => none

def slotSelector (s : State) (c : CheckId) : Option SlotSelector :=
  match selectorCode s c with
  | 0 => some .count
  | 1 => some .lastPeriod
  | 2 => some .minPeriod
  | 3 => some .maxPeriod
  | 4 => some .field
  | _ => none

def fieldOffset (s : State) (c : CheckId) : Nat := fld (checkWord s c 0) 16 6
def fieldLength (s : State) (c : CheckId) : Nat := fld (checkWord s c 0) 24 5 + 1
def fieldSigned (s : State) (c : CheckId) : Bool := bit (checkWord s c 0) 31

/-- The trigger of an entry, or none if its kind or operand lies outside the table of section 6.1. -/
def checkTrigger (s : State) (c : CheckId) : Option Trigger :=
  let w := checkWord s c 1
  match fld w 0 3 with
  | 0 => some .now
  | 1 => if fld w 8 6 = 0 then none else some (.mark (fld w 8 6))
  | 2 => if h : fld w 8 2 < 3 then some (.rail ⟨fld w 8 2, h⟩ (bit w 12)) else none
  | 3 => if h : fld w 8 4 < 15 then some (.service ⟨fld w 8 4, h⟩) else none
  | 4 => if fld w 8 23 ≤ 4294966 then some (.time (fld w 8 23)) else none
  | 5 => if h : fld w 8 6 < 64 then some (.after ⟨fld w 8 6, h⟩ (bit w 16)) else none
  | _ => none

def matchMask (s : State) (c : CheckId) : Word := checkWord s c 2
/-- ms. -/
def settleDelay (s : State) (c : CheckId) : Nat := fld (checkWord s c 3) 0 16
/-- ms; 100 ms units for OPERATOR. -/
def checkWindow (s : State) (c : CheckId) : Nat := fld (checkWord s c 3) 16 16
/-- ms. -/
def sampleInterval (s : State) (c : CheckId) : Nat := fld (checkWord s c 4) 0 10
def sampleMark (s : State) (c : CheckId) : Nat := fld (checkWord s c 4) 16 6
def limitIndex (s : State) (c : CheckId) : Nat := fld (checkWord s c 4) 24 8
def limitCount (s : State) (c : CheckId) : Nat := fld (checkWord s c 5) 0 5 + 1
def queryNode (s : State) (c : CheckId) : Nat := fld (checkWord s c 5) 8 4
def queryRegister (s : State) (c : CheckId) : BitVec 8 := (checkWord s c 5).extractLsb' 16 8
def promptText (s : State) (c : CheckId) : Nat := fld (checkWord s c 5) 8 5
def answerSet (s : State) (c : CheckId) : BitVec 3 := (checkWord s c 5).extractLsb' 16 3
/-- Bits of the signature: 8, 16, 24 or 32. -/
def signatureWidth (s : State) (c : CheckId) : Nat := 8 * (fld (checkWord s c 5) 8 2 + 1)
def polynomial (s : State) (c : CheckId) : Word := checkWord s c 6
def expectedSignature (s : State) (c : CheckId) : Word := checkWord s c 7

/-- Low and high of limit record k, signed (section 6.1). -/
def limitLow (s : State) (k : Nat) : Int := (cfg s (0x1000 + 8 * k)).toInt
def limitHigh (s : State) (k : Nat) : Int := (cfg s (0x1004 + 8 * k)).toInt

/-- A marked PROFILE takes its samples after the plays of its sample mark (R111). -/
def markedProfile (s : State) (c : CheckId) : Bool :=
  checkKind s c == some .profile && sampleInterval s c == 0

/-- The kind samples a rail, an input or a slot (LEVEL, WINDOW, PROFILE). -/
def samplesSource (s : State) (c : CheckId) : Bool :=
  match checkKind s c with
  | some .level | some .window | some .profile => true
  | _ => false

/-- The kind has a limit slice (section 6.1: SIGNATURE and OPERATOR have none). -/
def hasLimits (s : State) (c : CheckId) : Bool :=
  match checkKind s c with
  | some .signature | some .operator | none => false
  | _ => true

/-- The check's source is rail k of its nest: LEVEL, WINDOW, PROFILE on any selector, and CHARGE (R116). -/
def usesRail (s : State) (c : CheckId) (k : Fin 3) : Bool :=
  (samplesSource s c || checkKind s c == some .charge) && sourceRail s c == some k

/-! ### Prompt texts and the host request ring -/

/-- The sixteen words of prompt text i at 1800h + 64 × i (R147). -/
def promptWords (s : State) (i : Nat) : List Word :=
  (List.range 16).map fun k => cfg s (0x1800 + 0x40 * i + 4 * k)

def ringWord (s : State) (q : BitVec 4) (i : Nat) : Word := cfg s (0x2000 + 0x10 * q.toNat + 4 * i)
/-- 0 PUT, 1 GET, 2 DO, 3 POLL, 4 PUT_BLOCK, 5 GET_BLOCK; 6 and 7 are not defined. -/
def ringKind (s : State) (q : BitVec 4) : Option LinkKind :=
  match fld (ringWord s q 0) 0 3 with
  | 0 => some .put
  | 1 => some .get
  | 2 => some .doCommand
  | 3 => some .poll
  | 4 => some .putBlock
  | 5 => some .getBlock
  | _ => none
def ringNode (s : State) (q : BitVec 4) : Nat := fld (ringWord s q 0) 8 4
def ringRegister (s : State) (q : BitVec 4) : BitVec 8 := (ringWord s q 0).extractLsb' 16 8
def ringTag (s : State) (q : BitVec 4) : BitVec 16 := (ringWord s q 3).extractLsb' 0 16

/-! ### Ring indices (section 11.1) -/

/-- Event consumer, whole word, 0-127. -/
def eventConsumer (s : State) : Word := cfg s 0xC4
def verdictConsumer (s : State) : Word := cfg s 0xCC
/-- Request producer, whole word, 0-15. -/
def requestProducer (s : State) : Word := cfg s 0xD0

end Sys2Proof.Machine
end

