-- ==== Sys2Proof/Machine/Flags.lean ====
section
/-!
DEFINITION. The report words of chapter 11: code tables (section 11.5), result words, snapshots, status words, event
records and verdict records. Every bit no layout assigns is 0 (R179).
-/
namespace Sys2Proof.Machine

/-! ### Code tables (section 11.5) -/

/-- Reasons of a refused action. -/
inductive Reason where
  | unknownAction | badObject | badOperand | notOpen | wrongState | busy | interlock | dependency | supplyFault
  | misaligned | badRange | badLimit | conflict | done | overflow | noPanel | badCode | duplicateCode
  deriving DecidableEq, Repr

def Reason.code : Reason → Nat
  | .unknownAction => 1
  | .badObject => 2
  | .badOperand => 3
  | .notOpen => 4
  | .wrongState => 5
  | .busy => 6
  | .interlock => 7
  | .dependency => 8
  | .supplyFault => 9
  | .misaligned => 10
  | .badRange => 11
  | .badLimit => 12
  | .conflict => 13
  | .done => 14
  | .overflow => 15
  | .noPanel => 16
  | .badCode => 18
  | .duplicateCode => 19

/-- Guard reasons. -/
inductive GuardReason where
  | locked | badIndex | partialWord | reportWord
  deriving DecidableEq, Repr

def GuardReason.code : GuardReason → Nat
  | .locked => 0
  | .badIndex => 1
  | .partialWord => 2
  | .reportWord => 3

def NestState.code : NestState → Nat
  | .idle => 0
  | .waiting => 1
  | .opened => 2
  | .draining => 3
  | .held => 4

def DrainCause.code : DrainCause → Nat
  | .none => 0
  | .released => 1
  | .aborted => 2
  | .removed => 3
  | .restart => 4

def Interlock.code : Interlock → Nat
  | .none => 0
  | .satisfied => 1
  | .unsatisfied => 2

def RailState.code : RailState → Nat
  | .off => 0
  | .probe => 1
  | .on => 2
  | .limiting => 3
  | .faultWait => 4
  | .retryTest => 5
  | .latched => 6
  | .discharging => 7

def RailCause.code : RailCause → Nat
  | .none => 0
  | .overcurrent => 1
  | .backfeed => 2
  | .short => 3
  | .supply => 4
  | .dischargeFail => 5
  | .battLost => 6
  | .drain => 7
  | .interlock => 8
  | .restart => 9

def TrackState.code : TrackState → Nat
  | .idle => 0
  | .priming => 1
  | .running => 2
  | .suspending => 3
  | .suspended => 4
  | .done => 5
  | .halted => 6
  | .faulted => 7

def TrackCause.code : TrackCause → Nat
  | .none => 0
  | .stop => 1
  | .rail => 2
  | .drain => 3
  | .badEntry => 4
  | .underrun => 5

/-- What is wrong with a bad entry (R55). -/
inductive EntryDetail where
  | none | badTarget | unclaimed | badLength | badValue
  deriving DecidableEq, Repr

def EntryDetail.code : EntryDetail → Nat
  | .none => 0
  | .badTarget => 1
  | .unclaimed => 2
  | .badLength => 3
  | .badValue => 4

def CheckState.code : CheckState → Nat
  | .idle => 0
  | .armed => 1
  | .delaying => 2
  | .sampling => 3
  | .querying => 4
  | .promptWait => 5
  | .prompting => 6
  | .decided => 7

def VerdictCode.code : VerdictCode → Nat
  | .pass => 0
  | .failLow => 1
  | .failHigh => 2
  | .mismatch => 3
  | .operatorFail => 4
  | .notTested => 5
  | .noData => 6
  | .timeout => 7
  | .sourceFault => 8
  | .aborted => 9
  | .cancelled => 10
  | .notRun => 11

/-- SOURCE_FAULT details that are not link results. -/
def detailRailNotOn : Nat := 1
def detailRailLost : Nat := 2
def detailChargeReset : Nat := 3
def detailPanelNotReady : Nat := 4
def detailPanelLost : Nat := 5

def LinkKind.code : LinkKind → Nat
  | .put => 0
  | .get => 1
  | .doCommand => 2
  | .poll => 3
  | .putBlock => 4
  | .getBlock => 5

def LinkResult.code : LinkResult → Nat
  | .ok => 0
  | .nodeError => 1
  | .refused => 2
  | .nodeLost => 3
  | .notInService => 4
  | .badRequest => 5
  | .badAddress => 6
  | .flushed => 7

/-- SOURCE_FAULT detail of a link result. -/
def detailLink (r : LinkResult) : Nat := 16 + r.code

def LinkError.code : LinkError → Nat
  | .noReply => 1
  | .badOpener => 2
  | .addressMismatch => 3
  | .nibbleCheck => 4
  | .gap => 5
  | .wordCount => 6
  | .garbled => 7

def Requester.code : Requester → Nat
  | .service => 0
  | .host _ _ _ => 1
  | .check _ _ _ => 2
  | .prompt _ _ _ _ => 3

def ContextState.code : ContextState → Nat
  | .free => 0
  | .loading => 1
  | .showing => 2
  | .shown => 3
  | .clearing => 4

/-- Ways an interlock is lost (R16). -/
inductive TripWay where
  | notClosed | outOfService | disabled
  deriving DecidableEq, Repr

def TripWay.code : TripWay → Nat
  | .notClosed => 0
  | .outOfService => 1
  | .disabled => 2

/-- Reasons of STALE_ANSWER (R150). -/
inductive StaleReason where
  | notOffered | oldSequence | notShown
  deriving DecidableEq, Repr

def StaleReason.code : StaleReason → Nat
  | .notOffered => 0
  | .oldSequence => 1
  | .notShown => 2

/-! ### Events (section 11.3) -/

/-- What an event carries: its nest (none for nest NONE), code, object byte and words 2 and 3. -/
structure Event where
  nest : Option NestId
  code : Nat
  object : Nat := 0
  word2 : Word := 0
  word3 : Word := 0
  deriving DecidableEq, Repr

def evSeatWithoutLoad (n : NestId) (probe : Nat) : Event := ⟨some n, 1, 0, pack [put 0 32 probe], 0⟩
def evSessionOpen (n : NestId) (probe : Nat) : Event := ⟨some n, 2, 0, pack [put 0 32 probe], 0⟩
def evSessionClose (n : NestId) (c : DrainCause) : Event := ⟨some n, 3, c.code, 0, 0⟩
/-- The rails forced stand in bits 8-10 in the order BATT, IGN, ILLUM. -/
def evInterlockTrip (n : NestId) (d : NodeId) (w : TripWay) (forced : List (Fin 3)) : Event :=
  ⟨some n, 4, d.val,
    pack (put 0 2 w.code :: allKinds.map fun k => put (8 + k.val) 1 (flag (forced.contains k))), 0⟩
def evInterlockRestored (n : NestId) (d : NodeId) : Event := ⟨some n, 5, d.val, 0, 0⟩
def evRailFault (r : RailId) (c : RailCause) (retry : Nat) : Event :=
  ⟨some (nestOfRail r), 6, r.val, pack [put 0 4 c.code, put 8 5 retry], 0⟩
def evRailLatched (r : RailId) (c : RailCause) (retry voltage : Nat) : Event :=
  ⟨some (nestOfRail r), 7, r.val, pack [put 0 4 c.code, put 8 5 retry], pack [put 0 32 voltage]⟩
def evRailRecovered (r : RailId) (retry voltage : Nat) : Event :=
  ⟨some (nestOfRail r), 8, r.val, pack [put 8 5 retry], pack [put 0 32 voltage]⟩
def evRailForcedOff (r : RailId) (c : RailCause) (left : RailState) : Event :=
  ⟨some (nestOfRail r), 9, r.val, pack [put 0 4 c.code, put 16 4 left.code], 0⟩
def evRailBudget (r : RailId) (charge budget : Nat) : Event :=
  ⟨some (nestOfRail r), 10, r.val, pack [put 0 32 charge], pack [put 0 32 budget]⟩
def evSupplyAlarm (n : NestId) (range temperature : Bool) : Event :=
  ⟨some n, 11, 0, pack [put 0 1 (flag range), put 1 1 (flag temperature)], 0⟩
def evSupplyNormal (n : NestId) : Event := ⟨some n, 12, 0, 0, 0⟩
def evTrackDone (n : NestId) (t : TrackId) (played underruns lateness : Nat) : Event :=
  ⟨some n, 13, t.val, pack [put 0 24 played, put 24 8 underruns], pack [put 0 16 lateness]⟩
def evTrackHalted (n : NestId) (t : TrackId) (c : TrackCause) (played : Nat) : Event :=
  ⟨some n, 14, t.val, pack [put 0 24 played, put 24 4 c.code], 0⟩
def evTrackFaulted (n : NestId) (t : TrackId) (c : TrackCause) (d : EntryDetail) (index played target : Nat) :
    Event :=
  ⟨some n, 15, t.val, pack [put 0 24 played, put 24 4 c.code, put 28 3 d.code],
    pack [put 0 12 index, put 16 5 target]⟩
/-- R61, section 11.3: the lateness field has 16 bits and the spec does not say what a greater lateness writes; that the
field then reads 65,535 is the model's choice (log 51). -/
def evTrackUnderrun (n : NestId) (t : TrackId) (played lateness : Nat) : Event :=
  ⟨some n, 16, t.val, pack [put 0 24 played], pack [put 0 16 (min 65535 lateness)]⟩
def evPortSilent (p : NestId) (identifier : BitVec 29) (extended : Bool) (removed : Nat) : Event :=
  ⟨some p, 17, p.val, pack [put 0 29 identifier.toNat, put 31 1 (flag extended)], pack [put 0 4 removed]⟩
def evStaleAnswer (n : NestId) (d : NodeId) (answer : Nat) (sequence : BitVec 8) (r : StaleReason)
    (current : BitVec 8) (st : ContextState) : Event :=
  ⟨some n, 18, d.val,
    pack [put 0 2 answer, put 8 8 sequence.toNat, put 16 2 r.code, put 24 8 current.toNat],
    pack [put 0 3 st.code]⟩
/-- The register is the one the request frame carried (R123, log 48). -/
def evNodeLost (nest : Option NestId) (d : NodeId) (address : BitVec 6) (q : Request) (register : BitVec 8)
    (first second : LinkError) : Event :=
  ⟨nest, 19, d.val,
    pack [put 0 6 address.toNat, put 8 3 q.kind.code, put 12 2 q.requester.code, put 16 3 first.code,
      put 20 3 second.code, put 24 8 register.toNat], 0⟩
def evService (nest : Option NestId) (d : NodeId) (kind : Nat) (status : Word) : Event :=
  ⟨nest, 20, d.val, status, pack [put 0 3 kind]⟩
/-- The node and kind stand as the record holds them, which may be undefined codes. -/
def evLinkReply (n : NestId) (node kind : Nat) (ring : BitVec 4) (tag : BitVec 16) (r : LinkResult) (data : Word) :
    Event :=
  ⟨some n, 21, node, data,
    pack [put 0 16 tag.toNat, put 16 4 ring.toNat, put 20 3 kind, put 24 4 r.code]⟩
/-- The offset is the word number in the control block. -/
def evGuard (r : GuardReason) (data : Word) (offset : Nat) (lanes : BitVec 4) : Event :=
  ⟨none, 22, r.code, data, pack [put 0 12 offset, put 12 4 lanes.toNat]⟩
def evRestarted : Event := ⟨none, 23, 0, 0, 0⟩

/-- R174: the four words of an event, stamped with its nest's session and clock at this moment; an event of nest NONE
carries the session and clock of nest A and, in word 3 bits 16-31, the session of nest B. -/
def Event.words (e : Event) (s : State) : List Word :=
  match e.nest with
  | some n =>
    [pack [put 0 6 e.code, put 6 2 n.val, put 8 8 e.object, put 16 16 s.nests[n].session.toNat],
     s.nests[n].clock, e.word2, e.word3]
  | none =>
    [pack [put 0 6 e.code, put 6 2 3, put 8 8 e.object, put 16 16 s.nests[0].session.toNat],
     s.nests[0].clock, e.word2,
     pack [put 0 16 e.word3.toNat, put 16 16 s.nests[1].session.toNat]]

/-! ### Other report words (section 11.3) -/

/-- Result word: action code, object, outcome and reason, take count (R165). -/
def resultWord (code object : Nat) (reason : Option Reason) (count : BitVec 8) : Word :=
  match reason with
  | none => pack [put 0 8 code, put 8 8 object, put 24 8 count.toNat]
  | some r => pack [put 0 8 code, put 8 8 object, put 16 1 1, put 17 5 r.code, put 24 8 count.toNat]

/-- Status area words 0-3 (R177). -/
def summaryWords (p : Post) : List Word :=
  [p.identity,
   pack [put 0 1 (flag p.ready), put 1 1 (flag p.paused), put 8 4 p.outOfService],
   pack [put 0 32 p.lost],
   pack [put 0 32 p.guards]]

/-- R38: the sum of the 64 samples divided by 64, truncated. -/
def Rail.mean (r : Rail) : Nat := r.history.sum / 64

/-- R28: the supply fault flag is set while either condition is reported. -/
def Supply.faulty (u : Supply) : Bool := u.range || u.temperature

/-- Rail snapshot (R42): for BATT in PROBE the instant-current field carries the probe current, marked in bit 24. -/
def railSnapshot (r : Rail) (u : Supply) : List Word :=
  let probing := r.state == .probe
  [pack [put 0 4 r.state.code, put 4 4 r.cause.code, put 8 5 r.retry, put 13 1 (flag r.crossed),
      put 16 16 r.voltage],
   pack [put 0 23 (if probing then u.probe else r.current), put 24 1 (flag probing), put 25 1 (flag u.range),
      put 26 1 (flag u.temperature)],
   pack [put 0 32 r.mean],
   pack [put 0 32 r.charge]]

/-- Input snapshot (R96, R179): the value, or 80000000h for NO_DATA. -/
def inputSnapshot (i : Input) : List Word :=
  [match i.value with
    | some v => pack [put 0 32 v]
    | none => 0x80000000#32]

/-- Track status (R67). -/
def trackStatus (t : Track) : List Word :=
  [pack [put 0 24 t.played, put 24 3 t.state.code, put 28 3 t.cause.code],
   pack [put 0 16 t.lateness, put 16 8 t.underruns, put 24 8 t.dropped]]

/-- Nest status (R18). -/
def nestStatus (n : Nest) : List Word :=
  [pack [put 0 3 n.state.code, put 4 3 n.cause.code, put 8 1 (flag n.seat), put 12 2 n.interlock.code,
      put 14 1 (flag n.trip), put 16 16 n.session.toNat],
   n.clock, 0, 0]

/-- Verdict record (R117): a trigger time absent is 0 with the present flag clear (R179). -/
def Verdict.words (v : Verdict) : List Word :=
  [pack [put 0 6 v.check.val, put 6 2 v.nest.val, put 8 8 v.arming.toNat, put 16 16 v.session.toNat],
   pack [put 0 4 v.decision.verdict.code, put 4 1 (flag v.trigger.isSome), put 16 16 v.decision.detail],
   BitVec.ofInt 32 v.decision.a,
   BitVec.ofInt 32 v.decision.b,
   v.trigger.getD 0,
   v.time, 0, 0]

end Sys2Proof.Machine
end

