-- ==== Sys2Proof/Machine/Posting.lean ====
section
/-!
DEFINITION. What every block asks of the Posting Engine: coalescing slots (R176, R177), events (R172, R174), verdicts
(R119, R172), block items, and the ATTENTION line (R178).
-/
namespace Sys2Proof.Machine

/-- R176: an offer replaces the value of a place that holds one and keeps its position; an empty place joins the tail. That
the request consumer holding place stands among the others in this order is the model's choice (log 61). -/
def upsertPlace (p : Place) (v : List Word) : List (Place × List Word) → List (Place × List Word)
  | [] => [(p, v)]
  | (q, w) :: r => if q = p then (q, v) :: r else (q, w) :: upsertPlace p v r

/-- R176. -/
def offer (p : Place) (v : List Word) (s : State) : State :=
  s.modPost fun q => { q with places := upsertPlace p v q.places }

/-- R177: the summary's value is made at its grant, so an offer only makes the place pending. -/
def offerSummary (s : State) : State := offer .summary [] s

/-- R18: the value of the nest status at this moment. -/
def offerNest (n : NestId) (s : State) : State := offer (.nest n) (nestStatus s.nests[n]) s

/-- R67. -/
def offerTrack (t : TrackId) (s : State) : State := offer (.track t) (trackStatus s.tracks[t]) s

/-- R42. -/
def offerRail (r : RailId) (s : State) : State :=
  offer (.rail r) (railSnapshot s.rails[r] s.supplies[nestOfRail r]) s

/-- R96. -/
def offerInput (i : InputId) (s : State) : State := offer (.input i) (inputSnapshot s.inputs[i]) s

/-- R171: the event ring's free room. -/
def eventRoom (s : State) : Nat := 127 - (s.post.eventReserve - (eventConsumer s).setWidth 7).toNat

/-- R171: the verdict log's free room. -/
def verdictRoom (s : State) : Nat := 127 - (s.post.verdictReserve - (verdictConsumer s).setWidth 7).toNat

/-- The post FIFO holds fewer than 32 items. -/
def fifoFree (s : State) : Bool := decide (s.post.fifo.length < Config.fifoPlaces)

/-- R172: an event enters the FIFO with a reserved slot, or is discarded and counted as lost. R172 and R173 have the count
offered also while PTH is FILLING, and R177 says that no field is offered then; that it is offered is the model's choice
(log 59). -/
def postEvent (e : Event) (s : State) : State :=
  if fifoFree s && decide (1 ≤ eventRoom s) then
    s.modPost fun q =>
      { q with fifo := q.fifo ++ [.event q.eventReserve (e.words s)], eventReserve := q.eventReserve + 1 }
  else
    offerSummary (s.modPost fun q => { q with lost := satAdd max32 q.lost 1 })

/-- R119, R172: the head of the unposted list, a DECIDED check that holds its verdict (R97), enters the FIFO when FIFO and
log have room; its check goes IDLE. -/
def takeVerdict (s : State) : Option State :=
  match s.unposted with
  | [] => none
  | c :: rest =>
    match s.checks[c].held with
    | none => none
    | some v =>
      if s.checks[c].state = .decided ∧ fifoFree s = true ∧ 1 ≤ verdictRoom s then
        some (((s.modPost fun q =>
            { q with
              fifo := q.fifo ++ [.verdict q.verdictReserve v.words]
              verdictReserve := q.verdictReserve + 1 }).modCheck c
            fun k => { k with state := .idle, held := none }).setUnposted rest)
      else none

/-- Take waiting verdicts while there is room, at most `n`. -/
def takeVerdicts : Nat → State → State
  | 0, s => s
  | n + 1, s =>
    match takeVerdict s with
    | none => s
    | some s' => takeVerdicts n s'

/-- R172: the waiting verdicts are tested. -/
def testVerdicts (s : State) : State := takeVerdicts s.unposted.length s

/-- R172: a BLOCK item enters the FIFO; it reserves nothing. -/
def pushBlock (b : BlockItem) (s : State) : State :=
  s.modPost fun q => { q with fifo := q.fifo ++ [.block b.buffer b.words] }

/-- R178: ATTENTION is asserted while either ring holds unconsumed records. -/
def judgeAttention (s : State) : State :=
  s.modPost fun q =>
    { q with
      attention := q.eventProducer != (eventConsumer s).setWidth 7
        || q.verdictProducer != (verdictConsumer s).setWidth 7 }

end Sys2Proof.Machine
end

