-- ==== Sys2Proof/Machine/LinkQueue.lean ====
section
/-!
DEFINITION. The link request queue as its requesters see it: placing a request (R130), offering and holding (R131),
and the steps PRC offers (R147).
-/
namespace Sys2Proof.Machine

def Request.isServicePoll (q : Request) : Bool := q.requester == .service

/-- R130: a service poll stands behind every waiting service poll and ahead of every other request; every other
request stands at the tail. -/
def enqueue (q : Request) (l : List Request) : List Request :=
  if q.isServicePoll then
    l.filter Request.isServicePoll ++ q :: l.filter fun x => !x.isServicePoll
  else l ++ [q]

/-- The queue has a free place. -/
def linkFree (s : State) : Bool := decide (s.link.queue.length < Config.linkPlaces)

def joinQueue (q : Request) (s : State) : State :=
  s.modLink fun l => { l with queue := enqueue q l.queue }

/-- A service poll of a node (R126, R141). -/
def servicePoll (d : NodeId) : Request := ⟨.poll, d, 0, 0, .service⟩

/-- R131: a service poll is taken into the queue, or held by its node. -/
def offerPoll (d : NodeId) (s : State) : State :=
  if linkFree s then joinQueue (servicePoll d) s
  else s.modNode d fun x => { x with pollHeld := true }

/-- R114: the GET of a QUERY check, carrying its arming. -/
def queryRequest (s : State) (c : CheckId) : Request :=
  let k := s.checks[c]
  ⟨.get, ⟨queryNode s c % 15, Nat.mod_lt _ (by decide)⟩, queryRegister s c, 0, .check c k.arming k.session⟩

/-- R114, R131: the query is ISSUED into the queue or HELD by CHK. -/
def offerQuery (c : CheckId) (s : State) : State :=
  if linkFree s then
    (joinQueue (queryRequest s c) s).modCheck c fun k => { k with query := .issued }
  else s.modCheck c fun k => { k with query := .held }

/-- R147, section 11.4: the three steps as link requests. -/
def stepRequest (n : NestId) (panel : NodeId) (sequence : BitVec 8) (answers : BitVec 3) (text : Nat) :
    PromptStep → Request
  | .load => ⟨.putBlock, panel, BitVec.ofNat 8 text, 0, .prompt n sequence .load text⟩
  | .show =>
    ⟨.doCommand, panel, 0x01#8, pack [put 0 8 sequence.toNat, put 8 3 answers.toNat, put 16 5 text],
      .prompt n sequence .show text⟩
  | .clear => ⟨.doCommand, panel, 0x02#8, pack [put 0 8 sequence.toNat], .prompt n sequence .clear text⟩

/-- The request of a step of the nest's prompt context. -/
def contextRequest (s : State) (n : NestId) (k : PromptStep) : Request :=
  let p := s.prompts[n]
  stepRequest n p.panel p.sequence p.answers p.text k

/-- R147: the step is taken into the queue (offered) or waits for a place (held). -/
def offerStep (n : NestId) (k : PromptStep) (s : State) : State :=
  if linkFree s then
    (joinQueue (contextRequest s n k) s).modPrompt n fun p => { p with step := some (k, false) }
  else s.modPrompt n fun p => { p with step := some (k, true) }

end Sys2Proof.Machine
end

