-- ==== Sys2Proof/Machine/Waiting.lean ====
section
/-!
DEFINITION. The prompt waiting list of a nest (section 8.2): joining it, and the taking of its head by a FREE context. What
decides a check is a parameter here, since a decision can itself bring a check to the list (R105).
-/
namespace Sys2Proof.Machine

/-- R115: the check joins the tail of its nest's prompt waiting list. -/
def joinWaiting (c : CheckId) (s : State) : State :=
  let k := s.checks[c]
  s.modPrompt (checkNest s c) fun p => { p with waiting := p.waiting ++ [⟨c, k.arming, k.session⟩] }

/-- R118: the check is still in the arming that asked. -/
def sameArming (s : State) (c : CheckId) (arming : BitVec 8) (session : BitVec 16) : Bool :=
  s.checks[c].arming == arming && s.checks[c].session == session

/-- R115, R118: a prompt outcome decides its check, or is discarded. -/
def admitOutcome (decide : CheckId → Decision → State → State) (a : Arming) (d : Decision) (s : State) : State :=
  if (s.checks[a.check].state = .prompting ∨ s.checks[a.check].state = .promptWait)
      ∧ sameArming s a.check a.arming a.session then
    decide a.check d s
  else s

/-- The nest's panel node, if it is IN_SERVICE and of kind PANEL. -/
def readyPanel (s : State) (n : NestId) : Option NodeId :=
  match panelNode s n with
  | none => none
  | some d => if s.nodes[d].state = .inService ∧ nodeKind s d = 1 then some d else none

/-- After 255 the next sequence is 1. -/
def nextSequence (q : BitVec 8) : BitVec 8 := if q = 255#8 then 1 else q + 1

/-- R146, R118: CHK is told of the taking and moves the check that waits in this arming to PROMPTING. -/
def Check.taken (k : Check) (a : Arming) : Check :=
  if k.state = .promptWait ∧ k.arming = a.arming ∧ k.session = a.session then { k with state := .prompting } else k

/-- R146: the head is taken into the context, whose panel is ready. -/
def openPrompt (n : NestId) (a : Arming) (d : NodeId) (s : State) : State :=
  let s := s.modPrompt n fun p =>
    { p with
      state := .loading
      sequence := nextSequence p.sequence
      check := some a
      text := promptText s a.check
      answers := answerSet s a.check
      panel := d
      withdrawn := false }
  offerStep n .load (s.modCheck a.check fun k => k.taken a)

/-- R146: a FREE context takes the head of its waiting list, or decides it PANEL_NOT_READY. -/
def takeHead (decide : CheckId → Decision → State → State) (n : NestId) (s : State) : Option State :=
  match s.prompts[n].state, s.prompts[n].waiting with
  | .free, a :: rest =>
    let s' := s.modPrompt n fun p => { p with waiting := rest }
    match readyPanel s n with
    | none => some (admitOutcome decide a { verdict := .sourceFault, detail := detailPanelNotReady } s')
    | some d => some (openPrompt n a d s')
  | _, _ => none

/-- R146: at most `k` heads, one after another, until a prompt is taken or the list is empty. -/
def takeHeadsFuel (decide : CheckId → Decision → State → State) (n : NestId) : Nat → State → State
  | 0, s => s
  | k + 1, s =>
    match takeHead decide n s with
    | none => s
    | some t => takeHeadsFuel decide n k t

/-- R145, R146: the test made when an entry joins the list of a FREE context and at every entry into FREE. A check that a
decision brings to the list meanwhile makes the test itself, so the entries present are enough. -/
def takeHeads (decide : CheckId → Decision → State → State) (n : NestId) (s : State) : State :=
  takeHeadsFuel decide n s.prompts[n].waiting.length s

end Sys2Proof.Machine
end

