-- ==== Sys2Proof/Machine/Checks.lean ====
section
/-!
DEFINITION. The Check Unit (chapter 6): samples, limits, signatures, triggers, decisions with their AFTER chains, source
faults, query results, prompt outcomes, drain and RESTART of checks.
-/
namespace Sys2Proof.Machine

/-- The clock of the check's nest (R97). -/
def checkClock (s : State) (c : CheckId) : Clock := s.nests[checkNest s c].clock

/-- Microseconds from `t` to the present clock of the check's nest, modulo 2^32. -/
def since (s : State) (c : CheckId) (t : Clock) : Nat := (checkClock s c - t).toNat

/-- A check that is ARMED, running or waiting, so that a drain, RESTART or cancel ends it (R103, R120). -/
def CheckState.undecided : CheckState → Bool
  | .armed | .delaying | .sampling | .querying | .promptWait | .prompting => true
  | .idle | .decided => false

/-! ### Samples and limits (section 6.4) -/

/-- The payload as 64 bits, byte 0 first (R84). -/
def payloadBits (p : Vector Byte 8) : Nat := p.toList.foldl (fun a b => 256 * a + b.toNat) 0

/-- R106: `length` bits from the offset, the first most significant; signed: the first bit is the sign. -/
def cutField (p : Vector Byte 8) (offset length : Nat) (signed : Bool) : Int :=
  let v := payloadBits p / 2 ^ (64 - offset - length) % 2 ^ length
  if signed && decide (2 ^ (length - 1) ≤ v) then (v : Int) - (2 ^ length : Nat) else (v : Int)

/-- R106, a rail source. -/
def sampleRail (s : State) (c : CheckId) (k : Fin 3) : Option Int :=
  let r := s.rails[railOf (checkNest s c) k]
  match railSelector s c with
  | some .instant => some r.current
  | some .mean => some r.mean
  | some .voltage => some r.voltage
  | none => none

/-- R106, a capture slot source; a field that reaches beyond the last length has no value. -/
def sampleSlot (s : State) (c : CheckId) (j : Fin 16) : Option Int :=
  let x := s.capture[captureOf (checkNest s c) j]
  match slotSelector s c with
  | some .count => some x.count
  | some .lastPeriod => x.lastPeriod.map fun p => (p.toNat : Int)
  | some .minPeriod => x.minPeriod.map fun p => (p.toNat : Int)
  | some .maxPeriod => x.maxPeriod.map fun p => (p.toNat : Int)
  | some .field =>
    if x.count = 0 ∨ 8 * x.length < fieldOffset s c + fieldLength s c then none
    else some (cutField x.payload (fieldOffset s c) (fieldLength s c) (fieldSigned s c))
  | none => none

/-- R106: the value of the check's source at this moment, or none for a missing sample. -/
def sample (s : State) (c : CheckId) : Option Int :=
  match sourceRail s c, sourceInput s c, sourceSlot s c with
  | some k, _, _ => sampleRail s c k
  | none, some i, _ => (s.inputs[inputOf (checkNest s c) i]).value.map fun v => (v : Int)
  | none, none, some j => sampleSlot s c j
  | none, none, none => none

/-- R107: low and high are inclusive. -/
def judge (v low high : Int) : VerdictCode :=
  if v < low then .failLow else if high < v then .failHigh else .pass

/-- R107 against limit record k. -/
def judgeRecord (s : State) (k : Nat) (v : Int) : VerdictCode := judge v (limitLow s k) (limitHigh s k)

/-! ### Signatures (R113) -/

/-- All ones of the width. -/
def signatureSeed (width : Nat) : Word := BitVec.ofNat 32 (2 ^ width - 1)

/-- R113, steps 1 to 3 for one data bit. -/
def signatureBit (width : Nat) (poly acc : Word) (d : Bool) : Word :=
  let top := acc.getLsbD (width - 1)
  let shifted := (acc <<< 1) &&& signatureSeed width
  if top != d then shifted ^^^ poly else shifted

/-- R113: each byte is fed most significant bit first. -/
def signatureByte (width : Nat) (poly acc : Word) (b : Byte) : Word :=
  [7, 6, 5, 4, 3, 2, 1, 0].foldl (fun a i => signatureBit width poly a (b.getLsbD i)) acc

def signatureFrame (width : Nat) (poly acc : Word) (payload : List Byte) : Word :=
  payload.foldl (signatureByte width poly) acc

/-! ### Decisions (R117) -/

/-- R117 without the AFTER dependants: the verdict record is held, the check is DECIDED, joins the unposted list and
is offered to PST. -/
def recordDecision (c : CheckId) (d : Decision) (s : State) : State :=
  let k := s.checks[c]
  let v : Verdict :=
    { check := c, nest := checkNest s c, arming := k.arming, session := k.session, decision := d
      trigger := k.trigger, time := checkClock s c }
  testVerdicts ((s.modCheck c fun k =>
    { k with
      state := .decided
      due := none
      query := if k.query = .held then .none else k.query
      held := some v }).setUnposted (s.unposted ++ [c]))

/-- R114: a QUERY check enters QUERYING, its wait begins (R97), and it offers its GET. -/
def startQuery (c : CheckId) (s : State) : State :=
  offerQuery c (s.modCheck c fun k => { k with state := .querying, phase := checkClock s c })

/-- R110, R111: sample i is compared with record (limit index + i); the outcome decides, or the profile goes on. -/
def takeProfileSample (c : CheckId) (s : State) : State × Option Decision :=
  let i := s.checks[c].samples
  let s := s.modCheck c fun k => { k with due := none }
  match sample s c with
  | none => (s, some { verdict := .noData, detail := i })
  | some v =>
    let s := s.modCheck c fun k => { k with samples := i + 1, last := some v }
    let r := limitIndex s c + i
    match judgeRecord s r v with
    | .failLow => (s, some { verdict := .failLow, detail := i, a := v, b := limitLow s r })
    | .failHigh => (s, some { verdict := .failHigh, detail := i, a := v, b := limitHigh s r })
    | _ =>
      if limitCount s c ≤ i + 1 then (s, some { verdict := .pass, detail := limitCount s c, a := v })
      else (s, none)

/-- R109: each sample advances the count and updates minimum and maximum; a missing sample decides NO_DATA. -/
def takeWindowSample (c : CheckId) (s : State) : State × Option Decision :=
  match sample s c with
  | none => (s, some { verdict := .noData, detail := s.checks[c].samples })
  | some v =>
    (s.modCheck c fun k =>
      { k with
        samples := k.samples + 1
        last := some v
        minimum := some (match k.minimum with | some m => min m v | none => v)
        maximum := some (match k.maximum with | some m => max m v | none => v) }, none)

/-- R108: one sample decides a LEVEL check. -/
def takeLevelSample (c : CheckId) (s : State) : State × Option Decision :=
  match sample s c with
  | none => (s, some { verdict := .noData })
  | some v =>
    (s.modCheck c fun k => { k with samples := 1, last := some v },
      some { verdict := judgeRecord s (limitIndex s c) v, detail := 1, a := v })

/-- The step that ends a settle delay, by kind (R108, R109, R110, R113, R114). -/
def endDelay (c : CheckId) (s : State) : State × Option Decision :=
  let sampling := s.modCheck c fun k => { k with state := .sampling, phase := checkClock s c }
  match checkKind s c with
  | some .level => takeLevelSample c s
  | some .window => takeWindowSample c sampling
  | some .profile => takeProfileSample c sampling
  | some .signature => (sampling, none)
  | some .query => (startQuery c s, none)
  | some .charge | some .operator | none => (s, none)

/-- R104: DELAYING with the settle delay; with a delay of 0 the step that ends it is taken at once. -/
def startDelay (c : CheckId) (s : State) : State × Option Decision :=
  let s := s.modCheck c fun k => { k with state := .delaying, phase := checkClock s c }
  if settleDelay s c = 0 then endDelay c s else (s, none)

/-- R112: a CHARGE check on a rail out of service is decided at once; otherwise the base is taken. -/
def startCharge (c : CheckId) (s : State) : State × Option Decision :=
  match sourceRail s c with
  | none => (s, some { verdict := .sourceFault, detail := detailRailNotOn })
  | some k =>
    let r := s.rails[railOf (checkNest s c) k]
    if r.state = .on ∨ r.state = .limiting then
      (s.modCheck c fun k => { k with state := .sampling, base := r.charge, phase := checkClock s c }, none)
    else (s, some { verdict := .sourceFault, detail := detailRailNotOn })

/-- R104: the nest clock is recorded as trigger time and the check is started by its kind. The result names a decision
that falls at the trigger itself. An OPERATOR check begins its wait (R97, log 45) and joins its nest's list. -/
def startCheck (c : CheckId) (s : State) : State × Option Decision :=
  let s := s.modCheck c fun k => { k with trigger := some (checkClock s c) }
  match checkKind s c with
  | some .level | some .window | some .query => startDelay c s
  | some .profile =>
    if markedProfile s c then
      (s.modCheck c fun k => { k with state := .sampling, phase := checkClock s c }, none)
    else startDelay c s
  | some .charge => startCharge c s
  | some .signature =>
    startDelay c (s.modCheck c fun k => { k with signature := signatureSeed (signatureWidth s c), fed := 0 })
  | some .operator =>
    (joinWaiting c (s.modCheck c fun k => { k with state := .promptWait, phase := checkClock s c }), none)
  | none => (s, none)

/-- R105: check e waits with AFTER c and is ARMED in the nest of c. -/
def waitsAfter (s : State) (c e : CheckId) : Option Bool :=
  if s.checks[e].state = .armed ∧ checkNest s e = checkNest s c then
    match checkTrigger s e with
    | some (.after d passOnly) => if d = c then some passOnly else none
    | _ => none
  else none

/-- R104, R145: a check is started; a decision at the trigger itself is carried out, and an OPERATOR check that joined its
nest's waiting list has the head of the list taken at once if the context is FREE. -/
def beginCheck (decide : CheckId → Decision → State → State) (c : CheckId) (s : State) : State :=
  match startCheck c s with
  | (s, some d) => decide c d s
  | (s, none) => if checkKind s c = some .operator then takeHeads decide (checkNest s c) s else s

/-- R117, R105: every decision, whatever its cause. The dependants of c are taken in check-number order, each with its
own dependants first, and the heads of waiting lists that its dependants bring about. The fuel bounds the depth of the
chain: no check is decided twice in it, so 64 is enough. -/
def decideFuel : Nat → CheckId → Decision → State → State
  | 0, c, d, s => recordDecision c d s
  | f + 1, c, d, s =>
    (recordDecision c d s).forEach allChecks fun e s =>
      match waitsAfter s c e with
      | none => s
      | some passOnly =>
        if passOnly && d.verdict != .pass then
          decideFuel f e { verdict := .notRun, detail := d.verdict.code } s
        else beginCheck (decideFuel f) e s

/-- R117. -/
def decideCheck (c : CheckId) (d : Decision) (s : State) : State := decideFuel 64 c d s

/-- Carry out the decision a check step ended with. -/
def finishCheck (c : CheckId) (x : State × Option Decision) : State :=
  match x with
  | (s, none) => s
  | (s, some d) => decideCheck c d s

/-- R104: a trigger is taken by a check only while it is ARMED. -/
def triggerCheck (c : CheckId) (s : State) : State :=
  if s.checks[c].state = .armed then beginCheck decideCheck c s else s

/-! ### Triggers from the other blocks (R104) -/

/-- R111: a sample mark: sample i becomes pending, is taken at once, or overlaps the pending one. -/
def takeSampleMark (c : CheckId) (s : State) : State :=
  match s.checks[c].due with
  | some _ => decideCheck c { verdict := .noData, detail := s.checks[c].samples } s
  | none =>
    if settleDelay s c = 0 then finishCheck c (takeProfileSample c s)
    else s.modCheck c fun k =>
      { k with due := some (checkClock s c + BitVec.ofNat 32 (1000 * settleDelay s c)) }

/-- A marked PROFILE of the nest that is SAMPLING with sample mark m. -/
def awaitsMark (s : State) (n : NestId) (m : Nat) (c : CheckId) : Bool :=
  s.checks[c].state == .sampling && checkNest s c == n && markedProfile s c && sampleMark s c == m

/-- R104 MARK, R57: the nest and mark of a played entry. A check this delivery has triggered does not also take it as a
sample mark, so sample marks go to the checks that awaited them before the delivery. That MARK triggers and sample marks
are taken in one pass in check-number order is the model's choice (log 54). -/
def deliverMark (n : NestId) (m : Nat) (s0 : State) : State :=
  s0.forEach allChecks fun c s =>
    if s.checks[c].state = .armed ∧ checkNest s c = n ∧ checkTrigger s c = some (.mark m) then triggerCheck c s
    else if awaitsMark s0 n m c && awaitsMark s n m c then takeSampleMark c s
    else s

/-- R104 RAIL: a rail reaching ON, or a budget crossing. -/
def railTrigger (r : RailId) (budget : Bool) (s : State) : State :=
  s.forEach allChecks fun c s =>
    if checkNest s c = nestOfRail r ∧ checkTrigger s c = some (.rail (kindOfRail r) budget) then triggerCheck c s
    else s

/-- R104 SERVICE: a poll status word of a node, whatever the check's nest. -/
def serviceTrigger (d : NodeId) (w : Word) (s : State) : State :=
  s.forEach allChecks fun c s =>
    if checkTrigger s c = some (.service d) ∧ matchMask s c &&& w ≠ 0 then triggerCheck c s
    else s

/-- R104 TIME: the nest clock is at or above t × 1000 µs. -/
def timeReached (s : State) (c : CheckId) : Bool :=
  match checkTrigger s c with
  | some (.time t) => decide (1000 * t ≤ (checkClock s c).toNat)
  | _ => false

/-! ### Arming (section 6.2) -/

/-- R100 test 3, the source of the kind. -/
def sourceInRange (s : State) (c : CheckId) (k : CheckKind) : Bool :=
  match k with
  | .level | .window | .profile =>
    ((sourceRail s c).isSome && (railSelector s c).isSome)
      || (sourceInput s c).isSome
      || ((sourceSlot s c).isSome && (slotSelector s c).isSome
        && (slotSelector s c != some .field || decide (fieldOffset s c + fieldLength s c ≤ 64)))
  | .charge => (sourceRail s c).isSome
  | .signature => (sourceSlot s c).isSome
  | .query | .operator => true

/-- R100 test 3, the trigger: SERVICE with a mask that is not 0, AFTER a check other than this one. -/
def triggerInRange (s : State) (c : CheckId) : Bool :=
  match checkTrigger s c with
  | none => false
  | some (.service _) => matchMask s c != 0
  | some (.after d _) => d != c
  | some _ => true

/-- R100 test 3, the limit slice. -/
def limitsInRange (s : State) (c : CheckId) (k : CheckKind) : Bool :=
  match k with
  | .profile => decide (limitIndex s c + limitCount s c ≤ 256)
  | .level | .window | .charge | .query => limitCount s c == 1 && decide (limitIndex s c + limitCount s c ≤ 256)
  | .signature | .operator => true

/-- R100 test 3, the fields of one kind only. -/
def kindFieldsInRange (s : State) (c : CheckId) (k : CheckKind) : Bool :=
  match k with
  | .level | .charge => true
  | .window => decide (1 ≤ sampleInterval s c) && decide (sampleInterval s c ≤ 1000)
  | .profile =>
    decide (sampleInterval s c ≤ 1000) && (sampleInterval s c != 0 || sampleMark s c != 0)
  | .query => decide (queryNode s c ≤ 14)
  | .operator => answerSet s c != 0
  | .signature =>
    decide ((polynomial s c).toNat < 2 ^ signatureWidth s c)
      && decide ((expectedSignature s c).toNat < 2 ^ signatureWidth s c)

/-- R100 test 3: the entry is in range in the fields its kind uses. -/
def entryInRange (s : State) (c : CheckId) : Bool :=
  match checkKind s c with
  | none => false
  | some k =>
    sourceInRange s c k && triggerInRange s c && (k == .level || checkWindow s c != 0) && limitsInRange s c k
      && kindFieldsInRange s c k

/-- R100 test 4: every record of the limit slice has low at or below high. -/
def sliceOrdered (s : State) (c : CheckId) : Bool :=
  !hasLimits s c
    || (List.range (limitCount s c)).all fun i =>
        decide (limitLow s (limitIndex s c + i) ≤ limitHigh s (limitIndex s c + i))

/-- R100: the tests of an arming, in order; none means accepted. -/
def armRefusal (s : State) (c : CheckId) : Option Reason :=
  if s.checks[c].state ≠ .idle then some .busy
  else if s.nests[checkNest s c].state ≠ .opened then some .notOpen
  else if !entryInRange s c then some .badRange
  else if !sliceOrdered s c then some .badLimit
  else if checkKind s c = some .operator ∧ panelNode s (checkNest s c) = none then some .noPanel
  else none

/-- R101 without the triggers taken at once. -/
def armCheck (c : CheckId) (s : State) : State :=
  s.modCheck c fun k =>
    { k with
      state := .armed
      arming := k.arming + 1
      session := s.nests[checkNest s c].session
      trigger := none
      samples := 0
      fed := 0
      minimum := none
      maximum := none
      last := none
      due := none
      query := .none }

/-- R101: a check with trigger NOW, or a TIME already reached, is triggered in the taking that arms it. -/
def triggerAtArming (c : CheckId) (s : State) : State :=
  if checkTrigger s c = some .now ∨ timeReached s c then triggerCheck c s else s

/-- CHECK_ARM (R99, R100, R101). -/
def actCheckArm (obj _opd : Nat) (s : State) : Except Reason State :=
  if h : obj < 64 then
    match armRefusal s ⟨obj, h⟩ with
    | some r => .error r
    | none => .ok (triggerAtArming ⟨obj, h⟩ (armCheck ⟨obj, h⟩ s))
  else .error .badObject

/-- The checks of a run, in check-number order. -/
def runChecks (first count : Nat) : List CheckId :=
  allChecks.filter fun c => decide (first ≤ c.val) && decide (c.val < first + count)

/-- CHECK_ARM_RUN (R102): all or none; then the NOW and reached-TIME triggers of the run. -/
def actCheckArmRun (obj opd : Nat) (s : State) : Except Reason State :=
  if 64 ≤ obj then .error .badObject
  else if opd = 0 ∨ 64 < opd ∨ 64 < obj + opd then .error .badRange
  else
    match (runChecks obj opd).findSome? (armRefusal s) with
    | some r => .error r
    | none =>
      .ok ((s.forEach (runChecks obj opd) armCheck).forEach (runChecks obj opd) triggerAtArming)

/-! ### Source faults (R116) -/

/-- R33, R116: loss of service of a rail decides the running checks that sample it. -/
def checksRailLost (r : RailId) (s0 : State) : State :=
  s0.forEach allChecks fun c s =>
    let running (s : State) : Bool :=
      (s.checks[c].state == .delaying || s.checks[c].state == .sampling)
        && checkNest s c == nestOfRail r && usesRail s c (kindOfRail r)
    if running s0 && running s then
      decideCheck c { verdict := .sourceFault, detail := detailRailLost, a := s.checks[c].last.getD 0 } s
    else s

/-- R41, R116: RAIL_CHARGE_RESET decides the CHARGE checks that measure on the rail. -/
def checksChargeReset (r : RailId) (s0 : State) : State :=
  s0.forEach allChecks fun c s =>
    let running (s : State) : Bool :=
      (s.checks[c].state == .delaying || s.checks[c].state == .sampling)
        && checkNest s c == nestOfRail r && checkKind s c == some .charge
        && sourceRail s c == some (kindOfRail r)
    if running s0 && running s then
      decideCheck c { verdict := .sourceFault, detail := detailChargeReset } s
    else s

/-! ### Results from FXL and PRC (R114, R115, R118) -/

/-- R114: the decision of a query result. -/
def queryDecision (s : State) (c : CheckId) (r : LinkResult) (w : Word) : Decision :=
  if r = .ok then { verdict := judgeRecord s (limitIndex s c) w.toInt, a := w.toInt }
  else { verdict := .sourceFault, detail := detailLink r }

/-- R114, R118: a query result decides its check, or is discarded. -/
def queryResult (c : CheckId) (arming : BitVec 8) (session : BitVec 16) (r : LinkResult) (w : Word) (s : State) :
    State :=
  if s.checks[c].state = .querying ∧ sameArming s c arming session then
    decideCheck c (queryDecision s c r w) s
  else s

/-- R115, R118: a prompt outcome decides its check, or is discarded. -/
def promptOutcome (a : Arming) (d : Decision) (s : State) : State := admitOutcome decideCheck a d s

/-! ### Windows (R109 to R114) -/

/-- The decision of a PROFILE whose window ends (R110, R111). -/
def profileTimeout (s : State) (c : CheckId) : Decision :=
  { verdict := .timeout, detail := s.checks[c].samples, a := s.checks[c].last.getD 0 }

/-- R109: FAIL_LOW by the minimum, otherwise FAIL_HIGH by the maximum, otherwise PASS. -/
def windowDecision (s : State) (c : CheckId) : Decision :=
  let k := s.checks[c]
  let low := k.minimum.getD 0
  let high := k.maximum.getD 0
  { verdict :=
      if low < limitLow s (limitIndex s c) then .failLow
      else if limitHigh s (limitIndex s c) < high then .failHigh
      else .pass
    detail := k.samples, a := low, b := high }

/-- R112: the accumulator minus the base, and the mean current. -/
def chargeDecision (s : State) (c : CheckId) : Decision :=
  match sourceRail s c with
  | none => { verdict := .sourceFault, detail := detailRailNotOn }
  | some k =>
    let r := s.rails[railOf (checkNest s c) k]
    let d : Int := (r.charge : Int) - (s.checks[c].base : Int)
    { verdict := judgeRecord s (limitIndex s c) d, a := d, b := r.mean }

/-- R113: NO_DATA without frames, PASS on the expected value, MISMATCH otherwise. -/
def signatureDecision (s : State) (c : CheckId) : Decision :=
  let k := s.checks[c]
  { verdict :=
      if k.fed = 0 then .noData
      else if k.signature = expectedSignature s c then .pass
      else .mismatch
    a := k.signature.toNat, b := k.fed }

/-- Samples a WINDOW check takes: the window over the interval, rounded up (R109). -/
def windowSamples (s : State) (c : CheckId) : Nat :=
  (checkWindow s c + sampleInterval s c - 1) / sampleInterval s c

/-- The window of the check has ended at this moment: its decision, by kind. A WINDOW check has taken all its samples
before (R109, log 35). LEVEL and OPERATOR have no window here. -/
def windowEnded (s : State) (c : CheckId) : Option Decision :=
  let k := s.checks[c]
  let w := 1000 * checkWindow s c
  let fromPhase := decide (w ≤ since s c k.phase)
  let fromTrigger := k.trigger.any fun t => decide (w ≤ since s c t)
  match checkKind s c with
  | some .window =>
    if k.state = .sampling ∧ fromPhase ∧ windowSamples s c ≤ k.samples then some (windowDecision s c) else none
  | some .profile =>
    if (k.state = .delaying ∨ k.state = .sampling) ∧ fromTrigger then some (profileTimeout s c) else none
  | some .charge => if k.state = .sampling ∧ fromTrigger then some (chargeDecision s c) else none
  | some .signature => if k.state = .sampling ∧ fromPhase then some (signatureDecision s c) else none
  | some .query =>
    if (k.state = .delaying ∨ k.state = .querying) ∧ fromTrigger then some { verdict := .timeout } else none
  | some .level | some .operator | none => none

/-! ### Captured frames (R84, R113) -/

/-- R84, R113: the frame is fed to each SIGNATURE check of the slot that is SAMPLING. -/
def feedSignatures (n : NestId) (j : Fin 16) (payload : List Byte) (s : State) : State :=
  s.forEach allChecks fun c s =>
    if s.checks[c].state = .sampling ∧ checkNest s c = n ∧ checkKind s c = some .signature
        ∧ sourceSlot s c = some j then
      s.modCheck c fun k =>
        { k with
          fed := satAdd max32 k.fed 1
          signature := signatureFrame (signatureWidth s c) (polynomial s c) k.signature payload }
    else s

/-! ### Drain and RESTART (section 6.8) -/

/-- R120: every undecided check of the nest is decided ABORTED with the state it left; these decisions fire no AFTER
triggers. -/
def abortChecks (n : NestId) (s : State) : State :=
  s.forEach allChecks fun c s =>
    if s.checks[c].state.undecided ∧ checkNest s c = n then
      recordDecision c { verdict := .aborted, detail := s.checks[c].state.code } s
    else s

/-- R121: every undecided check enters IDLE without a verdict; DECIDED checks keep their verdicts. -/
def restartChecks (s : State) : State :=
  s.forEach allChecks fun c s =>
    if s.checks[c].state.undecided then
      s.modCheck c fun k =>
        { k with
          state := .idle
          due := none
          query := if k.query = .held then .none else k.query }
    else s

/-! ### Locks (R98) -/

/-- R98: the entry of check c is locked while the check is not IDLE. -/
def checkLocked (s : State) (c : CheckId) : Bool := s.checks[c].state != .idle

/-- R98: limit record k lies in the slice of a check that is not IDLE. -/
def limitLocked (s : State) (k : Nat) : Bool :=
  allChecks.any fun c =>
    checkLocked s c && hasLimits s c && decide (limitIndex s c ≤ k) && decide (k < limitIndex s c + limitCount s c)

/-- R98: a check that is not IDLE samples the input. -/
def inputLocked (s : State) (i : InputId) : Bool :=
  allChecks.any fun c =>
    checkLocked s c && samplesSource s c
      && (match sourceInput s c with | some j => inputOf (checkNest s c) j == i | none => false)

end Sys2Proof.Machine
end

