-- ==== Sys2Proof/Machine/FrameQueue.lean ====
section
/-!
DEFINITION. The transmit queue of a port (R70, R74): arbitration keys, the place of a new frame, removal, and the stall
list.
-/
namespace Sys2Proof.Machine

/-- R70: the identifier if extended, the identifier shifted left 18 places if standard. -/
def arbitrationKey (identifier : BitVec 29) (extended : Bool) : Nat :=
  if extended then identifier.toNat else identifier.toNat * 2 ^ 18

def Frame.key (f : Frame) : Nat := arbitrationKey f.identifier f.extended

/-- The place a new frame takes: behind every frame of equal or lower key, since it is the youngest. -/
def framePlace (f : Frame) (l : List Frame) : Nat := (l.takeWhile fun g => decide (g.key ≤ f.key)).length

/-- R70: queue a frame with the present submission number; the frame being sent keeps its identity. -/
def Port.queueFrame (p : Port) (f : Frame) : Port :=
  let f := { f with number := p.number, attempts := 0 }
  let i := framePlace f p.queue
  { p with
    queue := p.queue.take i ++ f :: p.queue.drop i
    inFlight := p.inFlight.map fun j => if i ≤ j then j + 1 else j
    number := p.number + 1 }

/-- A place of the port's queue is free. -/
def Port.free (p : Port) : Bool := decide (p.queue.length < Config.portPlaces)

/-- R75: a track is taken off the stall lists without a drop. -/
def unstall (t : TrackId) (s : State) : State :=
  s.forEach allNests fun p s => s.modPort p fun x => { x with stall := x.stall.filter fun u => u != t }

end Sys2Proof.Machine
end

