-- ==== Sys2Proof/Machine/Stimulus.lean ====
section
/-!
DEFINITION. The Stimulus Engine (chapter 3): outputs and claims, launch, fetch, invalidation, play, frames, underrun,
suspend, resume, stop, extend, halts and RESTART of tracks.
-/
namespace Sys2Proof.Machine

/-- Active states (R45). -/
def TrackState.active : TrackState → Bool
  | .priming | .running | .suspending | .suspended => true
  | .idle | .done | .halted | .faulted => false

/-- R51: an active track keeps a request waiting while entries remain to be fetched and a place is free; the request
is withdrawn when the track stops being active. -/
def Track.renew (t : Track) : Track :=
  { t with
    request := t.state.active && decide (t.fetched < t.total)
      && decide (t.held.length < Config.prefetchPlaces) }

/-- Change a track and renew its fetch request. -/
def changeTrack (t : TrackId) (f : Track → Track) (s : State) : State := s.modTrack t fun x => (f x).renew

/-! ### Outputs and claims (section 3.2) -/

/-- R47: the idle value of output o. -/
def idleOutput (n : NestId) (o : Fin 16) (s : State) : State :=
  s.modOutputs n fun x =>
    if h : o.val < 4 then { x with pulse := x.pulse.set o.val Pulse.idle }
    else if h : o.val < 8 then { x with level := x.level.set (o.val - 4) 0 }
    else { x with line := x.line.set (o.val - 8) false }

/-- The outputs track t claims go to their idle values. -/
def idleClaimed (t : TrackId) (s : State) : State :=
  s.forEach allNests fun n s => s.forEach (List.finRange 16) fun o s =>
    if s.claims[claimOf n o] = some t then idleOutput n o s else s

/-- R46: a track releases all its claims and the frame flag. -/
def releaseClaims (t : TrackId) (s : State) : State :=
  (s.setClaims (s.claims.map fun o => if o = some t then none else o)).forEach allNests fun n s =>
    s.modHolders n fun v => v.set t false

/-- R66: every output of a nest is set to its idle value. -/
def idleNest (n : NestId) (s : State) : State := s.modOutputs n fun _ => Outputs.idle

/-- R47: a PULSE entry. A duty of 0 keeps the duty the output holds (log 20). That this is the duty in force, where the
entry replaces values held pending, is the model's choice (log 57). -/
def Pulse.apply (p : Pulse) (frequency duty : Nat) : Pulse :=
  let d := if duty = 0 then p.duty else duty
  if frequency = 0 then { frequency := 0, duty := d, waiting := none }
  else if p.frequency = 0 then { frequency := frequency, duty := d, waiting := none }
  else { p with waiting := some (frequency, d) }

/-- R47: the end of a pulse period puts the pending values in force. -/
def Pulse.periodEnd (p : Pulse) : Pulse :=
  match p.waiting with
  | none => p
  | some (f, d) => { frequency := f, duty := d, waiting := none }

/-- R47: lines of the clear mask open first, then lines of the set mask close. -/
def applyDiscrete (e : Entry) (v : Vector Bool 8) : Vector Bool 8 :=
  Vector.ofFn fun i : Fin 8 => if e.setMask i then true else if e.clearMask i then false else v[i]

/-- R56 step 2 for the targets that set an output. -/
def applyTarget (n : NestId) (e : Entry) (s : State) : State :=
  match e.target with
  | some (.pulse k) =>
    s.modOutputs n fun x => { x with pulse := x.pulse.set k (x.pulse[k].apply e.w1.toNat e.duty) }
  | some (.level k) => s.modOutputs n fun x => { x with level := x.level.set k e.w1.toNat }
  | some .discrete => s.modOutputs n fun x => { x with line := applyDiscrete e x.line }
  | some .wait | some .frame | none => s

/-! ### Ends of a track -/

/-- R60: completion. -/
def completeTrack (t : TrackId) (s : State) : State :=
  let s := changeTrack t (fun x => { x with state := .done, cause := .none }) (releaseClaims t s)
  let x := s.tracks[t]
  offerTrack t (postEvent (evTrackDone (trackNest s t) t x.played x.underruns x.lateness) s)

/-- R64, R66: an active track halts with a cause; a frame waiting or stalled is discarded unsent. -/
def haltTrack (c : TrackCause) (t : TrackId) (s : State) : State :=
  let s := changeTrack t
    (fun x => { x with state := .halted, cause := c, held := [], stalled := false })
    (unstall t (releaseClaims t (idleClaimed t s)))
  offerTrack t (postEvent (evTrackHalted (trackNest s t) t c s.tracks[t].played) s)

/-- R55, R61: a track faults; under policy STOP its outputs keep their values. -/
def faultTrack (c : TrackCause) (d : EntryDetail) (index target : Nat) (idles : Bool) (t : TrackId) (s : State) :
    State :=
  let s := if idles then idleClaimed t s else s
  let s := changeTrack t
    (fun x => { x with state := .faulted, cause := c, held := [], stalled := false })
    (unstall t (releaseClaims t s))
  offerTrack t (postEvent (evTrackFaulted (trackNest s t) t c d index s.tracks[t].played target) s)

/-! ### Play (section 3.5) -/

/-- Greatest interval (R54). -/
def maxInterval : Nat := 8589934591

/-- The claim on output o of the nest is held by t. -/
def holdsOutput (s : State) (n : NestId) (t : TrackId) (o : Fin 16) : Bool := s.claims[claimOf n o] == some t

/-- R55, UNCLAIMED: the entry names an output its track has not claimed, or is a FRAME without the frame flag. -/
def unclaimed (s : State) (t : TrackId) (e : Entry) : Bool :=
  let n := trackNest s t
  match e.target with
  | some (.pulse k) => !holdsOutput s n t ⟨k.val, by omega⟩
  | some (.level k) => !holdsOutput s n t ⟨4 + k.val, by omega⟩
  | some .discrete =>
    (List.finRange 8).any fun i =>
      (e.setMask i || e.clearMask i) && !holdsOutput s n t ⟨8 + i.val, by omega⟩
  | some .frame => !s.frameHolders[n][t]
  | some .wait | none => false

/-- R55, BAD_VALUE. -/
def valueOutOfRange (e : Entry) : Bool :=
  match e.target with
  | some (.pulse _) =>
    (decide (1 ≤ e.w1.toNat) && decide (e.w1.toNat ≤ 99)) || decide (20000000 < e.w1.toNat) || decide (99 < e.duty)
  | some (.level _) => decide (5000 < e.w1.toNat)
  | some .frame => !e.extended && decide (2047 < e.identifier.toNat)
  | some .wait | some .discrete | none => false

/-- R55: what is wrong with an entry, the cases in the order of the rule (log 19). -/
def entryFault (s : State) (t : TrackId) (e : Entry) : EntryDetail :=
  if e.target = none then .badTarget
  else if unclaimed s t e then .unclaimed
  else if e.target = some .frame ∧ 8 < e.frameLength then .badLength
  else if valueOutOfRange e then .badValue
  else .none

/-- R54, R56 step 4: the lateness is taken, the interval restarts and played advances. -/
def Track.takePlay (x : Track) (required : Nat) : Track :=
  { x with
    played := x.played + 1
    lateness := max x.lateness (min 65535 (x.interval - required))
    interval := 0 }

/-- R56 steps 5 and 6, and R62 for a SUSPENDING track. -/
def afterPlay (t : TrackId) (s : State) : State :=
  let x := s.tracks[t]
  if x.played = x.total then completeTrack t s
  else
    let s := if x.held.isEmpty then changeTrack t (fun x => { x with starved := true }) s else s
    let s :=
      if x.state = .suspending then offerTrack t (changeTrack t (fun x => { x with state := .suspended }) s) else s
    if x.played % 256 = 0 then offerTrack t s else s

/-- R56: the head is played. A FRAME entry has been queued or dropped before. -/
def playHead (t : TrackId) (s : State) : State :=
  match s.tracks[t].held with
  | [] => s
  | e :: rest =>
    let n := trackNest s t
    let s := changeTrack t (fun x => { x with held := rest }) s
    let s := applyTarget n e s
    let s := if e.mark = 0 then s else deliverMark n e.mark s
    afterPlay t (changeTrack t (fun x => x.takePlay e.required) s)

/-! ### Frames (section 3.6) -/

/-- The frame STE hands VNP (R58); VNP gives it its number (R70). -/
def frameOf (s : State) (t : TrackId) (e : Entry) : Frame :=
  ⟨e.identifier, e.extended, e.payload, t, s.tracks[t].launch, 0, 0⟩

/-- R59: frames dropped advances and the track status is offered. -/
def countDrop (t : TrackId) (s : State) : State :=
  offerTrack t (changeTrack t (fun x => { x with dropped := satAdd 255 x.dropped 1 }) s)

/-- R59, R80: a queued frame is given up; it counts if it belongs to the track's current launch. -/
def reportDrop (f : Frame) (s : State) : State :=
  if s.tracks[f.track].launch = f.launch then countDrop f.track s else s

/-- The frame of a stalled or submitting track is queued and its entry is played (R58, R75). -/
def queueAndPlay (p : NestId) (t : TrackId) (e : Entry) (s : State) : State :=
  let s := s.modPort p fun x => x.queueFrame (frameOf s t e)
  playHead t (changeTrack t (fun x => { x with stalled := false, gap := some 0 }) s)

/-- R58 step 2, R74. -/
def submitFrame (t : TrackId) (e : Entry) (s : State) : State :=
  let p := trackNest s t
  if s.ports[p].state = .on then
    if s.ports[p].free then queueAndPlay p t e s
    else
      changeTrack t (fun x => { x with stalled := true })
        (s.modPort p fun x => { x with stall := x.stall ++ [t] })
  else playHead t (changeTrack t (fun x => { x with gap := some 0 }) (countDrop t s))

/-- R58 step 1: the frame gap has not passed. -/
def gapOpen (s : State) (t : TrackId) : Bool :=
  match s.tracks[t].gap with
  | none => false
  | some g => decide (g < frameGap s t)

/-- R58: a stalled frame is dropped because its port left ON (R73, R79): it counts, and its entry is played. -/
def dropStalled (t : TrackId) (s : State) : State :=
  playHead t (changeTrack t (fun x => { x with stalled := false }) (countDrop t s))

/-- R55, R56, R58: the due head is tested, and played, submitted or left waiting on its gap. -/
def handleDue (t : TrackId) (s : State) : State :=
  match s.tracks[t].held with
  | [] => s
  | e :: _ =>
    match entryFault s t e with
    | .none =>
      if e.target = some .frame then (if gapOpen s t then s else submitFrame t e s)
      else playHead t s
    | d => faultTrack .badEntry d e.index e.targetCode true t s

/-- The head is present, due, and not yet handed to the port (R54). -/
def headDue (s : State) (t : TrackId) : Bool :=
  let x := s.tracks[t]
  x.state == .running && !x.stalled
    && (match x.held with | [] => false | e :: _ => decide (e.required ≤ x.interval))

/-! ### Underrun (R61) -/

/-- R61: the head of a starved track is compared with the interval. Under HOLD the underrun is counted and reported
before the entry is handled (log 21). -/
def underrunTest (t : TrackId) (s : State) : State :=
  match s.tracks[t].held with
  | [] => s
  | e :: _ =>
    let s := changeTrack t (fun x => { x with starved := false }) s
    let x := s.tracks[t]
    if x.interval ≤ e.required then s
    else if underrunPolicy s t = 0 then
      let s := changeTrack t
        (fun x => { x with underruns := satAdd 255 x.underruns 1, underrunReported := true }) s
      let s :=
        if x.underrunReported then s
        else postEvent (evTrackUnderrun (trackNest s t) t x.played (x.interval - e.required)) s
      handleDue t (offerTrack t s)
    else faultTrack .underrun .none e.index 0 (underrunPolicy s t == 1) t s

/-! ### Fetching (section 3.4) -/

/-- Word number of the entry at the fetch index (R51). -/
def entryWord (s : State) (t : TrackId) (index : Nat) : Nat := bufferBase s t / 4 + 4 * index

/-- The entry in memory at the track's fetch index. -/
def entryAt (s : State) (t : TrackId) : Entry :=
  let i := s.tracks[t].fetchIndex
  let w := entryWord s t i
  ⟨i, readWord s.mem w, readWord s.mem (w + 1), readWord s.mem (w + 2), readWord s.mem (w + 3)⟩

/-- R52: the entry joins the prefetch; the fetch may end priming (R50) or meet a starved track (R61). -/
def fetchEntry (t : TrackId) (s : State) : State :=
  let e := entryAt s t
  let s := changeTrack t
    (fun x =>
      { x with
        held := x.held ++ [e]
        fetchIndex := (x.fetchIndex + 1) % bufferSize s t
        fetched := x.fetched + 1 }) s
  let x := s.tracks[t]
  if x.state = .priming ∧ (x.held.length = Config.prefetchPlaces ∨ x.fetched = x.total) then
    offerTrack t (changeTrack t (fun x => { x with state := .running, interval := 0 }) s)
  else if x.state = .running ∧ x.starved then underrunTest t s
  else s

/-- The stored word lies in the entry at this buffer index. -/
def touchesEntry (s : State) (t : TrackId) (w : Nat) (e : Entry) : Bool :=
  (w % 4194304) / 4 == (entryWord s t e.index % 4194304) / 4

/-- R53 for one track: the touched entry and those behind it are discarded and the fetch index rewinds. -/
def invalidateTrack (w : Nat) (t : TrackId) (s : State) : State :=
  let x := s.tracks[t]
  let kept := x.held.takeWhile fun e => !touchesEntry s t w e
  match x.held.drop kept.length with
  | [] => s
  | e :: gone =>
    if !x.state.active then s
    else
      let s := changeTrack t
        (fun x =>
          { x with
            held := kept
            fetchIndex := e.index
            fetched := x.fetched - (gone.length + 1) }) s
      if !kept.isEmpty then s
      else
        let s := unstall t (changeTrack t (fun x => { x with stalled := false }) s)
        match x.state with
        | .running => changeTrack t (fun x => { x with starved := true }) s
        | .suspending => offerTrack t (changeTrack t (fun x => { x with state := .suspended }) s)
        | _ => s

/-- R53, R166: a host store performed at the memory port, by its word number. That the tracks it touches are taken in
track-number order is the model's choice (log 52). -/
def invalidateEntries (w : Nat) (s : State) : State := s.forEach allTracks (invalidateTrack w)

/-! ### The track actions (sections 3.3 and 3.8) -/

/-- A rail is in service (section 2.5). -/
def inService (s : State) (r : RailId) : Bool := s.rails[r].state == .on || s.rails[r].state == .limiting

/-- R49 test 3. -/
def railsReady (s : State) (t : TrackId) : Bool :=
  allKinds.all fun k => !requiresRail s t k || inService s (railOf (trackNest s t) k)

/-- R49 test 5: no byte of the buffer in the control block or beyond the address space. -/
def bufferPlaced (s : State) (t : TrackId) : Bool :=
  let lo := bufferBase s t
  let hi := lo + 16 * bufferSize s t
  let block := 16384 * s.path.base.toNat
  decide (hi ≤ memorySize) && (decide (hi ≤ block) || decide (block + 16384 ≤ lo))

/-- R49 test 6: an output of the claim set is held by another active track. -/
def claimConflict (s : State) (t : TrackId) : Bool :=
  (List.finRange 16).any fun o =>
    claimsOutput s t o
      && (match s.claims[claimOf (trackNest s t) o] with
          | some u => u != t && s.tracks[u].state.active
          | none => false)

/-- R49: the tests of TRACK_LAUNCH, in order. -/
def launchRefusal (s : State) (t : TrackId) : Option Reason :=
  if s.tracks[t].state.active then some .busy
  else if s.nests[trackNest s t].state ≠ .opened then some .notOpen
  else if !railsReady s t then some .dependency
  else if sizeCode s t ≤ 8 ∧ bufferBase s t % (16 * bufferSize s t) ≠ 0 then some .misaligned
  else if 8 < sizeCode s t ∨ bufferSize s t ≤ startIndex s t ∨ entryCount s t = 0 ∨ 2 < underrunPolicy s t
      ∨ !bufferPlaced s t then some .badRange
  else if claimConflict s t then some .conflict
  else none

/-- R46: the claims of the claim set, and the frame flag, are taken. -/
def takeClaims (t : TrackId) (s : State) : State :=
  let n := trackNest s t
  let s := s.forEach (List.finRange 16) fun o s =>
    if claimsOutput s t o then s.setClaims (s.claims.set (claimOf n o) (some t)) else s
  if claimsFrames s t then s.modHolders n fun v => v.set t true else s

/-- TRACK_LAUNCH accepted (R49). -/
def launchTrack (t : TrackId) (s : State) : State :=
  offerTrack t (changeTrack t
    (fun x =>
      { x with
        state := .priming
        cause := .none
        launch := x.launch + 1
        total := entryCount s t
        played := 0
        fetched := 0
        fetchIndex := startIndex s t
        held := []
        interval := 0
        starved := false
        stalled := false
        underrunReported := false
        gap := none
        underruns := 0
        lateness := 0
        dropped := 0 }) (takeClaims t s))

/-- An action on the track named by the object; any other object is BAD_OBJECT (R48). -/
def onTrack (act : TrackId → State → Except Reason State) (obj : Nat) (s : State) : Except Reason State :=
  if h : obj < 8 then act ⟨obj, h⟩ s else .error .badObject

/-- TRACK_LAUNCH (R49). -/
def actTrackLaunch (obj _opd : Nat) (s : State) : Except Reason State :=
  onTrack (fun t s =>
    match launchRefusal s t with
    | some r => .error r
    | none => .ok (launchTrack t s)) obj s

/-- TRACK_SUSPEND (R62). -/
def actTrackSuspend (obj _opd : Nat) (s : State) : Except Reason State :=
  onTrack (fun t s =>
    match s.tracks[t].state with
    | .running =>
      .ok (offerTrack t (changeTrack t
        (fun x => { x with state := if x.stalled then .suspending else .suspended }) s))
    | .suspending | .suspended => .ok s
    | .priming => .error .busy
    | .idle | .done | .halted | .faulted => .error .wrongState) obj s

/-- R63 in SUSPENDED: back to RUNNING; an empty prefetch with entries remaining is starved; a starved track with its
head present makes the underrun test. -/
def resumeTrack (t : TrackId) (s : State) : State :=
  let s := offerTrack t (changeTrack t
    (fun x =>
      { x with
        state := .running
        starved := x.starved || (x.held.isEmpty && decide (x.played < x.total)) }) s)
  if s.tracks[t].starved then underrunTest t s else s

/-- TRACK_RESUME (R63). -/
def actTrackResume (obj _opd : Nat) (s : State) : Except Reason State :=
  onTrack (fun t s =>
    match s.tracks[t].state with
    | .suspended => .ok (resumeTrack t s)
    | .suspending => .ok (offerTrack t (changeTrack t (fun x => { x with state := .running }) s))
    | .running => .ok s
    | .idle | .priming | .done | .halted | .faulted => .error .wrongState) obj s

/-- TRACK_STOP (R64). -/
def actTrackStop (obj _opd : Nat) (s : State) : Except Reason State :=
  onTrack (fun t s =>
    match s.tracks[t].state with
    | .priming | .running | .suspending | .suspended => .ok (haltTrack .stop t s)
    | .done | .halted | .faulted => .ok s
    | .idle => .error .wrongState) obj s

/-- TRACK_EXTEND (R65). -/
def actTrackExtend (obj opd : Nat) (s : State) : Except Reason State :=
  onTrack (fun t s =>
    if opd = 0 ∨ 65535 < opd then .error .badOperand
    else if s.tracks[t].state = .done then .error .done
    else if !s.tracks[t].state.active then .error .wrongState
    else if 16777215 < s.tracks[t].total + opd then .error .overflow
    else .ok (changeTrack t (fun x => { x with total := x.total + opd }) s)) obj s

/-! ### Halts from rails and drains, RESTART (sections 3.9 and 3.11) -/

/-- R33, R66: every active track of the nest that requires the rail halts with cause RAIL. -/
def haltForRail (r : RailId) (s : State) : State :=
  s.forEach allTracks fun t s =>
    if s.tracks[t].state.active ∧ trackNest s t = nestOfRail r ∧ requiresRail s t (kindOfRail r) then
      haltTrack .rail t s
    else s

/-- R12 step 1, R66: every active track of the nest halts with cause DRAIN, then every output of the nest is idled. -/
def drainTracks (n : NestId) (s : State) : State :=
  idleNest n (s.forEach allTracks fun t s =>
    if s.tracks[t].state.active ∧ trackNest s t = n then haltTrack .drain t s else s)

/-- R68: RESTART of one track that is not IDLE. -/
def restartTrack (t : TrackId) (s : State) : State :=
  if s.tracks[t].state = .idle then s
  else
    offerTrack t (changeTrack t
      (fun x => { x with state := .idle, cause := .none, held := [], stalled := false })
      (unstall t (releaseClaims t s)))

/-- R68. That the tracks are taken in track-number order is the model's choice (log 52). -/
def restartTracks (s : State) : State :=
  (s.forEach allTracks restartTrack).forEach allNests idleNest

end Sys2Proof.Machine
end

