-- ==== Sys2Proof/Machine/Network.lean ====
section
/-!
DEFINITION. The Vehicle Network Ports (chapter 4): start and stop, the stall list, attempts and their outcomes, silence,
reception and capture, sessions, drain and RESTART of ports.
-/
namespace Sys2Proof.Machine

/-! ### Frames given up (R73, R79, R80) -/

/-- The attempt in flight is abandoned, and every queued frame is removed in queue order and reported dropped. -/
def dropQueue (p : NestId) (s : State) : State :=
  (s.modPort p fun x => { x with queue := [], inFlight := none }).forEach s.ports[p].queue reportDrop

/-- Each track of the stall list has its stalled frame dropped, in list order. -/
def dropStallList (p : NestId) (s : State) : State :=
  (s.modPort p fun x => { x with stall := [] }).forEach s.ports[p].stall dropStalled

/-- R75: while a place is free, the port is ON and the stall list is not empty, the place goes to the track at the head
of the list. -/
def offerPlace (p : NestId) (s : State) : State :=
  let x := s.ports[p]
  if x.state = .on ∧ x.free then
    match x.stall with
    | [] => s
    | t :: rest =>
      let s := s.modPort p fun x => { x with stall := rest }
      match s.tracks[t].held with
      | [] => s
      | e :: _ => queueAndPlay p t e s
  else s

/-! ### Start and stop (section 4.2) -/

/-- R72: the period base of every capture slot of the nest becomes absent. -/
def dropBases (n : NestId) (s : State) : State :=
  s.forEach (List.finRange 16) fun j s => s.modCapture (captureOf n j) fun x => { x with base := none }

/-- R72, R180. -/
def portRecordInRange (s : State) (p : NestId) : Bool :=
  decide (bitRateCode s p ≤ 3) && decide (retryLimit s p ≤ 7)

/-- R72 accepted. -/
def startPort (p : NestId) (s : State) : State :=
  let enter (s : State) : State := s.modPort p fun x => { x with state := .on, failures := 0 }
  match s.ports[p].state with
  | .off => dropBases p (enter s)
  | .silent => enter s
  | .on => s

/-- An action on the nest or port named by the object; any other object is BAD_OBJECT (R3, R71). -/
def onNest (act : NestId → State → Except Reason State) (obj : Nat) (s : State) : Except Reason State :=
  if h : obj < 2 then act ⟨obj, h⟩ s else .error .badObject

/-- PORT_START (R72). -/
def actPortStart (obj _opd : Nat) (s : State) : Except Reason State :=
  onNest (fun p s =>
    if s.nests[p].state ≠ .opened then .error .notOpen
    else if !portRecordInRange s p then .error .badRange
    else .ok (startPort p s)) obj s

/-- R73. -/
def stopPort (p : NestId) (s : State) : State :=
  if s.ports[p].state = .off then s
  else (dropStallList p (dropQueue p s)).modPort p fun x => { x with state := .off }

/-- PORT_STOP (R73). -/
def actPortStop (obj _opd : Nat) (s : State) : Except Reason State :=
  onNest (fun p s => .ok (stopPort p s)) obj s

/-! ### Attempts (section 4.4) -/

/-- R76: a port that is ON, with no attempt in flight and a frame queued, may begin an attempt; the bus being free is
what the command says. -/
def attemptReady (x : Port) : Bool := x.state == .on && x.inFlight.isNone && !x.queue.isEmpty

/-- The frame in flight, with its place. -/
def Port.flying (x : Port) : Option (Nat × Frame) :=
  match x.inFlight with
  | none => none
  | some i => (x.queue[i]?).map fun f => (i, f)

/-- R77, ACKED. -/
def frameAcked (p : NestId) (i : Nat) (s : State) : State :=
  offerPlace p (s.modPort p fun x =>
    { x with queue := x.queue.eraseIdx i, inFlight := none, failures := 0 })

/-- R79, with the frame whose failure silences the port. -/
def silencePort (p : NestId) (f : Frame) (s : State) : State :=
  let removed := s.ports[p].queue.length + s.ports[p].stall.length
  let s := s.modPort p fun x => { x with state := .silent }
  postEvent (evPortSilent p f.identifier f.extended removed) (dropStallList p (dropQueue p s))

/-- R78, the frame fails. -/
def frameFails (p : NestId) (i : Nat) (f : Frame) (s : State) : State :=
  let s := reportDrop f (s.modPort p fun x => { x with queue := x.queue.eraseIdx i, inFlight := none })
  let s := s.modPort p fun x => { x with failures := min Config.silenceAfter (x.failures + 1) }
  if s.ports[p].failures = Config.silenceAfter then silencePort p f s else offerPlace p s

/-- R78, NOT_ACKED. -/
def frameNotAcked (p : NestId) (i : Nat) (f : Frame) (s : State) : State :=
  if f.attempts + 1 < 1 + retryLimit s p then
    s.modPort p fun x =>
      { x with queue := x.queue.set i { f with attempts := f.attempts + 1 }, inFlight := none }
  else frameFails p i f s

/-! ### Reception and capture (section 4.6) -/

/-- R81. -/
def frameSound (f : DutFrame) : Bool := f.intact && decide (f.length ≤ 8)

/-- The payload bytes of the frame in the order sent. -/
def frameBytes (f : DutFrame) : List Byte := f.payload.toList.take f.length

/-- R82: filter j of the nest matches the frame; for a standard frame bits above bit 10 take no part. -/
def filterMatches (s : State) (n : NestId) (f : DutFrame) (j : Fin 16) : Bool :=
  let w (i : Nat) : Word := filterWord s (captureOf n j) i
  let mask : BitVec 29 := (w 2).extractLsb' 0 29 &&& (if f.extended then BitVec.allOnes 29 else 0x7FF#29)
  bit (w 0) 0 && bit (w 0) 1 == f.extended
    && (w 1).extractLsb' 0 29 &&& mask == f.identifier &&& mask

/-- R83, steps 1 to 4, at this arrival time. -/
def Capture.update (x : Capture) (f : DutFrame) (arrival : Clock) : Capture :=
  let period := x.base.map fun b => arrival - b
  let keep (better : Word → Word → Bool) (old : Option Word) : Option Word :=
    match period, old with
    | none, o => o
    | some p, none => some p
    | some p, some o => if better p o then some p else some o
  { count := satAdd max32 x.count 1
    length := f.length
    payload := Vector.ofFn fun i : Fin 8 => if i.val < f.length then f.payload[i] else 0
    base := some arrival
    lastPeriod := if period.isSome then period else x.lastPeriod
    minPeriod := keep (fun p o => p < o) x.minPeriod
    maxPeriod := keep (fun p o => o < p) x.maxPeriod }

/-- R82, R83, R84: the first matching filter takes the frame; its slot is updated and CHK is handed the frame. -/
def captureFrame (n : NestId) (f : DutFrame) (s : State) : State :=
  match (List.finRange 16).find? (filterMatches s n f) with
  | none => s
  | some j =>
    feedSignatures n j (frameBytes f) (s.modCapture (captureOf n j) fun x => x.update f s.nests[n].clock)

/-- R81, R73: the port hears a sound frame while it is ON or SILENT, unless it went OFF while the frame was on the bus
(log 44). -/
def hears (x : Port) (f : DutFrame) : Bool := x.state != .off && frameSound f && !f.cut

/-- R81: a frame of the DUT ends on the bus of the port. -/
def receiveFrame (p : NestId) (f : DutFrame) (s : State) : State :=
  let heard := hears s.ports[p] f
  let s := s.modPort p fun x => { x with ackDriven := heard }
  if heard then captureFrame p f s else s

/-! ### Sessions, drain and RESTART (section 4.7) -/

/-- R85, session open: the nest's capture slots are cleared. -/
def clearCapture (n : NestId) (s : State) : State :=
  s.forEach (List.finRange 16) fun j s => s.modCapture (captureOf n j) fun _ => Capture.clear

/-- R85, drain entry. -/
def drainPort (p : NestId) (s : State) : State :=
  if s.ports[p].state = .off then s
  else (dropQueue p s).modPort p fun x => { x with state := .off }

/-- R86. actRestart takes the port of nest A first, an order the spec does not give (log 46). -/
def restartPort (p : NestId) (s : State) : State :=
  if s.ports[p].state = .off then s
  else (dropQueue p s).modPort p fun x => { x with state := .off, stall := [] }

end Sys2Proof.Machine
end

