-- ==== Sys2Proof/Machine/Inputs.lean ====
section
/-!
DEFINITION. The Response Inputs (chapter 5): restarts, readings, edges, gates, the values of the four modes, the end of
a session and snapshots.
-/
namespace Sys2Proof.Machine

/-- Greatest rising-edge count (R87). -/
def maxEdges : Nat := 2147483647

/-- R87: an input is measuring while its nest is OPEN or DRAINING and its mode is not OFF. -/
def sessionRuns (s : State) (n : NestId) : Bool :=
  s.nests[n].state == .opened || s.nests[n].state == .draining

/-- R88: the comparator is HIGH at or above the edge threshold, and always with a threshold of 0. -/
def lineHigh (s : State) (i : InputId) (line : Int) : Bool :=
  edgeThreshold s i == 0 || decide ((edgeThreshold s i : Int) ≤ line)

/-- R88: the comparator of input i gives edges: the input is measuring and its threshold is not 0. -/
def seesEdges (s : State) (i : InputId) : Bool := s.inputs[i].measuring && edgeThreshold s i != 0

/-- R89: a restart with the present voltage of the line. At a nest sample of the nest the gate begins at once, otherwise
it is NOT_STARTED until the next nest sample. -/
def restartInput (i : InputId) (line : Int) (atSample : Bool) (s : State) : State :=
  let mode := recordMode s i
  s.modInput i fun _ =>
    { measuring := mode != .off
      mode := mode
      history := []
      taken := 0
      high := lineHigh s i line
      position := if mode != .off && atSample then some 0 else none
      firstDone := false
      gate := Gate.clear
      edges := 0
      value := none
      lastEdge := none }

/-! ### Edges (R88, R90, R94) -/

/-- R90 step 2: the time since the latest rising edge is added to the high time since the first rising edge. -/
def Gate.fall (g : Gate) (clock : Clock) : Gate :=
  match g.first, g.last with
  | some _, some l => { g with high := g.high + (clock - l).toNat }
  | _, _ => g

/-- R90 step 1. -/
def Gate.rise (g : Gate) (clock : Clock) : Gate :=
  { rising := satAdd maxEdges g.rising 1
    first := some (g.first.getD clock)
    last := some clock
    high := g.high
    highToLast := g.high }

/-- R88, R90, R94: a rising edge of a gate that has begun is counted. -/
def Input.countRise (x : Input) (clock : Clock) : Input :=
  let edges := satAdd maxEdges x.edges 1
  { x with
    edges := edges
    gate := x.gate.rise clock
    value := if x.mode = .edges ∧ x.firstDone then some edges else x.value }

/-- The latest edge, if it is stamped with this clock value. -/
def Input.edgeAt (x : Input) (clock : Clock) : Option EdgeMark := x.lastEdge.filter fun m => m.clock == clock

/-- The latest edge is taken back, with what it counted. -/
def Input.undoEdge (x : Input) (m : EdgeMark) : Input :=
  { x with
    high := !x.high
    edges := m.edges
    gate := m.gate
    value := if x.mode = .edges ∧ x.firstDone then some m.edges else x.value
    lastEdge := none }

/-- R88: the comparator of a measuring input changes, on no other edge of this clock value. Before the first gate of the
input begins the edge is not counted (R89). -/
def Input.newEdge (x : Input) (clock : Clock) : Input :=
  let y := { x with high := !x.high, lastEdge := some ⟨clock, x.gate, x.edges⟩ }
  if x.position = none then y
  else if y.high then y.countRise clock
  else { y with gate := x.gate.fall clock }

/-- R88: an edge of a measuring input. An edge back in the microsecond of the latest edge ends a phase shorter than 1 µs,
which is not seen: the latest edge is taken back (log 41). -/
def Input.takeEdge (x : Input) (clock : Clock) : Input :=
  match x.edgeAt clock with
  | some m => x.undoEdge m
  | none => x.newEdge clock

/-! ### Readings and gates (R88, R90 to R94) -/

/-- R88: the line voltage clipped to 0-30,000 mV. -/
def clipLine (v : Int) : Nat := (min 30000 (max 0 v)).toNat

/-- R88: the reading joins the history of at most 16, and readings taken advances. -/
def Input.read (x : Input) (v : Nat) : Input :=
  let h := x.history ++ [v]
  { x with history := h.drop (h.length - 16), taken := satAdd 16 x.taken 1 }

/-- R92. -/
def frequencyValue (g : Gate) : Option Nat :=
  match g.first, g.last with
  | some f, some l => if 2 ≤ g.rising then some ((g.rising - 1) * 1000000000 / (l - f).toNat) else none
  | _, _ => none

/-- R93. -/
def dutyValue (g : Gate) : Option Nat :=
  match g.first, g.last with
  | some f, some l => if 2 ≤ g.rising then some (g.highToLast * 1000 / (l - f).toNat) else none
  | _, _ => none

/-- The value a gate end gives, by mode (R90, R92 to R94); a LEVEL value is not recomputed by the gate end. -/
def gateValue (x : Input) (g : Gate) : Option Nat :=
  match x.mode with
  | .frequency => frequencyValue g
  | .duty => dutyValue g
  | .edges => some x.edges
  | .level | .off => x.value

/-- R90: what a gate boundary at this clock value does to the input; an edge of the same stamp belongs to the gate that
begins there, so it is taken after the boundary (log 14). -/
def Input.atBoundary (x : Input) (clock : Clock) (f : Input → Input) : Input :=
  match x.edgeAt clock with
  | some m => (f (x.undoEdge m)).newEdge clock
  | none => f { x with lastEdge := none }

/-- R90: a gate ends and the next begins. -/
def Input.closeGate (x : Input) : Input :=
  { x with value := gateValue x x.gate, firstDone := true, gate := Gate.clear, position := some 0 }

/-- R89: a NOT_STARTED gate begins. -/
def Input.openGate (x : Input) : Input := { x with position := some 0, gate := Gate.clear }

/-- R90: the gate position advances by one nest sample; a NOT_STARTED gate begins. -/
def Input.advanceGate (x : Input) (gate : Nat) (clock : Clock) : Input :=
  match x.position with
  | none => x.atBoundary clock Input.openGate
  | some p => if gate ≤ p + 1 then x.atBoundary clock Input.closeGate else { x with position := some (p + 1) }

/-- R91: the LEVEL value of the last 16 readings. -/
def Input.level (x : Input) : Input :=
  if x.mode = .level ∧ x.firstDone ∧ x.taken = 16 then { x with value := some (x.history.sum / 16) } else x

/-- R88, R90, R91: one measuring input at a nest sample. -/
def Input.atSample (x : Input) (gate : Nat) (line : Int) (clock : Clock) : Input :=
  if x.measuring then ((x.read (clipLine line)).advanceGate gate clock).level else x

/-- R88: every measuring input of the nest takes its reading. -/
def readInputs (n : NestId) (lines : Vector Int 8) (s : State) : State :=
  s.forEach (List.finRange 8) fun j s =>
    s.modInput (inputOf n j) fun x => x.atSample (gateTime s (inputOf n j)) lines[j] s.nests[n].clock

/-- The gate of input i of a nest ends at the nest's next sample (R90). -/
def gateEnds (s : State) (i : InputId) : Bool :=
  let x := s.inputs[i]
  x.measuring && x.position.any fun p => decide (gateTime s i ≤ p + 1)

/-! ### Sessions (R89, R95) -/

/-- R89: session open, at the nest sample of the attaching reading. -/
def openInputs (n : NestId) (lines : Vector Int 8) (s : State) : State :=
  s.forEach (List.finRange 8) fun j s => restartInput (inputOf n j) lines[j] true s

/-- R95: an input stops. -/
def Input.stop (x : Input) : Input :=
  { x with measuring := false, gate := Gate.clear, position := none, value := none }

/-- R96: the eight inputs of the nest in input-number order. -/
def offerInputs (n : NestId) (s : State) : State :=
  s.forEach (List.finRange 8) fun j s => offerInput (inputOf n j) s

/-- R95: the end of the nest's session. -/
def closeInputs (n : NestId) (s : State) : State :=
  let s := s.forEach (List.finRange 8) fun j s => s.modInput (inputOf n j) Input.stop
  if snapshotPeriod s n = 0 then s else offerInputs n s

end Sys2Proof.Machine
end

