-- ==== Sys2Proof/Machine/Rails.lean ====
section
/-!
DEFINITION. The Rail Unit (chapter 2): the drives of a rail state, faults and their policy, dependants, force-offs, the
rail actions, measurement, charge and budgets, the supply monitor and the rail step.
-/
namespace Sys2Proof.Machine

/-! ### What a rail state drives (R20) -/

/-- The output switch is closed. -/
def railSwitchClosed : RailState → Bool
  | .on | .limiting | .retryTest => true
  | .off | .probe | .faultWait | .latched | .discharging => false

/-- Levels of the limiter. -/
inductive LimiterLevel where
  | unused | full | half
  deriving DecidableEq, Repr

def railLimiter : RailState → LimiterLevel
  | .on | .limiting => .full
  | .retryTest => .half
  | .off | .probe | .faultWait | .latched | .discharging => .unused

/-- The limiter level in mA; half the limit is truncated to whole milliamps (R26). -/
def limiterCurrent (s : State) (r : RailId) : Option Nat :=
  match railLimiter s.rails[r].state with
  | .unused => none
  | .full => some (currentLimit s r)
  | .half => some (currentLimit s r / 2)

/-- The discharge path is on. -/
def railDischarging : RailState → Bool
  | .faultWait | .discharging => true
  | .off | .probe | .on | .limiting | .retryTest | .latched => false

/-- R37: the probe path of the nest is on. After the supply fault flag has cleared it turns on at the next nest sample; that
this holds for a probe request taken meanwhile too is the model's choice (log 64). -/
def probePathOn (s : State) (n : NestId) : Bool :=
  s.rails[railOf n 0].state == .probe && !s.supplies[n].faulty && !s.supplies[n].resuming

/-- R37: what the probe path drives: its level in mV and its current limit in µA. -/
def probeDrive (s : State) (n : NestId) : Option (Nat × Nat) :=
  if probePathOn s n then some (2500, 20000) else none

/-! ### Loss of service, dependants, faults (sections 2.4 and 2.5) -/

/-- R33: the hand-off of a loss of service to STE and then to CHK. -/
def railLost (r : RailId) (s : State) : State := checksRailLost r (haltForRail r s)

/-- ON or LIMITING (section 2.5). -/
def RailState.serving : RailState → Bool
  | .on | .limiting => true
  | _ => false

/-- The states a force-off takes to DISCHARGING (R35, R36). -/
def RailState.forcible : RailState → Bool
  | .on | .limiting | .faultWait | .retryTest => true
  | .off | .probe | .latched | .discharging => false

/-- R35: IGN and ILLUM are forced off with BATT_LOST; `pick` says which states are forced. -/
def forceDependants (n : NestId) (pick : RailState → Bool) (s : State) : State :=
  s.forEach [1, 2] fun k s =>
    let r := railOf n k
    let left := s.rails[r].state
    if pick left then
      let s := s.modRail r fun x =>
        { x with state := .discharging, cause := .battLost, dwell := 0, timer := some 0 }
      let s := postEvent (evRailForcedOff r .battLost left) s
      if left.serving then railLost r s else s
    else s

/-- R29, R35: what a fault of BATT, taken in state `left`, does to its dependants. -/
def faultDependants (r : RailId) (left : RailState) (s : State) : State :=
  if kindOfRail r ≠ 0 then s
  else if left.serving ∨ s.rails[r].state = .latched then forceDependants (nestOfRail r) RailState.forcible s
  else forceDependants (nestOfRail r) (fun x => x == .retryTest) s

/-- R29: fault entry. The battery dependency is not applied in a supply alarm (R28). -/
def railFault (c : RailCause) (dependency : Bool) (r : RailId) (s : State) : State :=
  let x := s.rails[r]
  let retry := x.retry + 1
  let latch := !policyRetry s r || decide (maxRetries s r < retry)
  let s := s.modRail r fun x =>
    { x with
      state := if latch then .latched else .faultWait
      cause := c
      retry := retry
      dwell := 0
      timer := if latch then none else some 0 }
  let s := postEvent (if latch then evRailLatched r c retry x.voltage else evRailFault r c retry) s
  let s := if x.state.serving then railLost r s else s
  if dependency then faultDependants r x.state s else s

/-- R36: the kinds of rail of a nest that a force-off changes. -/
def forcedKinds (s : State) (n : NestId) : List (Fin 3) :=
  allKinds.filter fun k => s.rails[railOf n k].state.forcible || s.rails[railOf n k].state == .latched

/-- R36: a nest-wide force-off, BATT first. That a rail's event and hand-offs, with all that they bring about, come before
the next rail changes state is the model's choice (log 62). -/
def forceOff (n : NestId) (c : RailCause) (handOff : Bool) (s : State) : State :=
  s.forEach (forcedKinds s n) fun k s =>
    let r := railOf n k
    let left := s.rails[r].state
    let s := s.modRail r fun x =>
      { x with
        state := if left = .latched then .off else .discharging
        cause := c
        retry := 0
        dwell := 0
        timer := if left = .latched then none else some 0 }
    let s := postEvent (evRailForcedOff r c left) s
    if handOff && left.serving then railLost r s else s

/-! ### The rail actions (section 2.3, R32, R41) -/

/-- An action on the rail named by the object (R22). -/
def onRail (act : RailId → State → Except Reason State) (obj : Nat) (s : State) : Except Reason State :=
  if h : obj < 6 then act ⟨obj, h⟩ s else .error .badObject

/-- R23 test 6, R32 test 5: BATT of the nest is in service, for IGN and ILLUM. -/
def battServes (s : State) (r : RailId) : Bool :=
  kindOfRail r == 0 || inService s (railOf (nestOfRail r) 0)

/-- R23: the tests of RAIL_ON, in order. -/
def railOnRefusal (s : State) (r : RailId) : Option Reason :=
  let n := nestOfRail r
  if s.rails[r].state = .discharging then some .busy
  else if s.rails[r].state ≠ .off then some .wrongState
  else if s.nests[n].state ≠ .opened then some .notOpen
  else if s.nests[n].interlock = .unsatisfied then some .interlock
  else if s.supplies[n].faulty then some .supplyFault
  else if !battServes s r then some .dependency
  else if !railRecordInRange s r then some .badRange
  else none

/-- RAIL_ON (R23, R34). -/
def actRailOn (obj _opd : Nat) (s : State) : Except Reason State :=
  onRail (fun r s =>
    match railOnRefusal s r with
    | some e => .error e
    | none =>
      .ok (railTrigger r false (s.modRail r fun x =>
        { x with state := .on, cause := .none, dwell := 0 }))) obj s

/-- R24. -/
def railOffEffect (r : RailId) (s : State) : State :=
  let left := s.rails[r].state
  let s := s.modRail r fun x => { x with retry := 0, dwell := 0 }
  if left.forcible then
    let s := s.modRail r fun x => { x with state := .discharging, timer := some 0 }
    let s := if left.serving then railLost r s else s
    if kindOfRail r = 0 then forceDependants (nestOfRail r) RailState.forcible s else s
  else if left = .latched then
    let s := s.modRail r fun x => { x with state := .off }
    if kindOfRail r = 0 then forceDependants (nestOfRail r) RailState.forcible s else s
  else s

/-- RAIL_OFF (R24). -/
def actRailOff (obj _opd : Nat) (s : State) : Except Reason State :=
  onRail (fun r s => .ok (railOffEffect r s)) obj s

/-- R32: the tests of RAIL_CLEAR, in order. -/
def railClearRefusal (s : State) (r : RailId) : Option Reason :=
  let n := nestOfRail r
  if s.rails[r].state ≠ .latched then some .wrongState
  else if s.nests[n].state ≠ .opened then some .notOpen
  else if s.nests[n].interlock = .unsatisfied then some .interlock
  else if s.supplies[n].faulty then some .supplyFault
  else if !battServes s r then some .dependency
  else none

/-- RAIL_CLEAR (R32). -/
def actRailClear (obj _opd : Nat) (s : State) : Except Reason State :=
  onRail (fun r s =>
    match railClearRefusal s r with
    | some e => .error e
    | none => .ok (s.modRail r fun x => { x with state := .retryTest, retry := 0, timer := some 0 })) obj s

/-- RAIL_CHARGE_RESET (R41). -/
def actRailChargeReset (obj _opd : Nat) (s : State) : Except Reason State :=
  onRail (fun r s =>
    .ok (checksChargeReset r (s.modRail r fun x => { x with charge := 0, residue := 0, crossed := false })))
    obj s

/-! ### Probe, session open (R37, R43) -/

/-- R37: probe on. -/
def probeOn (n : NestId) (s : State) : State :=
  s.modRail (railOf n 0) fun x => if x.state = .off then { x with state := .probe } else x

/-- R37: probe off. -/
def probeOff (n : NestId) (s : State) : State :=
  s.modRail (railOf n 0) fun x => if x.state = .probe then { x with state := .off } else x

/-- R43. -/
def openRails (n : NestId) (s : State) : State :=
  (probeOff n s).forEach allKinds fun k s =>
    s.modRail (railOf n k) fun x => { x with charge := 0, residue := 0, crossed := false, retry := 0, dwell := 0 }

/-! ### Measurement, charge and budgets (R21 steps 1 and 2, R38 to R40) -/

/-- R21 step 1 and the history of step 2. -/
def Rail.measure (x : Rail) (m : RailReading) : Rail :=
  let c := if railSwitchClosed x.state then m.current else 0
  { x with current := c, voltage := m.voltage, history := (x.history ++ [c]).drop (x.history.length + 1 - 64) }

/-- R37: the probe path of a nest whose supply fault flag is clear is on again. -/
def Supply.resume (u : Supply) : Supply := { u with resuming := false }

/-- R21 step 1 for the three rails and the probe, whose path is on again where the supply fault flag is clear (R37). -/
def measureNest (n : NestId) (m : NestReading) (s : State) : State :=
  let s := s.modSupply n Supply.resume
  let probe := if probePathOn s n then m.probe else 0
  (s.forEach allKinds fun k s => s.modRail (railOf n k) fun x => x.measure m.rails[k]).modSupply n
    fun u => { u with probe := probe }

/-- R39: the sample is added to the accumulator. -/
def Rail.addCharge (x : Rail) : Rail :=
  let nc := x.residue + x.current
  { x with charge := satAdd max32 x.charge (nc / 1000), residue := nc % 1000 }

/-- R40: the budget is crossed. -/
def Rail.crosses (x : Rail) (budget : Nat) : Bool :=
  budget != 0 && !x.crossed && decide (budget ≤ x.charge)

/-- R39, R40 for one measured rail. -/
def chargeRail (r : RailId) (s : State) : State :=
  if railSwitchClosed s.rails[r].state then
    let s := s.modRail r Rail.addCharge
    let x := s.rails[r]
    if x.crosses (chargeBudget s r) then
      railTrigger r true (postEvent (evRailBudget r x.charge (chargeBudget s r))
        (s.modRail r fun x => { x with crossed := true }))
    else s
  else s

/-- R21 step 2 for the three rails. The spec does not order the rails of this step; that a rail is charged, tested and its
crossing handed on before the next one, BATT, IGN, ILLUM, is the model's choice (log 49). -/
def chargeNest (n : NestId) (s : State) : State := s.forEach allKinds fun k s => chargeRail (railOf n k) s

/-- A budget crossing of rail r comes about in the nest sample with this reading (R40). -/
def budgetCrosses (r : RailId) (m : NestReading) (s : State) : Bool :=
  let x := s.rails[r]
  railSwitchClosed x.state && ((x.measure m.rails[kindOfRail r]).addCharge).crosses (chargeBudget s r)

/-! ### Supply monitor (R28) -/

/-- R28, R37: what the monitor reading makes of the flag, its conditions and the probe path. The probe current reads 0 from
the moment the flag is set, also in the sample in which step 1 has measured it before; that NCT is then handed this 0 is
the model's choice (log 60). -/
def Supply.supervise (u : Supply) (range temperature : Bool) : Supply :=
  let now := range || temperature
  { range := range, temperature := temperature, probe := if now then 0 else u.probe, resuming := u.faulty && !now }

/-- R28 at step 3 of a nest sample, BATT, IGN, ILLUM. That a rail's event and hand-offs, with all that they bring about, come
before the next rail takes its supply fault is the model's choice (log 63). -/
def superviseSupply (n : NestId) (range temperature : Bool) (s : State) : State :=
  let was := s.supplies[n].faulty
  let now := range || temperature
  let s := s.modSupply n fun u => u.supervise range temperature
  if !was && now then
    (postEvent (evSupplyAlarm n range temperature) s).forEach allKinds fun k s =>
      if railSwitchClosed s.rails[railOf n k].state then railFault .supply false (railOf n k) s else s
  else if was && !now then postEvent (evSupplyNormal n) s
  else s

/-! ### The rail step (R21 step 4) -/

/-- What a rail does in its rail step. -/
inductive RailAct where
  | idle | backfeed | engage | dwell | overcurrent | release | advance | waitExpiry | retryExpiry | dischargeExpiry
  deriving DecidableEq, Repr

/-- The timer of the rail, advanced by this sample, reaches its length. -/
def timerAct (x : Rail) (length : Nat) (expiry : RailAct) : RailAct :=
  match x.timer with
  | none => .idle
  | some t => if length ≤ t + 1 then expiry else .advance

/-- R26: the limiter of a rail in ON or LIMITING with this reading. -/
def limiterAct (s : State) (r : RailId) (engaged : Bool) : RailAct :=
  let x := s.rails[r]
  if engaged then
    let d := if x.state = .on then 1 else x.dwell + 1
    if limitingDwell s r ≤ d then .overcurrent else if x.state = .on then .engage else .dwell
  else if x.state = .limiting then .release
  else .idle

/-- R21 step 4: the backfeed test first, then the limiter, then the rail timer. -/
def railAct (s : State) (r : RailId) (engaged : Bool) : RailAct :=
  let x := s.rails[r]
  if railSwitchClosed x.state && decide (setpoint s r + 300 < x.voltage) then .backfeed
  else match x.state with
    | .on | .limiting => limiterAct s r engaged
    | .faultWait => timerAct x (faultWaitTime s r) .waitExpiry
    | .retryTest => timerAct x (retryTestTime s r) .retryExpiry
    | .discharging => timerAct x (dischargeTime s r) .dischargeExpiry
    | .off | .probe | .latched => .idle

/-- R30: the fault wait of a rail expires. -/
def endFaultWait (r : RailId) (s : State) : State :=
  if s.supplies[nestOfRail r].faulty || !battServes s r then s.modRail r fun x => { x with timer := some 0 }
  else s.modRail r fun x => { x with state := .retryTest, timer := some 0 }

/-- R31: the voltage is at or above the pass threshold, compared exactly. -/
def passes (s : State) (r : RailId) : Bool :=
  decide (setpoint s r * passPercent s r ≤ 100 * s.rails[r].voltage)

/-- R31: the retry test of a rail ends. -/
def endRetryTest (r : RailId) (s : State) : State :=
  if passes s r then
    let x := s.rails[r]
    let s := s.modRail r fun x => { x with state := .on, dwell := 0, timer := none }
    railTrigger r false (postEvent (evRailRecovered r x.retry x.voltage) s)
  else railFault .short true r s

/-- R25: the discharge of a rail ends. -/
def endDischarge (r : RailId) (s : State) : State :=
  let x := s.rails[r]
  if x.voltage ≤ 500 then s.modRail r fun x => { x with state := .off, timer := none }
  else
    postEvent (evRailLatched r .dischargeFail x.retry x.voltage)
      (s.modRail r fun x => { x with state := .latched, cause := .dischargeFail, timer := none })

/-- R21 step 4: what a rail's rail step does. -/
def applyRailAct (r : RailId) (a : RailAct) (s : State) : State :=
  match a with
  | .idle => s
  | .backfeed => railFault .backfeed true r s
  | .engage => s.modRail r fun x => { x with state := .limiting, dwell := 1 }
  | .dwell => s.modRail r fun x => { x with dwell := x.dwell + 1 }
  | .overcurrent => railFault .overcurrent true r s
  | .release => s.modRail r fun x => { x with state := .on, dwell := 0 }
  | .advance => s.modRail r fun x => { x with timer := x.timer.map fun t => t + 1 }
  | .waitExpiry => endFaultWait r s
  | .retryExpiry => endRetryTest r s
  | .dischargeExpiry => endDischarge r s

/-- R42: the snapshots of the nest's three rails. That they are offered in the order BATT, IGN, ILLUM is the model's choice
(log 50). -/
def offerRails (n : NestId) (s : State) : State := s.forEach allKinds fun k s => offerRail (railOf n k) s

end Sys2Proof.Machine
end

