-- ==== Sys2Proof/Machine/Interlock.lean ====
section
/-!
DEFINITION. The Nest Controller (chapter 1), what other blocks hand it: the interlock, entry into WAITING, the end of HELD
and the completion test and end of a drain.
-/
namespace Sys2Proof.Machine

/-! ### Interlock (section 1.5) -/

/-- The CLOSED flag of a status word; UNKNOWN reads as 0 (R122). -/
def statusClosed (w : Option Word) : Bool := bit (w.getD 0) 0

/-- R15: the interlock status from the named node. -/
def interlockOf (s : State) (n : NestId) : Interlock :=
  match interlockNode s n with
  | none => .none
  | some d =>
    if s.nodes[d].state = .inService ∧ nodeKind s d = 0 ∧ statusClosed s.nodes[d].status then .satisfied
    else .unsatisfied

/-- R16: the way the status was lost. -/
def tripWay (x : Node) : TripWay :=
  match x.state with
  | .disabled => .disabled
  | .outOfService => .outOfService
  | .inService => .notClosed

/-- R16: the interlock trip of an OPEN nest. -/
def interlockTrip (n : NestId) (d : NodeId) (s : State) : State :=
  let forced := forcedKinds s n
  let s := forceOff n .interlock true s
  let s := s.modNest n fun x => { x with trip := true }
  postEvent (evInterlockTrip n d (tripWay s.nodes[d]) forced) s

/-- R17: the interlock is restored. -/
def interlockRestored (n : NestId) (d : NodeId) (s : State) : State :=
  postEvent (evInterlockRestored n d) (s.modNest n fun x => { x with trip := false })

/-- R16, R17: what a change of the interlock status from `old` does in an OPEN nest. -/
def interlockEffect (n : NestId) (old : Interlock) (s : State) : State :=
  match interlockNode s n with
  | none => s
  | some d =>
    let x := s.nests[n]
    if x.state ≠ .opened then s
    else if old = .satisfied ∧ x.interlock = .unsatisfied then interlockTrip n d s
    else if x.interlock = .satisfied ∧ x.trip then interlockRestored n d s
    else s

/-- R15, R18: an evaluation; a change is offered to the nest status slot. -/
def evaluateInterlock (n : NestId) (s : State) : State :=
  let old := s.nests[n].interlock
  let new := interlockOf s n
  if old = new then s
  else offerNest n (interlockEffect n old (s.modNest n fun x => { x with interlock := new }))

/-- R15: evaluation of each nest that names the node. The spec gives no order of the two nests; that nest A comes first is
the model's choice (log 46). -/
def evaluateNode (d : NodeId) (s : State) : State :=
  s.forEach allNests fun n s => if interlockNode s n = some d then evaluateInterlock n s else s

/-! ### Entry into WAITING and IDLE (R4, R5, R14, R18) -/

/-- R18: the snapshot timer as a nest leaves IDLE. -/
def startedTimer (s : State) (n : NestId) : Option Nat := if snapshotPeriod s n = 0 then none else some 0

/-- R4 accepted, R14 auto-arm. -/
def enterWaiting (n : NestId) (s : State) : State :=
  let timer := startedTimer s n
  let s := (probeOn n s).modNest n fun x =>
    { x with
      state := .waiting
      attachRun := 0
      closureTime := if x.seat then 0 else x.closureTime
      closureReported := if x.seat then false else x.closureReported
      snapTimer := timer }
  offerNest n (evaluateInterlock n s)

/-- Rail k of the nest is in state x. -/
def someRail (s : State) (n : NestId) (x : RailState) : Bool :=
  allKinds.any fun k => s.rails[railOf n k].state == x

/-- R14: HELD ends. -/
def leaveHeld (n : NestId) (s : State) : State :=
  if autoArm s n && !someRail s n .latched && nestRecordInRange s n then enterWaiting n s
  else offerNest n (s.modNest n fun x => { x with state := .idle, snapTimer := none })

/-! ### The end of a drain (section 1.4) -/

/-- R13: the completion test. -/
def drainComplete (s : State) (n : NestId) : Bool :=
  s.nests[n].state == .draining && s.prompts[n].state == .free
    && allKinds.all fun k => s.rails[railOf n k].state == .off || s.rails[railOf n k].state == .latched

/-- R13: the test has succeeded. -/
def drainEnd (n : NestId) (s : State) : State :=
  let s := closeInputs n (postEvent (evSessionClose n s.nests[n].cause) s)
  if s.nests[n].seat then offerNest n (s.modNest n fun x => { x with state := .held })
  else leaveHeld n s

/-- R13, R151: the test is made. -/
def testDrain (n : NestId) (s : State) : State := if drainComplete s n then drainEnd n s else s

end Sys2Proof.Machine
end

