-- ==== Sys2Proof/Machine/Prompts.lean ====
section
/-!
DEFINITION. The Prompt Controller (chapter 8): taking a prompt, step results, answers, the timer, withdrawal, loss of the
panel, drain and RESTART; and CHECK_CANCEL, which withdraws prompts.
-/
namespace Sys2Proof.Machine

/-- R151: what every entry into FREE clears. -/
def Prompt.free (p : Prompt) : Prompt :=
  { p with state := .free, check := none, step := none, withdrawn := false, timer := none }

/-- R151: the entry into FREE: the context is cleared and reported to NCT, whose drain may end (R13), and then the head of
the waiting list is taken (R146). -/
def freeContext (n : NestId) (s : State) : State :=
  takeHeads decideCheck n (testDrain n (s.modPrompt n Prompt.free))

/-- The context enters CLEARING and offers the CLEAR step; the timer stops. -/
def enterClearing (n : NestId) (s : State) : State :=
  offerStep n .clear (s.modPrompt n fun p => { p with state := .clearing, timer := none })

/-- An outcome of the prompt in the context goes to CHK: value A is the prompt sequence (R148). -/
def returnOutcome (n : NestId) (d : Decision) (s : State) : State :=
  match s.prompts[n].check with
  | none => s
  | some a => promptOutcome a { d with a := s.prompts[n].sequence.toNat } s

/-! ### Taking a prompt (R146) -/

/-- R146: the test on its own. It is made as part of joining a list and of entering FREE, so it finds work only in a state
that no run reaches (log 3). -/
def takePrompt (n : NestId) (s : State) : Option State := takeHead decideCheck n s

/-! ### Step results (R148, R151, R152, R153) -/

/-- The panel answered, so it is reachable and is cleared (R148, R152). -/
def LinkResult.answered : LinkResult → Bool
  | .ok | .nodeError | .refused => true
  | .nodeLost | .notInService | .badRequest | .badAddress | .flushed => false

/-- R148: a result of LOAD or SHOW with withdrawn clear. -/
def loadShowResult (n : NestId) (step : PromptStep) (r : LinkResult) (s : State) : State :=
  if r = .ok then
    match step with
    | .load => offerStep n .show (s.modPrompt n fun p => { p with state := .showing })
    | .show | .clear => s.modPrompt n fun p => { p with state := .shown, step := none, timer := some 0 }
  else
    let s := returnOutcome n { verdict := .sourceFault, detail := detailLink r } s
    if r.answered then enterClearing n s else freeContext n s

/-- R153, R148, R151, R152: a result of a PROMPT request. -/
def stepResult (n : NestId) (sequence : BitVec 8) (step : PromptStep) (r : LinkResult) (s : State) : State :=
  let p := s.prompts[n]
  if p.sequence = sequence ∧ p.step = some (step, false) then
    if step = .clear then freeContext n s
    else if p.withdrawn then (if r.answered then enterClearing n s else freeContext n s)
    else loadShowResult n step r s
  else s

/-! ### Answers (R150) -/

def answerReady (w : Word) : Bool := bit w 16
def answerCode (w : Word) : Nat := fld w 17 2
def answerSequence (w : Word) : BitVec 8 := w.extractLsb' 24 8

/-- The answer code is defined and in the answer set. -/
def answerOffered (answers : BitVec 3) (code : Nat) : Bool := decide (1 ≤ code) && answers.getLsbD (code - 1)

/-- PASS gives PASS, FAIL gives OPERATOR_FAIL and SKIP gives NOT_TESTED. -/
def answerVerdict (code : Nat) : VerdictCode :=
  if code = 1 then .pass else if code = 2 then .operatorFail else .notTested

def postStale (n : NestId) (d : NodeId) (w : Word) (r : StaleReason) (s : State) : State :=
  let p := s.prompts[n]
  postEvent (evStaleAnswer n d (answerCode w) (answerSequence w) r p.sequence p.state) s

/-- The SHOWN context of the word's sequence takes the word. -/
def takeAnswer (n : NestId) (d : NodeId) (w : Word) (s : State) : State :=
  if answerOffered s.prompts[n].answers (answerCode w) then
    let s := s.modPrompt n fun p => { p with timer := none, answered := some p.sequence }
    enterClearing n
      (returnOutcome n { verdict := answerVerdict (answerCode w), b := answerCode w } s)
  else postStale n d w .notOffered s

/-- The nests whose record names the node as panel, nest A first. -/
def panelNests (s : State) (d : NodeId) : List NestId := allNests.filter fun n => panelNode s n == some d

/-- R150: a poll status word of node d. -/
def panelWord (d : NodeId) (w : Word) (s : State) : State :=
  let q := answerSequence w
  match answerReady w, panelNests s d with
  | true, first :: others =>
    let nests := first :: others
    if nests.any fun n => s.prompts[n].answered == some q then s
    else
      match nests.find? fun n => s.prompts[n].state == .shown && s.prompts[n].sequence == q with
      | some n => takeAnswer n d w s
      | none => postStale first d w (if s.prompts[first].sequence = q then .notShown else .oldSequence) s
  | _, _ => s

/-! ### Timer (R149) -/

/-- The prompt timer of a SHOWN context has counted the window times 100 ms. -/
def promptExpired (s : State) (n : NestId) : Bool :=
  let p := s.prompts[n]
  p.state == .shown
    && (match p.check, p.timer with
        | some a, some t => decide (100000 * checkWindow s a.check ≤ t)
        | _, _ => false)

/-- R149: the timer expires. -/
def promptTimedOut (n : NestId) (s : State) : State :=
  let s := s.modPrompt n fun p => { p with timer := none }
  enterClearing n (returnOutcome n { verdict := .timeout } s)

/-! ### Withdrawal, loss, drain, RESTART (R152, R154, R155) -/

/-- R152. -/
def withdrawPrompt (n : NestId) (s : State) : State :=
  match s.prompts[n].state, s.prompts[n].step with
  | .loading, some (_, true) => freeContext n s
  | .showing, some (_, true) => enterClearing n s
  | .loading, _ | .showing, _ => s.modPrompt n fun p => { p with withdrawn := true }
  | .shown, _ => enterClearing n s
  | .free, _ | .clearing, _ => s

/-- R152: the drain of the nest. -/
def drainPrompt (n : NestId) (s : State) : State :=
  withdrawPrompt n (s.modPrompt n fun p => { p with waiting := [] })

/-- R154: the nest record's panel node leaves IN_SERVICE while the context is SHOWN (log 34). -/
def panelLost (n : NestId) (d : NodeId) (s : State) : State :=
  if s.prompts[n].state = .shown ∧ panelNode s n = some d ∧ s.nodes[d].state ≠ .inService then
    let s := s.modPrompt n fun p => { p with timer := none }
    freeContext n (returnOutcome n { verdict := .sourceFault, detail := detailPanelLost } s)
  else s

/-- The panel may be showing a question (R155 step 1). -/
def ContextState.noted : ContextState → Bool
  | .showing | .shown | .clearing => true
  | .free | .loading => false

/-- R155 step 4: the CLEAR of RESTART joins the queue or waits for a place. -/
def offerRestartClear (n : NestId) (s : State) : State :=
  let p := s.prompts[n]
  if linkFree s then joinQueue (stepRequest n p.panel p.sequence p.answers p.text .clear) s
  else s.modPrompt n fun p => { p with restartClear := some (p.panel, p.sequence) }

/-- R155 for one nest; its entry into FREE is not reported to NCT, and takes no head. -/
def restartPrompt (n : NestId) (s : State) : State :=
  let noted := s.prompts[n].state.noted
  let s := s.modPrompt n fun p => { p.free with waiting := [] }
  if noted then offerRestartClear n s else s

/-! ### CHECK_CANCEL (R103) -/

/-- The prompt side of a cancel, after the check is decided. -/
def cancelPrompt (c : CheckId) (left : CheckState) (s : State) : State :=
  let n := checkNest s c
  match left with
  | .promptWait => s.modPrompt n fun p => { p with waiting := p.waiting.filter fun a => a.check != c }
  | .prompting => withdrawPrompt n s
  | _ => s

/-- CHECK_CANCEL (R103). -/
def actCheckCancel (obj _opd : Nat) (s : State) : Except Reason State :=
  if h : obj < 64 then
    let c : CheckId := ⟨obj, h⟩
    let left := s.checks[c].state
    if left.undecided then
      .ok (cancelPrompt c left (decideCheck c { verdict := .cancelled, detail := left.code } s))
    else .error .wrongState
  else .error .badObject

end Sys2Proof.Machine
end

