-- ==== Sys2Proof/Machine/Nests.lean ====
section
/-!
DEFINITION. The Nest Controller (chapter 1), what it does of its own: drain entry, the four nest actions, the seat step
and attach, the snapshot timer and RESTART of nests.
-/
namespace Sys2Proof.Machine

/-! ### Drain entry (section 1.4) -/

/-- R12: the hand-off to the blocks of the nest, in order, and the entry into DRAINING. While PRC withdraws the context the
nest is not yet DRAINING, so no drain ends there. -/
def enterDrain (n : NestId) (c : DrainCause) (s : State) : State :=
  let s := s.modNest n fun x => { x with cause := c, trip := false }
  let s := forceOff n .drain true (drainPrompt n (abortChecks n (drainPort n (drainTracks n s))))
  offerNest n (s.modNest n fun x => { x with state := .draining })

/-- R12: drain entry, with the completion test (R13) once at its end. -/
def drainEntry (n : NestId) (c : DrainCause) (s : State) : State := testDrain n (enterDrain n c s)

/-! ### The nest actions -/

/-- R4: the tests of NEST_ARM, in order. -/
def nestArmRefusal (s : State) (n : NestId) : Option Reason :=
  if s.nests[n].state ≠ .idle then some .wrongState
  else if someRail s n .discharging then some .busy
  else if someRail s n .latched then some .dependency
  else if !nestRecordInRange s n then some .badRange
  else none

/-- NEST_ARM (R4). -/
def actNestArm (obj _opd : Nat) (s : State) : Except Reason State :=
  onNest (fun n s =>
    match nestArmRefusal s n with
    | some r => .error r
    | none => .ok (enterWaiting n s)) obj s

/-- NEST_DISARM (R5). -/
def actNestDisarm (obj _opd : Nat) (s : State) : Except Reason State :=
  onNest (fun n s =>
    if s.nests[n].state ≠ .waiting then .error .wrongState
    else
      .ok (offerNest n ((probeOff n s).modNest n fun x =>
        { x with state := .idle, attachRun := 0, closureTime := 0, snapTimer := none }))) obj s

/-- NEST_RELEASE (R10). -/
def actNestRelease (obj _opd : Nat) (s : State) : Except Reason State :=
  onNest (fun n s =>
    match s.nests[n].state with
    | .opened => .ok (drainEntry n .released s)
    | .draining => .ok s
    | .idle | .waiting | .held => .error .notOpen) obj s

/-- NEST_ABORT (R10). -/
def actNestAbort (obj _opd : Nat) (s : State) : Except Reason State :=
  onNest (fun n s =>
    match s.nests[n].state with
    | .opened => .ok (drainEntry n .aborted s)
    | .draining =>
      .ok (s.modNest n fun x => { x with cause := if x.cause = .released then .aborted else x.cause })
    | .idle | .waiting | .held => .error .notOpen) obj s

/-! ### The seat loop (R2, R11, R14) -/

/-- R2: the seat state has become OPEN. -/
def seatOpened (n : NestId) (s : State) : State :=
  match s.nests[n].state with
  | .opened => drainEntry n .removed s
  | .held => leaveHeld n s
  | .waiting => s.modNest n fun x => { x with attachRun := 0 }
  | .idle | .draining => s

/-- R2: the reading confirms the loop open. -/
def confirmsOpen (x : Nest) (closed : Bool) : Bool :=
  !closed && x.seat && decide (Config.openConfirm ≤ x.openRun + 1)

/-- R2: the reading begins a closure. -/
def beginsClosure (x : Nest) (closed : Bool) : Bool := closed && !x.seat

/-- R2: the open run and the seat state after one reading. -/
def Nest.debounce (x : Nest) (closed : Bool) : Nest :=
  if closed then
    if x.seat then { x with openRun := 0 }
    else { x with openRun := 0, seat := true, closureTime := 0, closureReported := false }
  else
    { x with
      openRun := min Config.openConfirm (x.openRun + 1)
      seat := x.seat && decide (x.openRun + 1 < Config.openConfirm) }

/-- R2, R18: one reading of the seat loop. -/
def seatStep (n : NestId) (closed : Bool) (s : State) : State :=
  let x := s.nests[n]
  let s := s.modNest n fun x => x.debounce closed
  if confirmsOpen x closed then seatOpened n (offerNest n s)
  else if beginsClosure x closed then offerNest n s
  else s

/-! ### Attach and closure (R6, R7, R8) -/

/-- R8 step 1. -/
def nextSession (q : BitVec 16) : BitVec 16 := if q = 65535#16 then 1 else q + 1

/-- R8. -/
def attachNest (n : NestId) (m : NestReading) (s : State) : State :=
  let probe := s.supplies[n].probe
  let s := s.modNest n fun x =>
    { x with
      session := nextSession x.session
      clock := 0
      cause := .none
      trip := false
      attachRun := Config.attachConfirm
      closureTime := 0
      closureReported := true }
  let s := openInputs n m.lines (clearCapture n (openRails n s))
  let s := s.modNest n fun x => { x with state := .opened }
  offerNest n (postEvent (evSessionOpen n probe) s)

/-- R6: the reading qualifies. -/
def qualifies (s : State) (n : NestId) (m : NestReading) : Bool :=
  m.seatClosed && decide (attachThreshold s n ≤ s.supplies[n].probe)

/-- R6: the nest attaches at this reading. -/
def attaches (s : State) (n : NestId) (m : NestReading) : Bool :=
  s.nests[n].state == .waiting && qualifies s n m
    && decide (Config.attachConfirm ≤ s.nests[n].attachRun + 1)

/-- R7: closure time after a reading of a WAITING nest; the reading that begins the closure does not advance it
(log 15). -/
def closureAfter (x : Nest) (began : Bool) : Nat :=
  if x.seat && !began then min Config.closureReport (x.closureTime + 1) else x.closureTime

/-- R7: SEAT_WITHOUT_LOAD is due at this reading. -/
def reportsClosure (s : State) (n : NestId) (m : NestReading) (began : Bool) : Bool :=
  let x := s.nests[n]
  x.state == .waiting && !attaches s n m && x.seat && !x.closureReported
    && closureAfter x began == Config.closureReport

/-- R6, R7: the attach run and the closure time of a WAITING nest; a nest in another state is left. -/
def attachStep (n : NestId) (m : NestReading) (began : Bool) (s : State) : State :=
  if s.nests[n].state ≠ .waiting then s
  else if attaches s n m then attachNest n m s
  else
    let run := if qualifies s n m then s.nests[n].attachRun + 1 else 0
    let report := reportsClosure s n m began
    let s := s.modNest n fun x =>
      { x with
        attachRun := run
        closureTime := closureAfter x began
        closureReported := x.closureReported || report }
    if report then postEvent (evSeatWithoutLoad n s.supplies[n].probe) s else s

/-! ### Snapshot timer and RESTART (R18, R19) -/

/-- R18: the snapshot timer of the nest has reached the snapshot period. -/
def snapshotDue (s : State) (n : NestId) : Bool :=
  snapshotPeriod s n != 0 && s.nests[n].snapTimer.any fun t => decide (1000 * snapshotPeriod s n ≤ t)

/-- R18, R42, R96: the expiry. -/
def snapshotExpiry (n : NestId) (s : State) : State :=
  offerInputs n (offerRails n (offerNest n (s.modNest n fun x => { x with snapTimer := some 0 })))

/-- R19 for one nest. actRestart takes nest A first, an order the spec does not give (log 46). -/
def restartNest (n : NestId) (s : State) : State :=
  if sessionRuns s n then
    let s := (forceOff n .restart false s).modNest n fun x => { x with cause := .restart, trip := false }
    let s := closeInputs n (postEvent (evSessionClose n .restart) s)
    offerNest n (s.modNest n fun x => { x with state := .idle, snapTimer := none })
  else offerNest n s

end Sys2Proof.Machine
end

