-- ==== Sys2Proof/Machine/Link.lean ====
section
/-!
DEFINITION. The Fixture Link Unit (chapter 7): request frames and replies, node and link actions, transactions with
retry and loss, answers to requesters, the request ring, service requests, status words and RESTART of the link.
-/
namespace Sys2Proof.Machine

/-! ### Frames (R123, section 11.4) -/

/-- The bits of a value of `w` bits, most significant first. -/
def bitsOf {n : Nat} (w : Nat) (v : BitVec n) : List Bool := (List.range w).map fun i => v.getLsbD (w - 1 - i)

/-- The opener pair of a request kind, first symbol in bits 7-4. -/
def requestOpener : LinkKind → BitVec 8
  | .put => 0x35#8
  | .get => 0x36#8
  | .doCommand => 0x39#8
  | .poll => 0x3A#8
  | .putBlock => 0x3C#8
  | .getBlock => 0x56#8

/-- The exclusive-or of a word's eight nibbles. -/
def nibbleCheck (w : Word) : BitVec 4 :=
  ([0, 1, 2, 3, 4, 5, 6, 7] : List Nat).foldl (fun a i => a ^^^ w.extractLsb' (4 * i) 4) 0

/-- The parity bit that makes the number of set bits among the nine odd. -/
def parityBit (r : BitVec 8) : Bool := ((List.range 8).filter fun i => r.getLsbD i).length % 2 == 0

/-- A word on the link: 32 data bits, the nibble check and one idle bit (log 42). -/
def wordBits (w : Word) : List Bool := bitsOf 32 w ++ bitsOf 4 (nibbleCheck w) ++ [false]

/-- R123: the register field of a request; a POLL sends 0, whatever the host's record holds. -/
def Request.registerField (q : Request) : BitVec 8 := if q.kind = .poll then 0 else q.register

/-- R123: the request frame. -/
def requestFrame (address : BitVec 6) (q : Request) (words : List Word) : List Bool :=
  bitsOf 8 (requestOpener q.kind) ++ bitsOf 6 address ++ bitsOf 8 q.registerField ++ [parityBit q.registerField]
    ++ (words.map wordBits).flatten

/-- The words owed in an OK reply (R123). -/
def wordsOwed : LinkKind → Nat
  | .put | .doCommand | .putBlock => 0
  | .get | .poll => 1
  | .getBlock => 16

/-! ### Replies (R124) -/

/-- What an opener pair of a reply stands for. -/
inductive ReplyOpener where
  | answer (c : ReplyCode)
  | garbled
  | unassigned
  deriving DecidableEq, Repr

def replyOpener (o : BitVec 8) : ReplyOpener :=
  if o = 0xCA#8 then .answer .ok
  else if o = 0xC9#8 then .answer .nodeError
  else if o = 0xC6#8 then .answer .refused
  else if o = 0xC5#8 then .garbled
  else .unassigned

/-- How an attempt ends: a link error, or an answer with its words. -/
inductive Judgement where
  | error (e : LinkError)
  | answer (c : ReplyCode) (words : List Word)
  deriving DecidableEq, Repr

/-- R124: the words of a reply that owes `n` more; `got` are the words taken so far. -/
def judgeWords (c : ReplyCode) (further : Bool) : Nat → List Word → List (Word × BitVec 4) → Judgement
  | 0, got, rest => if further || !rest.isEmpty then .error .wordCount else .answer c got
  | _ + 1, _, [] => .error .gap
  | n + 1, got, (w, k) :: rest =>
    if nibbleCheck w = k then judgeWords c further n (got ++ [w]) rest else .error .nibbleCheck

/-- R124: what follows the opener pair of a reply with code c. -/
def judgeEcho (address : BitVec 6) (kind : LinkKind) (c : ReplyCode) (r : LinkReply) : Judgement :=
  match r.echo with
  | none => .error .gap
  | some a =>
    if a ≠ address then .error .addressMismatch
    else judgeWords c r.further (if c = .ok then wordsOwed kind else 0) [] r.words

/-- R124: the error named is the one met first in the order of the reply (log 25); a line that goes idle inside the opener
pair is a GAP. -/
def judgeReply (address : BitVec 6) (kind : LinkKind) (r : LinkReply) : Judgement :=
  match r.opener.map replyOpener with
  | none => .error .gap
  | some .unassigned => .error .badOpener
  | some .garbled => .error .garbled
  | some (.answer c) => judgeEcho address kind c r

def ReplyCode.result : ReplyCode → LinkResult
  | .ok => .ok
  | .nodeError => .nodeError
  | .refused => .refused

/-! ### Hand-on of node changes (R129) -/

/-- FXL's fields of the summary slot are offered (R129, R136, R177). -/
def offerLinkSummary (s : State) : State :=
  offerSummary (s.modPost fun p => { p with paused := s.link.paused, outOfService := s.link.outOfService })

/-- R129: a change of the node's state goes to NCT and then to PRC. That PRC looks at nest A before nest B is the model's
choice (R154, log 46). -/
def handOn (d : NodeId) (s : State) : State :=
  (evaluateNode d s).forEach allNests fun n s => panelLost n d s

/-! ### Node and link actions (section 7.3, R136) -/

/-- An action on the node named by the object (R125). -/
def onNode (act : NodeId → State → Except Reason State) (obj : Nat) (s : State) : Except Reason State :=
  if h : obj < 15 then act ⟨obj, h⟩ s else .error .badObject

/-- R126 test 3. -/
def duplicateCode (s : State) (d : NodeId) : Bool :=
  allNodes.any fun e => e != d && s.nodes[e].state != .disabled && addressCode s e == addressCode s d

/-- R126: the tests of NODE_ENABLE, in order. -/
def nodeEnableRefusal (s : State) (d : NodeId) : Option Reason :=
  if s.nodes[d].state ≠ .disabled then some .wrongState
  else if setBits (addressCode s d) ≠ 2 then some .badCode
  else if duplicateCode s d then some .duplicateCode
  else if 3 < nodeKind s d ∨ 2 < nodeBinding s d then some .badRange
  else none

/-- R126, R128: the node is IN_SERVICE with an unknown status and its initial poll is offered. -/
def bringIntoService (d : NodeId) (s : State) : State :=
  offerPoll d (s.modNode d fun x => { x with state := .inService, status := none, servicePending := true })

/-- NODE_ENABLE (R126). -/
def actNodeEnable (obj _opd : Nat) (s : State) : Except Reason State :=
  onNode (fun d s =>
    match nodeEnableRefusal s d with
    | some r => .error r
    | none => .ok (handOn d (bringIntoService d s))) obj s

/-- The transaction in flight is addressed to the node. -/
def inFlightTo (s : State) (d : NodeId) : Bool := s.link.flight.any fun t => t.request.node == d

/-- R127 in IN_SERVICE and OUT_OF_SERVICE. -/
def disableNode (d : NodeId) (s : State) : State :=
  let lost := s.nodes[d].state = .outOfService
  let s := s.modNode d fun x => { x with state := .disabled, servicePending := false, pollHeld := false }
  let s :=
    if lost then offerLinkSummary (s.modLink fun l => { l with outOfService := l.outOfService - 1 }) else s
  handOn d s

/-- NODE_DISABLE (R127). -/
def actNodeDisable (obj _opd : Nat) (s : State) : Except Reason State :=
  onNode (fun d s =>
    if inFlightTo s d then .error .busy
    else if s.nodes[d].state = .disabled then .ok s
    else .ok (disableNode d s)) obj s

/-- R128 accepted. -/
def restoreNode (d : NodeId) (s : State) : State :=
  let s := s.modLink fun l => { l with outOfService := l.outOfService - 1 }
  handOn d (offerLinkSummary (bringIntoService d s))

/-- NODE_RESTORE (R128). -/
def actNodeRestore (obj _opd : Nat) (s : State) : Except Reason State :=
  onNode (fun d s =>
    if s.nodes[d].state ≠ .outOfService then .error .wrongState else .ok (restoreNode d s)) obj s

/-- R136: the pause flag is set to a value; a change is offered to the summary slot. -/
def setPause (v : Bool) (s : State) : State :=
  if s.link.paused = v then s else offerLinkSummary (s.modLink fun l => { l with paused := v })

/-- LINK_PAUSE (R136). -/
def actLinkPause (_obj _opd : Nat) (s : State) : Except Reason State := .ok (setPause true s)

/-- LINK_RESUME (R136). -/
def actLinkResume (_obj _opd : Nat) (s : State) : Except Reason State := .ok (setPause false s)

/-! ### Answers to requesters (R140) -/

/-- The nest that stamps a LINK_REPLY: the bound nest of the node the record names, or A. -/
def replyNest (s : State) (node : Nat) : NestId :=
  if h : node < 15 then (boundNest s ⟨node, h⟩).getD 0 else 0

/-- The data word of a LINK_REPLY: the reply word for GET and POLL answered OK. -/
def replyData (k : LinkKind) (r : LinkResult) (w : Word) : Word :=
  if r = .ok ∧ wordsOwed k = 1 then w else 0

/-- R140: the result of a request reaches its requester. -/
def answer (q : Request) (r : LinkResult) (w : Word) (s : State) : State :=
  match q.requester with
  | .service => s
  | .host ring _ tag =>
    postEvent (evLinkReply (replyNest s q.node.val) q.node.val q.kind.code ring tag r (replyData q.kind r w)) s
  | .check c arming session => queryResult c arming session r w s
  | .prompt n sequence step _ => stepResult n sequence step r s

/-- R143 step 1: a transaction that was in flight at RESTART answers a host FLUSHED and no other requester. -/
def answerFlight (t : Transaction) (r : LinkResult) (w : Word) (s : State) : State :=
  if t.flushed then
    match t.request.requester with
    | .host _ _ _ => answer t.request .flushed 0 s
    | .service | .check _ _ _ | .prompt _ _ _ _ => s
  else answer t.request r w s

/-- R132, R133: a service poll that has been answered clears its node's service pending. -/
def clearPending (q : Request) (s : State) : State :=
  if q.isServicePoll then s.modNode q.node fun x => { x with servicePending := false } else s

/-! ### Held requests (R131) -/

/-- The first node whose poll is held. -/
def heldPoll (s : State) : Option NodeId := allNodes.find? fun d => s.nodes[d].pollHeld

/-- The first nest with a held prompt step or RESTART clear. -/
def heldStep (s : State) : Option NestId :=
  allNests.find? fun n =>
    s.prompts[n].restartClear.isSome || (match s.prompts[n].step with | some (_, h) => h | none => false)

/-- The first check whose query is held. -/
def heldQuery (s : State) : Option CheckId := allChecks.find? fun c => s.checks[c].query == .held

/-- R131, R155: the held step of the nest enters the queue, its RESTART clear first. -/
def takeStep (n : NestId) (s : State) : State :=
  match s.prompts[n].restartClear, s.prompts[n].step with
  | some (d, q), _ =>
    (joinQueue (stepRequest n d q 0 0 .clear) s).modPrompt n fun p => { p with restartClear := none }
  | none, some (k, true) =>
    (joinQueue (contextRequest s n k) s).modPrompt n fun p => { p with step := some (k, false) }
  | none, _ => s

/-- R131: a free place takes one held request: service polls, then prompt steps, then check queries. -/
def takeHeld (s : State) : Option State :=
  if linkFree s then
    match heldPoll s, heldStep s, heldQuery s with
    | some d, _, _ =>
      some ((joinQueue (servicePoll d) s).modNode d fun x => { x with pollHeld := false })
    | none, some n, _ => some (takeStep n s)
    | none, none, some c =>
      some ((joinQueue (queryRequest s c) s).modCheck c fun k => { k with query := .issued })
    | none, none, none => none
  else none

/-- R131: at most `n` held requests, one after another. -/
def giveHeldFuel : Nat → State → State
  | 0, s => s
  | n + 1, s =>
    match takeHeld s with
    | none => s
    | some t => giveHeldFuel n t

/-- R131: held requests are taken into the places that have freed, until the places or the held requests run out. -/
def giveHeld (s : State) : State := giveHeldFuel Config.linkPlaces s

/-! ### Starting a transaction (R132, R138) -/

/-- The words a request sends from its own fields or the shadow (R123, R138). A host PUT_BLOCK has read none yet. -/
def requestWords (s : State) (q : Request) : List Word :=
  match q.kind, q.requester with
  | .put, _ | .doCommand, _ => [q.data]
  | .putBlock, .prompt _ _ _ text => promptWords s text
  | _, _ => []

/-- A host PUT_BLOCK, which gathers its words from memory. -/
def Request.readsMemory (q : Request) : Bool :=
  match q.kind, q.requester with
  | .putBlock, .host _ _ _ => true
  | _, _ => false

/-- R132: the head becomes the transaction in flight. -/
def beginTransaction (q : Request) (s : State) : State :=
  let words := requestWords s q
  let t : Transaction :=
    { request := q
      second := false
      phase := if q.readsMemory then .reading else .sending
      firstError := none
      words := words
      frame := if q.readsMemory then [] else requestFrame (addressCode s q.node) q words
      wait := 0
      flushed := false }
  s.modLink fun l => { l with flight := some t }

/-- R132: the conditions of the start test. -/
def linkIdle (s : State) : Bool := s.link.flight.isNone && s.link.block.isNone && !s.link.paused

/-- R132: the start test looks at the head. Its place frees as it leaves the queue, and held requests are given it before
the head is started or answered (R131). -/
def startTransaction (s : State) : Option State :=
  match s.link.queue with
  | [] => none
  | q :: rest =>
    if linkIdle s then
      let s := giveHeld (s.modLink fun l => { l with queue := rest })
      if s.nodes[q.node].state = .inService then some (beginTransaction q s)
      else some (clearPending q (answer q .notInService 0 s))
    else none

/-! ### The end of a transaction (R133, R134, R135, R139, R142) -/

/-- R142: the status word of a POLL answered OK. -/
def takeStatus (q : Request) (w : Word) (s : State) : State :=
  let d := q.node
  let s := s.modNode d fun x => { x with status := some w }
  let s :=
    if q.isServicePoll && reportService s d then postEvent (evService (boundNest s d) d (nodeKind s d) w) s else s
  panelWord d w (serviceTrigger d w (evaluateNode d s))

/-- R133, steps 1 to 3: the transaction completes. -/
def finishTransaction (t : Transaction) (r : LinkResult) (words : List Word) (s : State) : State :=
  let w := words.headD 0
  let s := if t.request.kind = .poll ∧ r = .ok then takeStatus t.request w s else s
  let s := clearPending t.request (answerFlight t r w s)
  s.modLink fun l => { l with flight := none }

/-- R139, R172: the waiting block item enters the post FIFO and its transaction completes. -/
def takeBlock (s : State) : Option State :=
  match s.link.block, s.link.flight with
  | some b, some t =>
    if fifoFree s then
      some (finishTransaction t .ok [] ((pushBlock b s).modLink fun l => { l with block := none }))
    else none
  | _, _ => none

/-- R172: the waiting block item is tested. -/
def testBlock (s : State) : State := (takeBlock s).getD s

/-- R139: FXL enters HANDING_OFF and offers the block item. -/
def handOff (t : Transaction) (words : List Word) (s : State) : State :=
  let buffer : Word := match t.request.requester with | .host _ b _ => b | _ => 0
  testBlock (s.modLink fun l =>
    { l with
      block := some ⟨words, buffer, t.request⟩
      flight := some { t with phase := .handingOff } })

/-- R133, R139: an attempt ends with an answer. -/
def completeAttempt (t : Transaction) (c : ReplyCode) (words : List Word) (s : State) : State :=
  if t.request.kind = .getBlock ∧ c = .ok then handOff t words s else finishTransaction t c.result words s

/-- R135: the node is lost. -/
def loseNode (t : Transaction) (second : LinkError) (s : State) : State :=
  let d := t.request.node
  let s := s.modNode d fun x => { x with state := .outOfService, servicePending := false, pollHeld := false }
  let s := offerLinkSummary (s.modLink fun l => { l with outOfService := l.outOfService + 1 })
  let s := postEvent
    (evNodeLost (boundNest s d) d (addressCode s d) t.request t.request.registerField (t.firstError.getD second)
      second) s
  let s := handOn d (answerFlight t .nodeLost 0 s)
  s.modLink fun l => { l with flight := none }

/-- R134, R135: an attempt ends in a link error. -/
def linkErrorTaken (t : Transaction) (e : LinkError) (s : State) : State :=
  if t.second then loseNode t e s
  else
    s.modLink fun l =>
      { l with flight := some { t with second := true, phase := .sending, firstError := some e, wait := 0 } }

/-! ### The request ring (R137) -/

/-- R137: a 64-byte buffer aligned to 4 that lies outside the control block and inside the address space. -/
def blockPlaced (s : State) (b : Word) : Bool :=
  let lo := b.toNat
  let block := 16384 * s.path.base.toNat
  lo % 4 == 0 && decide (lo + 64 ≤ memorySize) && (decide (lo + 64 ≤ block) || decide (block + 16384 ≤ lo))

/-- R137 step 1: the test of a record: its request, or the result it is answered with. -/
def ringRequest (s : State) (q : BitVec 4) : Except LinkResult Request :=
  match ringKind s q with
  | none => .error .badRequest
  | some k =>
    if h : ringNode s q < 15 then
      let buffer := ringWord s q 2
      if (k = .putBlock ∨ k = .getBlock) ∧ !blockPlaced s buffer then .error .badAddress
      else .ok ⟨k, ⟨ringNode s q, h⟩, ringRegister s q, ringWord s q 1, .host q buffer (ringTag s q)⟩
    else .error .badRequest

/-- R137: FXL may take the record at the consumer index. -/
def recordReady (s : State) : Bool :=
  s.link.consumer != (requestProducer s).setWidth 4
    && decide (s.link.queue.length + Config.hostIntake ≤ Config.linkPlaces)

/-- R137: one record is taken. -/
def takeRecord (s : State) : Option State :=
  if recordReady s then
    let q := s.link.consumer
    let s :=
      match ringRequest s q with
      | .ok x => joinQueue x s
      | .error r =>
        let node := ringNode s q
        postEvent (evLinkReply (replyNest s node) node (fld (ringWord s q 0) 0 3) q (ringTag s q) r 0) s
    let s := s.modLink fun l => { l with consumer := q + 1 }
    some (offer .requestConsumer [pack [put 0 4 (q + 1).toNat]] s)
  else none

/-! ### Service requests and RESTART (R141, R143) -/

/-- R141: the request line of a node has a new level. -/
def lineChanged (d : NodeId) (level : Bool) (s : State) : State :=
  let x := s.nodes[d]
  let s := s.modNode d fun x => { x with lineSeen := level }
  if level && x.state == .inService && !serviceMasked s d && !x.servicePending then
    offerPoll d (s.modNode d fun x => { x with servicePending := true })
  else s

/-- R143 step 2: the waiting HOST requests are answered FLUSHED in queue order. -/
def flushRequest (q : Request) (s : State) : State :=
  match q.requester with
  | .host _ _ _ => answer q .flushed 0 s
  | .service | .check _ _ _ | .prompt _ _ _ _ => s

/-- The nodes whose service poll waits in the queue or is held (R143 step 3). -/
def pollsToRepeat (s : State) : List NodeId :=
  allNodes.filter fun d => s.nodes[d].pollHeld || s.link.queue.any fun q => q == servicePoll d

/-- R143. Step 3 says of every node whose poll was removed that its service pending is kept set; where it was clear (a node
out of service whose poll still waited) it is set, and the poll offered again (log 47). -/
def restartLink (s : State) : State :=
  let again := pollsToRepeat s
  let waiting := s.link.queue
  let s := s.modLink fun l =>
    { l with queue := [], flight := l.flight.map fun t => { t with flushed := true } }
  let s := s.forEach allNodes fun d s => s.modNode d fun x => { x with pollHeld := false }
  (s.forEach waiting flushRequest).forEach again fun d s =>
    offerPoll d (s.modNode d fun x => { x with servicePending := true })

end Sys2Proof.Machine
end

