-- ==== Sys2Proof/Machine/Settle.lean ====
section
/-!
DEFINITION. What the part does at once after a step, in its own blocks: the tests that the rules make whenever their
conditions may have changed (R13, R131, R132, R137, R146), one at a time until none succeeds (log 3); and the passing of
one microsecond (log 1).
-/
namespace Sys2Proof.Machine

/-- R13 for one nest, as a test that may succeed. -/
def takeDrainEnd (n : NestId) (s : State) : Option State :=
  if drainComplete s n then some (drainEnd n s) else none

/-- The tests, in the order in which they are made. -/
def internalTests : List (State → Option State) :=
  [takeDrainEnd 0, takeDrainEnd 1, takePrompt 0, takePrompt 1, startTransaction, takeHeld, takeRecord]

/-- The first test that succeeds. -/
def internalStep (s : State) : Option State := internalTests.findSome? fun t => t s

/-- At most `n` internal steps. -/
def settleFuel : Nat → State → State
  | 0, s => s
  | n + 1, s =>
    match internalStep s with
    | none => s
    | some s' => settleFuel n s'

/-- Every internal step that follows at once. Each answers or starts a waiting request, takes a waiting prompt, a record
or a held request, or ends a drain; 512 is above what 64 checks, 16 places, 15 records and 2 nests can bring about. -/
def settle (s : State) : State := settleFuel 512 s

/-! ### Time (R9, R18, R54, R58, R124, R149) -/

/-- R9, R18: one microsecond of a nest. -/
def Nest.tick (x : Nest) (period : Nat) : Nest :=
  { x with
    clock := if x.state = .opened ∨ x.state = .draining then x.clock + 1 else x.clock
    snapTimer := x.snapTimer.map fun t => min (1000 * period) (t + 1) }

/-- R54, R58: one microsecond of a track. -/
def Track.tick (x : Track) : Track :=
  { x with
    interval :=
      if x.state = .running ∨ x.state = .suspending then min maxInterval (x.interval + 1) else x.interval
    gap := if x.state.active then x.gap.map fun g => g + 1 else x.gap }

/-- R149: one microsecond of a prompt context. -/
def Prompt.tick (p : Prompt) : Prompt := { p with timer := p.timer.map fun t => t + 1 }

/-- R124: one microsecond of a transaction that awaits its reply. -/
def Transaction.tick (t : Transaction) : Transaction :=
  if t.phase = .awaiting then { t with wait := t.wait + 1 } else t

/-- What one microsecond does to the counts of time. -/
def tick (s : State) : State :=
  let s := s.forEach allNests fun n s => s.modNest n fun x => x.tick (snapshotPeriod s n)
  let s := s.forEach allTracks fun t s => s.modTrack t Track.tick
  let s := s.forEach allNests fun n s => s.modPrompt n Prompt.tick
  s.modLink fun l => { l with flight := l.flight.map Transaction.tick }

end Sys2Proof.Machine
end

