-- ==== Sys2Proof/Machine/Samples.lean ====
section
/-!
DEFINITION. The nest sample (R21): measurement, readings of the response inputs, charge, supply monitor, the three rail
steps and the hand-off of the seat reading; and what comes about in a nest sample.
-/
namespace Sys2Proof.Machine

/-- R21 steps 1 to 3, with the readings of the response inputs (R88, log 18). -/
def beforeRails (n : NestId) (m : NestReading) (s : State) : State :=
  superviseSupply n m.range m.temperature (chargeNest n (readInputs n m.lines (measureNest n m s)))

/-- R21 step 4 for one rail: a rail whose state was changed earlier in the sample takes no rail step. -/
def railTurn (n : NestId) (m : NestReading) (s0 : State) (k : Fin 3) (s : State) : State :=
  let r := railOf n k
  if s.rails[r].state = s0.rails[r].state then
    testDrain n (applyRailAct r (railAct s r m.rails[k].limiter) s)
  else s

/-- The state at the turn of rail `j` of the nest (3: after the three rails). -/
def atTurn (n : NestId) (m : NestReading) (s : State) (j : Nat) : State :=
  (beforeRails n m s).forEach (allKinds.filter fun k => decide (k.val < j)) (railTurn n m s)

/-- What rail r does at its turn in the nest sample with this reading. -/
def actAtTurn (r : RailId) (m : NestReading) (s : State) : RailAct :=
  let k := kindOfRail r
  let x := atTurn (nestOfRail r) m s k.val
  if x.rails[r].state = s.rails[r].state then railAct x r m.rails[k].limiter else .idle

/-- R21 steps 1 to 4. -/
def afterRails (n : NestId) (m : NestReading) (s : State) : State := atTurn n m s 3

/-- R21 step 5 on the state after the rails: the seat debounce, then attach and closure. The probe current is that of step 1,
but 0 where step 3 has set the supply fault flag, so no nest attaches while it is set (R28, R37, log 60). -/
def handSeat (n : NestId) (m : NestReading) (s : State) : State :=
  let began := beginsClosure s.nests[n] m.seatClosed
  attachStep n m began (seatStep n m.seatClosed s)

/-- R21: the nest sample. -/
def sampleNest (n : NestId) (m : NestReading) (s : State) : State := settle (handSeat n m (afterRails n m s))

/-- R2: the seat state becomes OPEN in this sample. -/
def sampleOpensSeat (n : NestId) (m : NestReading) (s : State) : Bool :=
  confirmsOpen (afterRails n m s).nests[n] m.seatClosed

/-- R6: the nest attaches in this sample. -/
def sampleAttaches (n : NestId) (m : NestReading) (s : State) : Bool :=
  attaches (seatStep n m.seatClosed (afterRails n m s)) n m

/-- R7: SEAT_WITHOUT_LOAD is reported in this sample. -/
def sampleReports (n : NestId) (m : NestReading) (s : State) : Bool :=
  let x := afterRails n m s
  reportsClosure (seatStep n m.seatClosed x) n m (beginsClosure x.nests[n] m.seatClosed)

/-- A command that stands for the nest sample in which one event comes about. -/
def sampleIf (happens : Bool) (n : NestId) (m : NestReading) (s : State) : State :=
  if happens then sampleNest n m s else s

end Sys2Proof.Machine
end

