-- ==== Sys2Proof/Machine/Path.lean ====
section
/-!
DEFINITION. The Path Unit (chapter 9): word classes, locks, guards, captures, indices, action slots, RESTART, the memory
port arbiter and the start-up fill; and the bursts of the Posting Engine (R173, R176).
-/
namespace Sys2Proof.Machine

/-! ### The control block (R157, section 9.3) -/

/-- The word lies in the control block. -/
def inBlock (s : State) (w : BitVec 22) : Bool := w.toNat / 4096 == s.path.base.toNat

/-- Byte offset in the control block. -/
def blockOffset (w : BitVec 22) : Nat := 4 * (w.toNat % 4096)

/-- Word number of a byte offset of the control block. -/
def blockWord (s : State) (off : Nat) : Nat := 4096 * s.path.base.toNat + off / 4

/-- Classes of a word of the control block. -/
inductive WordClass where
  | report
  | action (k : SlotId)
  | eventIndex | verdictIndex | requestIndex
  | free | config
  deriving DecidableEq, Repr

/-- The table of section 9.3. -/
def wordClass (off : Nat) : WordClass :=
  if off < 0x40 then .report
  else if h : 0x40 ≤ off ∧ off < 0xC0 then
    if off % 8 = 0 then .action ⟨(off - 0x40) / 8, by omega⟩ else .report
  else if off = 0xC4 then .eventIndex
  else if off = 0xCC then .verdictIndex
  else if off = 0xD0 then .requestIndex
  else if off < 0xD8 then .report
  else if off < 0x100 then .free
  else if 0x7B0 ≤ off ∧ off < 0x800 then .free
  else if off < 0x2100 then .config
  else if off < 0x2200 then .report
  else if off < 0x2800 then .free
  else .report

/-! ### Records and locks (R161) -/

/-- The records of the CONFIG range. -/
inductive ConfigRecord where
  | nest (n : NestId) | rail (r : RailId) | track (t : TrackId) | port (p : NestId) | filter (j : CaptureId)
  | input (i : InputId) | node (d : NodeId) | check (c : CheckId) | limit (k : Nat) | prompt (i : Nat)
  | ring (q : BitVec 4)
  deriving DecidableEq, Repr

/-- The record a CONFIG word belongs to (section 11.1). -/
def recordAt (off : Nat) : Option ConfigRecord :=
  if h : 0x100 ≤ off ∧ off < 0x140 then some (.nest ⟨(off - 0x100) / 0x20, by omega⟩)
  else if h : 0x140 ≤ off ∧ off < 0x200 then some (.rail ⟨(off - 0x140) / 0x20, by omega⟩)
  else if h : 0x200 ≤ off ∧ off < 0x400 then some (.track ⟨(off - 0x200) / 0x40, by omega⟩)
  else if h : 0x400 ≤ off ∧ off < 0x440 then some (.port ⟨(off - 0x400) / 0x20, by omega⟩)
  else if h : 0x440 ≤ off ∧ off < 0x640 then some (.filter ⟨(off - 0x440) / 0x10, by omega⟩)
  else if h : 0x640 ≤ off ∧ off < 0x6C0 then some (.input ⟨(off - 0x640) / 8, by omega⟩)
  else if h : 0x6C0 ≤ off ∧ off < 0x7B0 then some (.node ⟨(off - 0x6C0) / 0x10, by omega⟩)
  else if h : 0x800 ≤ off ∧ off < 0x1000 then some (.check ⟨(off - 0x800) / 0x20, by omega⟩)
  else if 0x1000 ≤ off ∧ off < 0x1800 then some (.limit ((off - 0x1000) / 8))
  else if 0x1800 ≤ off ∧ off < 0x2000 then some (.prompt ((off - 0x1800) / 0x40))
  else if 0x2000 ≤ off ∧ off < 0x2100 then some (.ring (BitVec.ofNat 4 ((off - 0x2000) / 0x10)))
  else none

/-- R161: a context of either nest in LOADING names the prompt text. -/
def textLocked (s : State) (i : Nat) : Bool :=
  allNests.any fun n => s.prompts[n].state == .loading && s.prompts[n].text == i

/-- R161: the ring index lies from the request consumer up to, but not including, the request producer. -/
def ringLocked (s : State) (q : BitVec 4) : Bool :=
  decide ((q - s.link.consumer).toNat < ((requestProducer s).setWidth 4 - s.link.consumer).toNat)

/-- R161: the owners' answers. -/
def recordLocked (s : State) : ConfigRecord → Bool
  | .nest n => s.nests[n].state != .idle
  | .rail r => s.rails[r].state != .off && s.rails[r].state != .probe
  | .track t => s.tracks[t].state.active
  | .port p => s.ports[p].state != .off
  | .filter j => (if j.val < 16 then s.ports[0].state else s.ports[1].state) != .off
  | .input i => inputLocked s i
  | .node d => s.nodes[d].state != .disabled
  | .check c => checkLocked s c
  | .limit k => limitLocked s k
  | .prompt i => textLocked s i
  | .ring q => ringLocked s q

/-- A CONFIG word that belongs to no record is never locked. -/
def wordLocked (s : State) (off : Nat) : Bool := (recordAt off).any (recordLocked s)

/-! ### Stores (R159, R160, R162, R163, R166) -/

/-- The host access is done; the bus is free. -/
def clearHost (s : State) : State := s.modPath fun p => { p with host := none }

/-- R162: a guarded store. That GUARD carries the whole data operand of the access, the lanes that are not enabled with it,
is the model's choice (log 55). -/
def guardStore (r : GuardReason) (a : HostAccess) (s : State) : State :=
  let s := s.modPath fun p => { p with guards := satAdd max32 p.guards 1 }
  let s := offerSummary (s.modPost fun p => { p with guards := s.path.guards })
  postEvent (evGuard r a.data (a.word.toNat % 4096) a.lanes) s

/-- R160: the word a store makes of the captured one. -/
def mergedWord (s : State) (a : HostAccess) : Word := mergeLanes (cfg s (blockOffset a.word)) a.data a.lanes

/-- The shadow takes a word of the control block. -/
def setShadow (off : Nat) (v : Word) (s : State) : State :=
  s.modPath fun p => { p with shadow := Sparse.write p.shadow (off / 4) v }

/-- R160: the merged word reaches memory and shadow together, and the store is handed to STE (R166). -/
def captureStore (a : HostAccess) (s : State) : State :=
  let v := mergedWord s a
  invalidateEntries a.word.toNat
    (setShadow (blockOffset a.word) v (s.setMem (writeWord s.mem a.word.toNat v)))

/-- R166: a captured store to an input record restarts the input of an OPEN or DRAINING nest (R89). A store is a step of its
own, so the restart is always between nest samples; that it is so too for a store at the clock value of a sample is the
model's choice (log 53). -/
def restartOnStore (off : Nat) (line : Int) (s : State) : State :=
  match recordAt off with
  | some (.input i) => if sessionRuns s (nestOfInput i) then restartInput i line false s else s
  | _ => s

/-- R159, R160: a store to a CONFIG word. -/
def configStore (a : HostAccess) (line : Int) (s : State) : State :=
  if wordLocked s (blockOffset a.word) then guardStore .locked a s
  else restartOnStore (blockOffset a.word) line (captureStore a s)

/-- R159: a store outside the control block, on its enabled lanes. -/
def plainStore (a : HostAccess) (s : State) : State :=
  invalidateEntries a.word.toNat (s.setMem (writeLanes s.mem a.word.toNat a.lanes a.data))

/-- R159: a store with no row of its own. A store with no lane enabled has no effect (log 13). -/
def storeEffect (a : HostAccess) (line : Int) (s : State) : State :=
  if a.lanes = 0 then s
  else if !inBlock s a.word then plainStore a s
  else match wordClass (blockOffset a.word) with
    | .config => configStore a line s
    | .free => captureStore a s
    | _ => guardStore .reportWord a s

/-- R163: a consumer value moves forward and not past the producer. -/
def consumerLegal (v c : Word) (p : BitVec 7) : Bool :=
  decide (v.toNat ≤ 127) && decide ((v.setWidth 7 - c.setWidth 7).toNat ≤ (p - c.setWidth 7).toNat)

/-- R163: a request producer value moves forward and not past the consumer. -/
def producerLegal (v c : Word) (q : BitVec 4) : Bool :=
  decide (v.toNat ≤ 15) && decide ((c.setWidth 4 - q).toNat ≤ (v.setWidth 4 - q).toNat)

/-- R163, R175: a store to the event consumer. -/
def eventConsumerEffect (a : HostAccess) (s : State) : State :=
  if consumerLegal (mergedWord s a) (eventConsumer s) s.post.eventProducer then judgeAttention (captureStore a s)
  else guardStore .badIndex a s

/-- R163, R175: a store to the verdict consumer. -/
def verdictConsumerEffect (a : HostAccess) (s : State) : State :=
  if consumerLegal (mergedWord s a) (verdictConsumer s) s.post.verdictProducer then
    testVerdicts (judgeAttention (captureStore a s))
  else guardStore .badIndex a s

/-- R163: a store to the request producer; FXL takes records afterwards (R137). -/
def requestProducerEffect (a : HostAccess) (s : State) : State :=
  if producerLegal (mergedWord s a) (requestProducer s) s.link.consumer then captureStore a s
  else guardStore .badIndex a s

/-! ### Actions (R164, R165, R170) -/

/-- The actions of section 11.5. -/
inductive Action where
  | nestArm | nestDisarm | nestRelease | nestAbort
  | railOn | railOff | railClear | railChargeReset
  | trackLaunch | trackSuspend | trackResume | trackStop | trackExtend
  | portStart | portStop
  | checkArm | checkArmRun | checkCancel
  | nodeEnable | nodeDisable | nodeRestore | linkPause | linkResume
  | restart
  deriving DecidableEq, Repr

def Action.code : Action → Nat
  | .nestArm => 0x01
  | .nestDisarm => 0x02
  | .nestRelease => 0x03
  | .nestAbort => 0x04
  | .railOn => 0x08
  | .railOff => 0x09
  | .railClear => 0x0A
  | .railChargeReset => 0x0B
  | .trackLaunch => 0x10
  | .trackSuspend => 0x11
  | .trackResume => 0x12
  | .trackStop => 0x13
  | .trackExtend => 0x14
  | .portStart => 0x18
  | .portStop => 0x19
  | .checkArm => 0x20
  | .checkArmRun => 0x21
  | .checkCancel => 0x22
  | .nodeEnable => 0x28
  | .nodeDisable => 0x29
  | .nodeRestore => 0x2A
  | .linkPause => 0x2B
  | .linkResume => 0x2C
  | .restart => 0x3F

def allActions : List Action :=
  [.nestArm, .nestDisarm, .nestRelease, .nestAbort, .railOn, .railOff, .railClear, .railChargeReset,
   .trackLaunch, .trackSuspend, .trackResume, .trackStop, .trackExtend, .portStart, .portStop,
   .checkArm, .checkArmRun, .checkCancel, .nodeEnable, .nodeDisable, .nodeRestore, .linkPause, .linkResume,
   .restart]

/-- The action a code names. -/
def actionOf (code : Nat) : Option Action := allActions.find? fun a => a.code == code

def wordCode (w : Word) : Nat := fld w 0 8
def wordObject (w : Word) : Nat := fld w 8 8
def wordOperand (w : Word) : Nat := fld w 16 16

/-- R165: the take count of the slot advances and the result is offered. -/
def offerResult (k : SlotId) (w : Word) (reason : Option Reason) (s : State) : State :=
  let s := s.modPath fun p => { p with takes := p.takes.set k (p.takes[k] + 1) }
  offer (.result k) [resultWord (wordCode w) (wordObject w) reason s.path.takes[k]] s

/-- R164: the action word is written to memory, not captured. Handed to STE it finds nothing, since no stimulus buffer
overlaps the control block (R166). -/
def writeAction (a : HostAccess) (s : State) : State := s.setMem (writeWord s.mem a.word.toNat a.data)

/-- R164, R165: an action is taken whole, accepted or refused; a refusal leaves the state as it was. -/
def takeAction (k : SlotId) (a : HostAccess) (act : Nat → Nat → State → Except Reason State) (s : State) : State :=
  let s := writeAction a s
  match act (wordObject a.data) (wordOperand a.data) s with
  | .ok s' => offerResult k a.data none s'
  | .error r => offerResult k a.data (some r) s

/-- R164: a code that names no action. -/
def actUnknown (_obj _opd : Nat) (_s : State) : Except Reason State := .error .unknownAction

/-- RESTART (R170). PRC takes nest A before nest B (R155); that NCT (R19) and VNP (R86) do so too is the model's choice
(log 46). -/
def actRestart (_obj _opd : Nat) (s : State) : Except Reason State :=
  let s := s.forEach allNests restartNest
  let s := (restartTracks s).forEach allNests restartPort
  let s := restartLink (restartChecks s)
  .ok (postEvent evRestarted (s.forEach allNests restartPrompt))

/-! ### Which row a waiting host access is (section 9.3) -/

inductive HostRow where
  | load | store | eventIndex | verdictIndex | requestIndex
  | partialAction | unknownAction (k : SlotId) | action (k : SlotId) (x : Action)
  deriving DecidableEq, Repr

/-- The row of the table a host access is performed as. -/
def hostRow (s : State) (a : HostAccess) : HostRow :=
  if !a.store then .load
  else if a.lanes = 0 ∨ !inBlock s a.word then .store
  else match wordClass (blockOffset a.word) with
    | .report | .free | .config => .store
    | .eventIndex => .eventIndex
    | .verdictIndex => .verdictIndex
    | .requestIndex => .requestIndex
    | .action k =>
      if a.lanes ≠ 0xF#4 then .partialAction
      else match actionOf (wordCode a.data) with
        | none => .unknownAction k
        | some x => .action k x

/-! ### The arbiter (R167, R168) -/

/-- What a grant goes to. -/
inductive Client where
  | urgentFetch (t : TrackId) | fetch (t : TrackId) | fifo | host | blockRead | slot | fill
  deriving DecidableEq, Repr

/-- R51: the track's waiting request is urgent. -/
def fetchUrgent (s : State) (t : TrackId) : Bool :=
  s.tracks[t].request && decide (s.tracks[t].held.length < Config.urgentBelow)

/-- R51: the track's request waits and is not urgent. -/
def fetchWaits (s : State) (t : TrackId) : Bool :=
  s.tracks[t].request && !decide (s.tracks[t].held.length < Config.urgentBelow)

/-- R138: a block-source read waits. -/
def readWaits (s : State) : Bool := s.link.flight.any fun t => t.phase == .reading

/-- The places of a cycle of `n` after place r, in order, r itself last. -/
def cycleAfter {n : Nat} (r : Fin (n + 1)) : List (Fin (n + 1)) :=
  (List.range (n + 1)).map fun i => ⟨(r.val + 1 + i) % (n + 1), Nat.mod_lt _ (Nat.succ_pos n)⟩

/-- R168, class 1. -/
def urgentTrack (s : State) : Option TrackId := (cycleAfter s.path.urgentTurn).find? (fetchUrgent s)

/-- R168, class 5: place 8 of the cycle is FXL. -/
def backWaits (s : State) (i : Fin 9) : Bool :=
  if h : i.val < 8 then fetchWaits s ⟨i.val, h⟩ else readWaits s

def backClient (s : State) : Option Client :=
  ((cycleAfter s.path.backTurn).find? (backWaits s)).map fun i =>
    if h : i.val < 8 then .fetch ⟨i.val, h⟩ else .blockRead

/-- The host access waits and may be granted: inside the control block only once the fill has ended (R158). -/
def hostWaits (s : State) : Bool := s.path.host.any fun a => s.path.ready || !inBlock s a.word

/-- R167 while READY. -/
def grantReady (s : State) : Option Client :=
  match urgentTrack s with
  | some t => some (.urgentFetch t)
  | none =>
    if Config.fifoUrgent ≤ s.post.fifo.length then some .fifo
    else if hostWaits s then some .host
    else if s.post.fifo ≠ [] then some .fifo
    else
      match backClient s with
      | some c => some c
      | none => if s.post.places ≠ [] then some .slot else none

/-- R167: the client the memory port is granted to, while no burst is on it; while FILLING only a host access outside the
control block stands above the fill (R158). -/
def grant (s : State) : Option Client :=
  if s.path.burst.isSome then none
  else if s.path.ready then grantReady s
  else if hostWaits s then some .host
  else some .fill

/-- The waiting access, if the port is granted to it and it is performed as this row. -/
def grantedHost (s : State) (row : HostRow) : Option HostAccess :=
  match s.path.host with
  | none => none
  | some a => if grant s = some .host ∧ hostRow s a = row then some a else none

/-- The slot and access of a waiting store of this action, if it is granted. -/
def grantedAction (s : State) (x : Action) : Option (SlotId × HostAccess) :=
  match s.path.host with
  | none => none
  | some a =>
    match grant s, hostRow s a with
    | some .host, .action k y => if y = x then some (k, a) else none
    | _, _ => none

/-- The slot and access of a waiting store of an undefined code, if it is granted. -/
def grantedUnknown (s : State) : Option (SlotId × HostAccess) :=
  match s.path.host with
  | none => none
  | some a =>
    match grant s, hostRow s a with
    | some .host, .unknownAction k => some (k, a)
    | _, _ => none

/-- R159: a load is answered with the word in memory. -/
def performLoad (a : HostAccess) (s : State) : State :=
  clearHost (s.modPath fun p => { p with hostData := readWord s.mem a.word.toNat })

/-- The granted action is taken, if it is this one. -/
def performAction (x : Action) (act : Nat → Nat → State → Except Reason State) (s : State) : State :=
  match grantedAction s x with
  | none => s
  | some (k, a) => settle (takeAction k a act (clearHost s))

/-! ### Bursts of the part's own -/

/-- R158: one burst of the fill. That the fill position, which has 4096 values, wraps to 0 with the last burst is the
model's choice (log 58). -/
def fillBurst (s : State) : State :=
  let at0 := s.path.fill.toNat
  let s := s.setMem (writeWords s.mem (4096 * s.path.base.toNat + at0) [0, 0, 0, 0])
  let s := s.modPath fun p => { p with fill := p.fill + 4 }
  if at0 + 4 < 4096 then s
  else
    offerSummary ((s.modPath fun p => { p with ready := true }).modPost fun p =>
      { p with identity := Config.identity, ready := true })

/-- R167, R168: if the free port goes to a fetch, the rotation of its class moves and the fetch is on the port until its
burst completes. -/
def grantFetch (s : State) : State :=
  match grant s with
  | some (.urgentFetch t) => s.modPath fun p => { p with urgentTurn := t, burst := some t }
  | some (.fetch t) => s.modPath fun p => { p with backTurn := t.castSucc, burst := some t }
  | _ => s

/-- R52, R169: the burst of track t on the port completes. The entry of a track that is no longer active is dropped. -/
def completeFetch (t : TrackId) (s : State) : State :=
  let s := s.modPath fun p => { p with burst := none }
  if s.tracks[t].state.active then fetchEntry t s else s

/-- One microsecond passes (log 1). That a fetch is granted as one begins, and is then on the port until ENTRY_FETCH, is the
model's choice (log 56). -/
def microsecond (s : State) : State := tick (grantFetch s)

/-- R138: one block-source read; the fourth builds the frame. Reads follow each other in address order (log 26). -/
def blockRead (s : State) : State :=
  let s := s.modPath fun p => { p with backTurn := 8 }
  match s.link.flight with
  | none => s
  | some t =>
    let buffer : Word := match t.request.requester with | .host _ b _ => b | _ => 0
    let words := t.words ++ readWords s.mem (buffer.toNat / 4 + t.words.length) 4
    let t := { t with words := words }
    let t :=
      if words.length < 16 then t
      else { t with phase := .sending, frame := requestFrame (addressCode s t.request.node) t.request words }
    s.modLink fun l => { l with flight := some t }

/-- R173: the item leaves the FIFO and the waiting offers are tested (R172). -/
def itemLeaves (s : State) : State :=
  testBlock (testVerdicts (s.modPost fun p => { p with fifo := p.fifo.drop 1, progress := 0 }))

/-- R173: the part of a ring record from the present progress on, up to 4 words, is written at word number w. -/
def writePart (w : Nat) (words : List Word) (count : Nat) (s : State) : State :=
  let k := s.post.progress
  (s.setMem (writeWords s.mem (w + k) ((words.drop k).take count))).modPost fun p =>
    { p with progress := k + count }

/-- R173: the producer word of a ring. -/
def writeProducer (off : Nat) (slot : BitVec 7) (s : State) : State :=
  s.setMem (writeWord s.mem (blockWord s off) (pack [put 0 7 (slot + 1).toNat]))

/-- R173: one burst of the head item. -/
def fifoBurst (s : State) : State :=
  match s.post.fifo with
  | [] => s
  | .event slot words :: _ =>
    if s.post.progress < 4 then writePart (blockWord s (0x2800 + 16 * slot.toNat)) words 4 s
    else
      itemLeaves (judgeAttention ((writeProducer 0xC0 slot s).modPost fun p =>
        { p with eventProducer := slot + 1 }))
  | .verdict slot words :: _ =>
    if s.post.progress < 8 then writePart (blockWord s (0x3000 + 32 * slot.toNat)) words 4 s
    else
      itemLeaves (judgeAttention ((writeProducer 0xC8 slot s).modPost fun p =>
        { p with verdictProducer := slot + 1 }))
  | .block buffer words :: _ =>
    let w := buffer.toNat / 4
    let count := min (16 - s.post.progress) (4 - (w + s.post.progress) % 4)
    let s := writePart w words count s
    if s.post.progress < 16 then s else itemLeaves s

/-- R176: the byte offset a place is written to. -/
def Place.offset : Place → Nat
  | .result k => 0x44 + 8 * k.val
  | .rail r => 0x2100 + 16 * r.val
  | .input i => 0x2160 + 4 * i.val
  | .track t => 0x21A0 + 8 * t.val
  | .nest n => 0x21E0 + 16 * n.val
  | .summary => 0
  | .requestConsumer => 0xD4

/-- R176, R177: the words a place is written with; the summary's are made at the grant. -/
def placeWords (s : State) (p : Place) (v : List Word) : List Word :=
  match p with
  | .summary => summaryWords s.post
  | _ => v

/-- R176: the head of the pending list is written and becomes empty. -/
def slotBurst (s : State) : State :=
  match s.post.places with
  | [] => s
  | (p, v) :: rest =>
    (s.setMem (writeWords s.mem (blockWord s p.offset) (placeWords s p v))).modPost fun q =>
      { q with places := rest }

end Sys2Proof.Machine
end

