-- ==== Sys2Proof/Machine/BusCommands.lean ====
section
/-!
DEFINITION. The meanings of the rows of start-up, of the host bus and of posting: power-on reset, the fill, host
accesses, stores to the indices, action words that name no action, and the bursts of the Posting Engine.
-/
namespace Sys2Proof.Machine

/-- What `exec` answers. -/
abbrev Answer := Host.Outcome State Fault Refusal

/-- A step that takes its event when its condition holds and otherwise changes nothing (log 2). -/
def takenIf (c : Bool) (t s : State) : Answer := .next (if c then t else s)

/-- A step that performs the granted host access of its row. -/
def withHost (row : HostRow) (effect : HostAccess → State → State) (s : State) : State :=
  match grantedHost s row with
  | none => s
  | some a => effect a (clearHost s)

/-- POWER_ON_RESET (R1, R20, R45, R69, R87, R97, R122, R144, R156, R157, R171); memory keeps its bytes (log 36). -/
def execPowerOnReset (base : BitVec 10) (fast : Bool) (srq : BitVec 15) (s : State) : Answer :=
  .next (State.afterReset base fast srq s.mem s.pending)

/-- START_UP_FILL_BURST (R158). -/
def execStartUpFillBurst (s : State) : Answer := takenIf (grant s == some .fill) (fillBurst s) s

/-- HOST_ACCESS (R159): the host puts one access on the bus, which holds one at a time. -/
def execHostAccess (a : HostAccess) (s : State) : Answer :=
  takenIf s.path.host.isNone (s.modPath fun p => { p with host := some a }) s

/-- HOST_LOAD (R159). -/
def execHostLoad (s : State) : Answer := .next (withHost .load performLoad s)

/-- HOST_STORE (R159, R160, R162). -/
def execHostStore (line : Int) (s : State) : Answer :=
  .next (withHost .store (fun a s => storeEffect a line s) s)

/-- EVENT_CONSUMER_STORE (R163, R175). -/
def execEventConsumerStore (s : State) : Answer := .next (withHost .eventIndex eventConsumerEffect s)

/-- VERDICT_CONSUMER_STORE (R163, R175). -/
def execVerdictConsumerStore (s : State) : Answer := .next (withHost .verdictIndex verdictConsumerEffect s)

/-- REQUEST_PRODUCER_STORE (R163, R137). -/
def execRequestProducerStore (s : State) : Answer :=
  .next (withHost .requestIndex (fun a s => settle (requestProducerEffect a s)) s)

/-- PARTIAL_ACTION_STORE (R164). -/
def execPartialActionStore (s : State) : Answer :=
  .next (withHost .partialAction (fun a s => guardStore .partialWord a s) s)

/-- UNKNOWN_ACTION (R164, R165). -/
def execUnknownAction (s : State) : Answer :=
  match grantedUnknown s with
  | none => .next s
  | some (k, a) => .next (takeAction k a actUnknown (clearHost s))

/-- POST_FIFO_BURST (R173). -/
def execPostFifoBurst (s : State) : Answer := takenIf (grant s == some .fifo) (settle (fifoBurst s)) s

/-- SLOT_WRITE (R176, R177). -/
def execSlotWrite (s : State) : Answer := takenIf (grant s == some .slot) (slotBurst s) s

end Sys2Proof.Machine
end

