-- ==== Sys2Proof/Machine/ActionCommands.lean ====
section
/-!
DEFINITION. The meanings of the 24 action rows: the granted action word of that code is written, the action is taken by
its owner and its result is offered (R164, R165).
-/
namespace Sys2Proof.Machine

/-- NEST_ARM (R4). -/
def execNestArm (s : State) : Answer := .next (performAction .nestArm actNestArm s)

/-- NEST_DISARM (R5). -/
def execNestDisarm (s : State) : Answer := .next (performAction .nestDisarm actNestDisarm s)

/-- NEST_RELEASE (R10, R12). -/
def execNestRelease (s : State) : Answer := .next (performAction .nestRelease actNestRelease s)

/-- NEST_ABORT (R10, R12). -/
def execNestAbort (s : State) : Answer := .next (performAction .nestAbort actNestAbort s)

/-- RAIL_ON (R23). -/
def execRailOn (s : State) : Answer := .next (performAction .railOn actRailOn s)

/-- RAIL_OFF (R24). -/
def execRailOff (s : State) : Answer := .next (performAction .railOff actRailOff s)

/-- RAIL_CLEAR (R32). -/
def execRailClear (s : State) : Answer := .next (performAction .railClear actRailClear s)

/-- RAIL_CHARGE_RESET (R41). -/
def execRailChargeReset (s : State) : Answer := .next (performAction .railChargeReset actRailChargeReset s)

/-- TRACK_LAUNCH (R49). -/
def execTrackLaunch (s : State) : Answer := .next (performAction .trackLaunch actTrackLaunch s)

/-- TRACK_SUSPEND (R62). -/
def execTrackSuspend (s : State) : Answer := .next (performAction .trackSuspend actTrackSuspend s)

/-- TRACK_RESUME (R63). -/
def execTrackResume (s : State) : Answer := .next (performAction .trackResume actTrackResume s)

/-- TRACK_STOP (R64). -/
def execTrackStop (s : State) : Answer := .next (performAction .trackStop actTrackStop s)

/-- TRACK_EXTEND (R65). -/
def execTrackExtend (s : State) : Answer := .next (performAction .trackExtend actTrackExtend s)

/-- PORT_START (R72). -/
def execPortStart (s : State) : Answer := .next (performAction .portStart actPortStart s)

/-- PORT_STOP (R73). -/
def execPortStop (s : State) : Answer := .next (performAction .portStop actPortStop s)

/-- CHECK_ARM (R100). -/
def execCheckArm (s : State) : Answer := .next (performAction .checkArm actCheckArm s)

/-- CHECK_ARM_RUN (R102). -/
def execCheckArmRun (s : State) : Answer := .next (performAction .checkArmRun actCheckArmRun s)

/-- CHECK_CANCEL (R103). -/
def execCheckCancel (s : State) : Answer := .next (performAction .checkCancel actCheckCancel s)

/-- NODE_ENABLE (R126). -/
def execNodeEnable (s : State) : Answer := .next (performAction .nodeEnable actNodeEnable s)

/-- NODE_DISABLE (R127). -/
def execNodeDisable (s : State) : Answer := .next (performAction .nodeDisable actNodeDisable s)

/-- NODE_RESTORE (R128). -/
def execNodeRestore (s : State) : Answer := .next (performAction .nodeRestore actNodeRestore s)

/-- LINK_PAUSE (R136). -/
def execLinkPause (s : State) : Answer := .next (performAction .linkPause actLinkPause s)

/-- LINK_RESUME (R136). -/
def execLinkResume (s : State) : Answer := .next (performAction .linkResume actLinkResume s)

/-- RESTART (R170). -/
def execRestart (s : State) : Answer := .next (performAction .restart actRestart s)

end Sys2Proof.Machine
end

