-- ==== Sys2Proof/Machine/NestCommands.lean ====
section
/-!
DEFINITION. The meanings of the rows of nests, rails and response inputs: the nest sample and the rows that stand for a
nest sample in which one event comes about (log 4), edges, the snapshot timer and the end of a drain.
-/
namespace Sys2Proof.Machine

/-- NEST_SAMPLE (R21). -/
def execNestSample (n : NestId) (m : NestReading) (s : State) : Answer := .next (sampleNest n m s)

/-- SEAT_OPEN (R2, R11, R14). -/
def execSeatOpen (n : NestId) (m : NestReading) (s : State) : Answer :=
  .next (sampleIf (sampleOpensSeat n m s) n m s)

/-- ATTACH (R6, R8). -/
def execAttach (n : NestId) (m : NestReading) (s : State) : Answer :=
  .next (sampleIf (sampleAttaches n m s) n m s)

/-- SEAT_WITHOUT_LOAD (R7). -/
def execSeatWithoutLoad (n : NestId) (m : NestReading) (s : State) : Answer :=
  .next (sampleIf (sampleReports n m s) n m s)

/-- LIMITING_DWELL_EXPIRY (R26, R29). -/
def execLimitingDwellExpiry (r : RailId) (m : NestReading) (s : State) : Answer :=
  .next (sampleIf (actAtTurn r m s == .overcurrent) (nestOfRail r) m s)

/-- FAULT_WAIT_EXPIRY (R30). -/
def execFaultWaitExpiry (r : RailId) (m : NestReading) (s : State) : Answer :=
  .next (sampleIf (actAtTurn r m s == .waitExpiry) (nestOfRail r) m s)

/-- RETRY_TEST_EXPIRY (R31). -/
def execRetryTestExpiry (r : RailId) (m : NestReading) (s : State) : Answer :=
  .next (sampleIf (actAtTurn r m s == .retryExpiry) (nestOfRail r) m s)

/-- DISCHARGE_EXPIRY (R25). -/
def execDischargeExpiry (r : RailId) (m : NestReading) (s : State) : Answer :=
  .next (sampleIf (actAtTurn r m s == .dischargeExpiry) (nestOfRail r) m s)

/-- BUDGET_CROSSING (R40). -/
def execBudgetCrossing (r : RailId) (m : NestReading) (s : State) : Answer :=
  .next (sampleIf (budgetCrosses r m s) (nestOfRail r) m s)

/-- GATE_END (R90). -/
def execGateEnd (i : InputId) (m : NestReading) (s : State) : Answer :=
  .next (sampleIf (gateEnds s i) (nestOfInput i) m s)

/-- RISING_EDGE (R88, R90, R94): the comparator was LOW. -/
def execRisingEdge (i : InputId) (s : State) : Answer :=
  takenIf (seesEdges s i && !s.inputs[i].high)
    (s.modInput i fun x => x.takeEdge s.nests[nestOfInput i].clock) s

/-- FALLING_EDGE (R88, R90): the comparator was HIGH. -/
def execFallingEdge (i : InputId) (s : State) : Answer :=
  takenIf (seesEdges s i && s.inputs[i].high)
    (s.modInput i fun x => x.takeEdge s.nests[nestOfInput i].clock) s

/-- SNAPSHOT_TIMER_EXPIRY (R18, R42, R96). -/
def execSnapshotTimerExpiry (n : NestId) (s : State) : Answer := takenIf (snapshotDue s n) (snapshotExpiry n s) s

/-- DRAIN_END (R13, R14). -/
def execDrainEnd (n : NestId) (s : State) : Answer := takenIf (drainComplete s n) (settle (drainEnd n s)) s

end Sys2Proof.Machine
end

