-- ==== Sys2Proof/Machine/StimulusCommands.lean ====
section
/-!
DEFINITION. The meanings of the rows of tracks, outputs and network ports.
-/
namespace Sys2Proof.Machine

/-- ENTRY_FETCH (R52, R167 to R169): the fetch on the memory port, or else the one that the port is now granted to,
completes. -/
def execEntryFetch (s : State) : Answer :=
  let s := grantFetch s
  match s.path.burst with
  | none => .next s
  | some t => .next (settle (completeFetch t s))

/-- ENTRY_DUE (R54 to R58). -/
def execEntryDue (t : TrackId) (s : State) : Answer := takenIf (headDue s t) (settle (handleDue t s)) s

/-- PULSE_PERIOD_END (R47). -/
def execPulsePeriodEnd (n : NestId) (k : Fin 4) (s : State) : Answer :=
  .next (s.modOutputs n fun x => { x with pulse := x.pulse.set k x.pulse[k].periodEnd })

/-- R58 step 1: the head is a due FRAME entry whose frame gap has passed. -/
def gapEnded (s : State) (t : TrackId) : Bool :=
  headDue s t && s.tracks[t].gap.isSome && !gapOpen s t
    && (match s.tracks[t].held with | [] => false | e :: _ => e.target == some .frame)

/-- FRAME_GAP_END (R58). -/
def execFrameGapEnd (t : TrackId) (s : State) : Answer := takenIf (gapEnded s t) (settle (handleDue t s)) s

/-- STALL_PLACE_OFFERED (R75). -/
def execStallPlaceOffered (p : NestId) (s : State) : Answer := .next (settle (offerPlace p s))

/-- ATTEMPT_START (R76): the attempt begins with the head of the queue. -/
def execAttemptStart (p : NestId) (s : State) : Answer :=
  takenIf (attemptReady s.ports[p]) (s.modPort p fun x => { x with inFlight := some 0 }) s

/-- ACKED (R77). -/
def execAcked (p : NestId) (s : State) : Answer :=
  match s.ports[p].flying with
  | none => .next s
  | some (i, _) => .next (settle (frameAcked p i s))

/-- LOST_ARBITRATION (R77): only a frame of lower or equal key takes the bus. -/
def execLostArbitration (p : NestId) (identifier : BitVec 29) (extended : Bool) (s : State) : Answer :=
  match s.ports[p].flying with
  | none => .next s
  | some (_, f) =>
    takenIf (decide (arbitrationKey identifier extended ≤ f.key)) (s.modPort p fun x => { x with inFlight := none }) s

/-- NOT_ACKED (R78, R79). -/
def execNotAcked (p : NestId) (s : State) : Answer :=
  match s.ports[p].flying with
  | none => .next s
  | some (i, f) => .next (settle (frameNotAcked p i f s))

/-- DUT_FRAME_RECEIVED (R81 to R84). -/
def execDutFrameReceived (p : NestId) (f : DutFrame) (s : State) : Answer := .next (receiveFrame p f s)

end Sys2Proof.Machine
end

