-- ==== Sys2Proof/Machine/CheckCommands.lean ====
section
/-!
DEFINITION. The meanings of the rows of checks and prompts: time triggers, ends of delays and windows, samples, verdicts
taken, prompts taken and prompt timeouts.
-/
namespace Sys2Proof.Machine

/-- R104 TIME: an ARMED check whose TIME has been reached. -/
def timeTriggered (s : State) (c : CheckId) : Bool := s.checks[c].state == .armed && timeReached s c

/-- TIME_TRIGGER (R104). -/
def execTimeTrigger (c : CheckId) (s : State) : Answer := takenIf (timeTriggered s c) (settle (triggerCheck c s)) s

/-- The settle delay of a DELAYING check has passed. -/
def delayEnded (s : State) (c : CheckId) : Bool :=
  s.checks[c].state == .delaying && decide (1000 * settleDelay s c ≤ since s c s.checks[c].phase)

/-- DELAY_END (R108 to R114). -/
def execDelayEnd (c : CheckId) (s : State) : Answer :=
  takenIf (delayEnded s c) (settle (finishCheck c (endDelay c s))) s

/-- R109, R110: the next sample of a SAMPLING check, counted from its phase start, is due. -/
def intervalPassed (s : State) (c : CheckId) : Bool :=
  s.checks[c].state == .sampling
    && decide (1000 * (sampleInterval s c * s.checks[c].samples) ≤ since s c s.checks[c].phase)

/-- R109: a WINDOW check has a sample to take. -/
def windowSampleDue (s : State) (c : CheckId) : Bool :=
  checkKind s c == some .window && intervalPassed s c && decide (s.checks[c].samples < windowSamples s c)

/-- WINDOW_SAMPLE (R109). -/
def execWindowSample (c : CheckId) (s : State) : Answer :=
  takenIf (windowSampleDue s c) (settle (finishCheck c (takeWindowSample c s))) s

/-- R110: an unmarked PROFILE has a sample to take. -/
def profileSampleDue (s : State) (c : CheckId) : Bool :=
  checkKind s c == some .profile && !markedProfile s c && intervalPassed s c

/-- PROFILE_SAMPLE (R110). -/
def execProfileSample (c : CheckId) (s : State) : Answer :=
  takenIf (profileSampleDue s c) (settle (finishCheck c (takeProfileSample c s))) s

/-- R111: the nest clock has reached the time of the pending sample, modulo 2^32; it lies at most 65,535 ms ahead. -/
def pendingDue (s : State) (c : CheckId) : Bool :=
  s.checks[c].state == .sampling
    && s.checks[c].due.any fun d => decide (since s c d < 2147483648)

/-- PENDING_SAMPLE_DUE (R111). -/
def execPendingSampleDue (c : CheckId) (s : State) : Answer :=
  takenIf (pendingDue s c) (settle (finishCheck c (takeProfileSample c s))) s

/-- WINDOW_END (R109 to R114). -/
def execWindowEnd (c : CheckId) (s : State) : Answer :=
  match windowEnded s c with
  | none => .next s
  | some d => .next (settle (decideCheck c d s))

/-- VERDICT_TAKEN (R119, R172). -/
def execVerdictTaken (s : State) : Answer := .next ((takeVerdict s).getD s)

/-- TAKE_PROMPT (R146). -/
def execTakePrompt (n : NestId) (s : State) : Answer :=
  match takePrompt n s with
  | none => .next s
  | some t => .next (settle t)

/-- PROMPT_TIMEOUT (R149). -/
def execPromptTimeout (n : NestId) (s : State) : Answer :=
  takenIf (promptExpired s n) (settle (promptTimedOut n s)) s

end Sys2Proof.Machine
end

