-- ==== Sys2Proof/Machine/LinkCommands.lean ====
section
/-!
DEFINITION. The meanings of the rows of the fixture link.
-/
namespace Sys2Proof.Machine

/-- HELD_REQUEST_TAKEN (R131). -/
def execHeldRequestTaken (s : State) : Answer :=
  match takeHeld s with
  | none => .next s
  | some t => .next (settle t)

/-- REQUEST_RECORD_TAKEN (R137). -/
def execRequestRecordTaken (s : State) : Answer :=
  match takeRecord s with
  | none => .next s
  | some t => .next (settle t)

/-- SERVICE_REQUEST (R141): the request line of a node changes to a level. -/
def execServiceRequest (d : NodeId) (level : Bool) (s : State) : Answer :=
  takenIf (s.nodes[d].lineSeen != level) (settle (lineChanged d level s)) s

/-- TRANSACTION_START (R132). -/
def execTransactionStart (s : State) : Answer :=
  match startTransaction s with
  | none => .next s
  | some t => .next (settle t)

/-- BLOCK_SOURCE_READ (R138, R168). -/
def execBlockSourceRead (s : State) : Answer := takenIf (grant s == some .blockRead) (blockRead s) s

/-- The transaction in flight, if it is in this phase. -/
def flightIn (s : State) (x : Phase) : Option Transaction := s.link.flight.filter fun t => t.phase == x

/-- REQUEST_FRAME_END (R124): the last bit of the request frame has been sent. -/
def execRequestFrameEnd (s : State) : Answer :=
  match flightIn s .sending with
  | none => .next s
  | some t => .next (s.modLink fun l => { l with flight := some { t with phase := .awaiting, wait := 0 } })

/-- REPLY_OPENER_BEGINS (R124): a reply opener begins before the reply timeout. -/
def execReplyOpenerBegins (s : State) : Answer :=
  match flightIn s .awaiting with
  | none => .next s
  | some t =>
    takenIf (decide (t.wait < Config.replyTimeout))
      (s.modLink fun l => { l with flight := some { t with phase := .receiving } }) s

/-- NO_REPLY (R124, R134, R135): 100 µs have passed after the last bit of the request. -/
def execNoReply (s : State) : Answer :=
  match flightIn s .awaiting with
  | none => .next s
  | some t => takenIf (decide (Config.replyTimeout ≤ t.wait)) (settle (linkErrorTaken t .noReply s)) s

/-- R124: the reply judged against the node addressed and the kind sent. -/
def judged (s : State) (t : Transaction) (r : LinkReply) : Judgement :=
  judgeReply (addressCode s t.request.node) t.request.kind r

/-- LINK_ERROR (R124, R134, R135): the line has been idle after a reply that shows a link error. -/
def execLinkError (r : LinkReply) (s : State) : Answer :=
  match flightIn s .receiving with
  | none => .next s
  | some t =>
    match judged s t r with
    | .error e => .next (settle (linkErrorTaken t e s))
    | .answer _ _ => .next s

/-- LINK_REPLY_COMPLETE (R124, R133): the line has been idle after a reply that is an answer. -/
def execLinkReplyComplete (r : LinkReply) (s : State) : Answer :=
  match flightIn s .receiving with
  | none => .next s
  | some t =>
    match judged s t r with
    | .error _ => .next s
    | .answer c words => .next (settle (completeAttempt t c words s))

/-- BLOCK_ITEM_TAKEN (R139, R172). -/
def execBlockItemTaken (s : State) : Answer :=
  match takeBlock s with
  | none => .next s
  | some t => .next (settle t)

end Sys2Proof.Machine
end

