-- ==== Sys2Proof/Machine/Dispatch.lean ====
section
/-!
DEFINITION. The meaning of each command: one arm per constructor of Instr.
-/
namespace Sys2Proof.Machine

def exec (i : Instr) (s : State) : Host.Outcome State Fault Refusal :=
  match i with
  | .powerOnReset base fast srq => Sys2Proof.Machine.execPowerOnReset base fast srq s
  | .startUpFillBurst => Sys2Proof.Machine.execStartUpFillBurst s
  | .hostLoad => Sys2Proof.Machine.execHostLoad s
  | .hostStore line => Sys2Proof.Machine.execHostStore line s
  | .eventConsumerStore => Sys2Proof.Machine.execEventConsumerStore s
  | .verdictConsumerStore => Sys2Proof.Machine.execVerdictConsumerStore s
  | .requestProducerStore => Sys2Proof.Machine.execRequestProducerStore s
  | .partialActionStore => Sys2Proof.Machine.execPartialActionStore s
  | .unknownAction => Sys2Proof.Machine.execUnknownAction s
  | .nestArm => Sys2Proof.Machine.execNestArm s
  | .nestDisarm => Sys2Proof.Machine.execNestDisarm s
  | .nestRelease => Sys2Proof.Machine.execNestRelease s
  | .nestAbort => Sys2Proof.Machine.execNestAbort s
  | .railOn => Sys2Proof.Machine.execRailOn s
  | .railOff => Sys2Proof.Machine.execRailOff s
  | .railClear => Sys2Proof.Machine.execRailClear s
  | .railChargeReset => Sys2Proof.Machine.execRailChargeReset s
  | .trackLaunch => Sys2Proof.Machine.execTrackLaunch s
  | .trackSuspend => Sys2Proof.Machine.execTrackSuspend s
  | .trackResume => Sys2Proof.Machine.execTrackResume s
  | .trackStop => Sys2Proof.Machine.execTrackStop s
  | .trackExtend => Sys2Proof.Machine.execTrackExtend s
  | .portStart => Sys2Proof.Machine.execPortStart s
  | .portStop => Sys2Proof.Machine.execPortStop s
  | .checkArm => Sys2Proof.Machine.execCheckArm s
  | .checkArmRun => Sys2Proof.Machine.execCheckArmRun s
  | .checkCancel => Sys2Proof.Machine.execCheckCancel s
  | .nodeEnable => Sys2Proof.Machine.execNodeEnable s
  | .nodeDisable => Sys2Proof.Machine.execNodeDisable s
  | .nodeRestore => Sys2Proof.Machine.execNodeRestore s
  | .linkPause => Sys2Proof.Machine.execLinkPause s
  | .linkResume => Sys2Proof.Machine.execLinkResume s
  | .restart => Sys2Proof.Machine.execRestart s
  | .nestSample n m => Sys2Proof.Machine.execNestSample n m s
  | .seatOpen n m => Sys2Proof.Machine.execSeatOpen n m s
  | .attach n m => Sys2Proof.Machine.execAttach n m s
  | .seatWithoutLoad n m => Sys2Proof.Machine.execSeatWithoutLoad n m s
  | .limitingDwellExpiry r m => Sys2Proof.Machine.execLimitingDwellExpiry r m s
  | .faultWaitExpiry r m => Sys2Proof.Machine.execFaultWaitExpiry r m s
  | .retryTestExpiry r m => Sys2Proof.Machine.execRetryTestExpiry r m s
  | .dischargeExpiry r m => Sys2Proof.Machine.execDischargeExpiry r m s
  | .budgetCrossing r m => Sys2Proof.Machine.execBudgetCrossing r m s
  | .risingEdge k => Sys2Proof.Machine.execRisingEdge k s
  | .fallingEdge k => Sys2Proof.Machine.execFallingEdge k s
  | .gateEnd k m => Sys2Proof.Machine.execGateEnd k m s
  | .snapshotTimerExpiry n => Sys2Proof.Machine.execSnapshotTimerExpiry n s
  | .drainEnd n => Sys2Proof.Machine.execDrainEnd n s
  | .entryFetch => Sys2Proof.Machine.execEntryFetch s
  | .entryDue t => Sys2Proof.Machine.execEntryDue t s
  | .pulsePeriodEnd n k => Sys2Proof.Machine.execPulsePeriodEnd n k s
  | .frameGapEnd t => Sys2Proof.Machine.execFrameGapEnd t s
  | .stallPlaceOffered p => Sys2Proof.Machine.execStallPlaceOffered p s
  | .attemptStart p => Sys2Proof.Machine.execAttemptStart p s
  | .acked p => Sys2Proof.Machine.execAcked p s
  | .lostArbitration p identifier extended => Sys2Proof.Machine.execLostArbitration p identifier extended s
  | .notAcked p => Sys2Proof.Machine.execNotAcked p s
  | .dutFrameReceived p f => Sys2Proof.Machine.execDutFrameReceived p f s
  | .timeTrigger c => Sys2Proof.Machine.execTimeTrigger c s
  | .delayEnd c => Sys2Proof.Machine.execDelayEnd c s
  | .windowSample c => Sys2Proof.Machine.execWindowSample c s
  | .profileSample c => Sys2Proof.Machine.execProfileSample c s
  | .pendingSampleDue c => Sys2Proof.Machine.execPendingSampleDue c s
  | .windowEnd c => Sys2Proof.Machine.execWindowEnd c s
  | .verdictTaken => Sys2Proof.Machine.execVerdictTaken s
  | .heldRequestTaken => Sys2Proof.Machine.execHeldRequestTaken s
  | .requestRecordTaken => Sys2Proof.Machine.execRequestRecordTaken s
  | .serviceRequest d level => Sys2Proof.Machine.execServiceRequest d level s
  | .transactionStart => Sys2Proof.Machine.execTransactionStart s
  | .blockSourceRead => Sys2Proof.Machine.execBlockSourceRead s
  | .requestFrameEnd => Sys2Proof.Machine.execRequestFrameEnd s
  | .noReply => Sys2Proof.Machine.execNoReply s
  | .linkError r => Sys2Proof.Machine.execLinkError r s
  | .linkReplyComplete r => Sys2Proof.Machine.execLinkReplyComplete r s
  | .blockItemTaken => Sys2Proof.Machine.execBlockItemTaken s
  | .takePrompt n => Sys2Proof.Machine.execTakePrompt n s
  | .promptTimeout n => Sys2Proof.Machine.execPromptTimeout n s
  | .postFifoBurst => Sys2Proof.Machine.execPostFifoBurst s
  | .slotWrite => Sys2Proof.Machine.execSlotWrite s
  | .replyOpenerBegins => Sys2Proof.Machine.execReplyOpenerBegins s
  | .hostAccess a => Sys2Proof.Machine.execHostAccess a s

end Sys2Proof.Machine
end

