-- ==== Sys2Proof/Safety.lean ====
section
/-!
DEFINITION. The invariant of the machine that every step keeps (memory and shadow stay in canonical form), and what the
steps of a prompt can do to nests: a drain may end (R13, R151).
-/
namespace Sys2Proof

open Machine

/-- Words of the control block. -/
def shadowWords : Nat := 4096

/-- Memory and shadow hold their canonical form (R156; 00_scope.md, section 6). -/
def Inv (s : State) : Prop := Memory.wf s.mem = true ∧ Sparse.wf shadowWords 0 s.path.shadow = true

end Sys2Proof

namespace Sys2Proof.Stated

open Machine

/-- The state of a nest that leaves HELD or a drain with its seat open (R14). -/
def restState (s : State) (n : NestId) : NestState :=
  if autoArm s n && !someRail s n .latched && nestRecordInRange s n then .waiting else .idle

/-- Nest n, its rails and its inputs are as they were. -/
def NestKept (n : NestId) (s t : State) : Prop :=
  t.nests[n] = s.nests[n] ∧ (∀ k : Fin 3, t.rails[railOf n k] = s.rails[railOf n k])
    ∧ ∀ j : Fin 8, t.inputs[inputOf n j] = s.inputs[inputOf n j]

/-- R13, R14, R95: the drain of nest n, whose rails are OFF or LATCHED, has ended. -/
def DrainEnded (n : NestId) (s t : State) : Prop :=
  let x := s.nests[n]
  let y := t.nests[n]
  x.state = .draining
    ∧ (∀ k : Fin 3, s.rails[railOf n k].state = .off ∨ s.rails[railOf n k].state = .latched)
    ∧ y.state = (if x.seat then .held else restState s n)
    ∧ y.session = x.session ∧ y.clock = x.clock ∧ y.cause = x.cause ∧ y.seat = x.seat ∧ y.trip = x.trip
    ∧ (∀ k : Fin 3, t.rails[railOf n k] =
        if y.state = .waiting ∧ k = 0 ∧ s.rails[railOf n k].state = .off then
          { s.rails[railOf n k] with state := .probe }
        else s.rails[railOf n k])
    ∧ ∀ j : Fin 8, t.inputs[inputOf n j]
        = { s.inputs[inputOf n j] with measuring := false, gate := Gate.clear, position := none, value := none }

/-- Each nest is as it was, or its drain has ended. -/
def DrainsMayEnd (s t : State) : Prop := ∀ n : NestId, NestKept n s t ∨ DrainEnded n s t

end Sys2Proof.Stated
end

