-- ==== Sys2Proof/Certificates/Slice0/Obligations.lean ====
section
/-!
DEFINITION. The statements about the machine, one def for each, and the propositions they share.
-/
namespace Sys2Proof.Stated

open Machine

/-- Every block but the Path Unit and the Posting Engine is as it was. -/
def SameBlocks (s t : State) : Prop :=
  t.nests = s.nests ∧ t.supplies = s.supplies ∧ t.rails = s.rails ∧ t.tracks = s.tracks ∧ t.outputs = s.outputs
    ∧ t.claims = s.claims ∧ t.frameHolders = s.frameHolders ∧ t.ports = s.ports ∧ t.capture = s.capture
    ∧ t.inputs = s.inputs ∧ t.checks = s.checks ∧ t.unposted = s.unposted ∧ t.nodes = s.nodes ∧ t.link = s.link
    ∧ t.prompts = s.prompts

/-- The stimulus and network side is as it was: supplies, tracks, outputs, claims, ports and capture slots. -/
def SameStimulus (s t : State) : Prop :=
  t.supplies = s.supplies ∧ t.tracks = s.tracks ∧ t.outputs = s.outputs ∧ t.claims = s.claims
    ∧ t.frameHolders = s.frameHolders ∧ t.ports = s.ports ∧ t.capture = s.capture

/-- The check and link side is as it was: checks, unposted verdicts, nodes, link and prompts. -/
def SameChecks (s t : State) : Prop :=
  t.checks = s.checks ∧ t.unposted = s.unposted ∧ t.nodes = s.nodes ∧ t.link = s.link ∧ t.prompts = s.prompts

/-- R172: the event, offered in state s, has entered the post FIFO with a reserved slot, or has been discarded and
counted as lost. -/
def Posted (e : Event) (s t : State) : Prop :=
  if fifoFree s && decide (1 ≤ eventRoom s) then
    t.post.fifo = s.post.fifo ++ [.event s.post.eventReserve (e.words s)]
      ∧ t.post.eventReserve = s.post.eventReserve + 1 ∧ t.post.lost = s.post.lost
  else
    t.post.fifo = s.post.fifo ∧ t.post.eventReserve = s.post.eventReserve
      ∧ t.post.lost = satAdd max32 s.post.lost 1

/-- R172: the event, as state s stamps it, stands in the post FIFO of u, or an event has been counted as lost. -/
def Reported (e : Event) (s u : State) : Prop :=
  (∃ slot, Item.event slot (e.words s) ∈ u.post.fifo) ∨ s.post.lost < u.post.lost ∨ u.post.lost = 4294967295

/-- No event and no verdict entered or left the post FIFO. -/
def NothingPosted (s t : State) : Prop :=
  t.post.fifo = s.post.fifo ∧ t.post.lost = s.post.lost

/-- Every byte outside the `count` words from word number w on reads as before. -/
def BytesKept (w count : Nat) (s t : State) : Prop :=
  ∀ x, (∀ k, k < count → ∀ i, i < 4 → x ≠ byteAddress (w + k) i) → readByte t.mem x = readByte s.mem x

/-- The words from word number w on read as these. -/
def WordsRead (w : Nat) (l : List Word) (t : State) : Prop :=
  ∀ k (h : k < l.length), readWord t.mem (w + k) = l[k]

/-- An action row of the table: its command, its action and what its owner does. -/
structure ActionRow where
  command : Instr
  action : Action
  act : Nat → Nat → State → Except Reason State

/-- The 24 action rows. -/
def actionRows : List ActionRow :=
  [⟨.nestArm, .nestArm, actNestArm⟩, ⟨.nestDisarm, .nestDisarm, actNestDisarm⟩,
   ⟨.nestRelease, .nestRelease, actNestRelease⟩, ⟨.nestAbort, .nestAbort, actNestAbort⟩,
   ⟨.railOn, .railOn, actRailOn⟩, ⟨.railOff, .railOff, actRailOff⟩, ⟨.railClear, .railClear, actRailClear⟩,
   ⟨.railChargeReset, .railChargeReset, actRailChargeReset⟩,
   ⟨.trackLaunch, .trackLaunch, actTrackLaunch⟩, ⟨.trackSuspend, .trackSuspend, actTrackSuspend⟩,
   ⟨.trackResume, .trackResume, actTrackResume⟩, ⟨.trackStop, .trackStop, actTrackStop⟩,
   ⟨.trackExtend, .trackExtend, actTrackExtend⟩,
   ⟨.portStart, .portStart, actPortStart⟩, ⟨.portStop, .portStop, actPortStop⟩,
   ⟨.checkArm, .checkArm, actCheckArm⟩, ⟨.checkArmRun, .checkArmRun, actCheckArmRun⟩,
   ⟨.checkCancel, .checkCancel, actCheckCancel⟩,
   ⟨.nodeEnable, .nodeEnable, actNodeEnable⟩, ⟨.nodeDisable, .nodeDisable, actNodeDisable⟩,
   ⟨.nodeRestore, .nodeRestore, actNodeRestore⟩, ⟨.linkPause, .linkPause, actLinkPause⟩,
   ⟨.linkResume, .linkResume, actLinkResume⟩, ⟨.restart, .restart, actRestart⟩]

/-- How many objects the action's owner has; the link actions and RESTART name none. -/
def objectBound : Action → Option Nat
  | .nestArm | .nestDisarm | .nestRelease | .nestAbort | .portStart | .portStop => some 2
  | .railOn | .railOff | .railClear | .railChargeReset => some 6
  | .trackLaunch | .trackSuspend | .trackResume | .trackStop | .trackExtend => some 8
  | .checkArm | .checkArmRun | .checkCancel => some 64
  | .nodeEnable | .nodeDisable | .nodeRestore => some 15
  | .linkPause | .linkResume | .restart => none

/-- The memory port is granted to a host store of the action word of slot k whose code is this action's and whose
object is `obj`. -/
def Commands (s : State) (x : Action) (k : SlotId) (a : HostAccess) (obj : Nat) : Prop :=
  grantedAction s x = some (k, a) ∧ wordObject a.data = obj

/-- The command takes the granted action word: its result is offered to the place of slot k; accepted, its effect
leaves a state u with P u and what follows at once happens to u; refused, every block is as it was. -/
def Answers (c : Instr) (k : SlotId) (a : HostAccess) (s : State) (reason : Option Reason) (P : State → Prop) :
    Prop :=
  ∃ u, exec c s = .next (settle u)
    ∧ (Place.result k, [resultWord (wordCode a.data) (wordObject a.data) reason (s.path.takes[k] + 1)])
        ∈ u.post.places
    ∧ (match reason with
        | none => P u
        | some _ => SameBlocks s u ∧ NothingPosted s u)

/-- The command has its effect and what follows at once happens to the state it leaves. -/
def Leaves (c : Instr) (s : State) (P : State → Prop) : Prop := ∃ u, exec c s = .next (settle u) ∧ P u

/-- A nest-wide force-off of one rail (R36). -/
def forcedRail (c : RailCause) (x : Rail) : Rail :=
  if x.state.forcible then
    { x with state := .discharging, cause := c, retry := 0, dwell := 0, timer := some 0 }
  else if x.state = .latched then { x with state := .off, cause := c, retry := 0, dwell := 0, timer := none }
  else x

/-- A dependant forced off with BATT_LOST (R35). -/
def dependantRail (x : Rail) : Rail :=
  { x with state := .discharging, cause := .battLost, dwell := 0, timer := some 0 }

/-- The three rails of every other nest are as they were. -/
def OtherRails (n : NestId) (s t : State) : Prop := ∀ r : RailId, nestOfRail r ≠ n → t.rails[r] = s.rails[r]

/-- Every other track is as it was. -/
def OtherTracks (k : TrackId) (s t : State) : Prop := ∀ j : TrackId, j ≠ k → t.tracks[j] = s.tracks[j]

/-- Every other port is as it was. -/
def OtherPorts (p : NestId) (s t : State) : Prop := ∀ q : NestId, q ≠ p → t.ports[q] = s.ports[q]

/-- Every other input is as it was. -/
def OtherInputs (i : InputId) (s t : State) : Prop := ∀ j : InputId, j ≠ i → t.inputs[j] = s.inputs[j]

/-- Every other check is as it was. -/
def OtherChecks (c : CheckId) (s t : State) : Prop := ∀ e : CheckId, e ≠ c → t.checks[e] = s.checks[e]

/-- Nests, supplies, rails and inputs are as they were. -/
def SamePlant (s t : State) : Prop :=
  t.nests = s.nests ∧ t.supplies = s.supplies ∧ t.rails = s.rails ∧ t.inputs = s.inputs

/-- R13, R14, R95: the drain of nest n has ended and SESSION_CLOSE is posted. -/
def SessionClosed (n : NestId) (s u : State) : Prop :=
  DrainEnded n s u ∧ Posted (evSessionClose n s.nests[n].cause) s u
    ∧ (∀ j : NestId, j ≠ n → NestKept j s u) ∧ SameStimulus s u ∧ SameChecks s u

/-- R13: the completion test of the DRAINING nest n has been made in v: where the context is FREE and the rails are OFF or
LATCHED, its drain has ended. -/
def DrainTested (n : NestId) (v u : State) : Prop :=
  let done := v.prompts[n].state = .free
    ∧ ∀ k : Fin 3, v.rails[railOf n k].state = .off ∨ v.rails[railOf n k].state = .latched
  (done → SessionClosed n v u)
  ∧ (¬ done → SamePlant v u ∧ SameStimulus v u ∧ SameChecks v u ∧ NothingPosted v u)

/-- Nothing but the Check Unit, the Prompt Controller, the link queue and the post FIFO may have changed. -/
def SameOutsideChecks (s t : State) : Prop :=
  SamePlant s t ∧ SameStimulus s t ∧ t.path = s.path ∧ t.mem = s.mem

/-- R117: the check, as it stood in s, has been decided so: its verdict is held and waits to be taken, or stands in the
post FIFO and the check is IDLE. -/
def Decided (c : CheckId) (d : Decision) (s t : State) : Prop :=
  let v : Verdict := ⟨c, checkNest s c, s.checks[c].arming, s.checks[c].session, d, s.checks[c].trigger, checkClock s c⟩
  (t.checks[c].state = .decided ∧ t.checks[c].held = some v ∧ c ∈ t.unposted)
    ∨ (t.checks[c].state = .idle ∧ ∃ slot, Item.verdict slot v.words ∈ t.post.fifo)

/-- The rest of a nest sample after the turn of rail r, from the state w that the turn leaves (R21). -/
def restOfSample (r : RailId) (m : NestReading) (s w : State) : State :=
  let n := nestOfRail r
  settle (handSeat n m
    ((testDrain n w).forEach (allKinds.filter fun j => decide ((kindOfRail r).val < j.val)) (railTurn n m s)))

/-- R147: the CLEAR step of the context p of nest n has been offered, or is held, and the context is CLEARING. -/
def Clearing (p q : Prompt) : Prop :=
  q.state = .clearing ∧ q.timer = none ∧ q.check = p.check ∧ q.sequence = p.sequence ∧ q.panel = p.panel
    ∧ ∃ held, q.step = some (.clear, held)

/-- R152: what a withdrawal makes of a context p that does not enter FREE by it. -/
def Withdrawn (p q : Prompt) : Prop :=
  (p.state = .shown → Clearing p q)
  ∧ (p.state = .showing → (∃ k, p.step = some (k, true)) → Clearing p q)
  ∧ ((p.state = .loading ∨ p.state = .showing) → (∀ k, p.step ≠ some (k, true)) →
      q.state = p.state ∧ q.withdrawn = true ∧ q.step = p.step ∧ q.check = p.check ∧ q.sequence = p.sequence)
  ∧ (p.state = .clearing → q.state = .clearing ∧ q.step = p.step ∧ q.check = p.check ∧ q.sequence = p.sequence)

/-- R12: the drain of nest n with this cause has reached every block of the nest, and the nest is DRAINING. -/
def DrainEntered (n : NestId) (c : DrainCause) (s v : State) : Prop :=
  v.nests = s.nests.set n { s.nests[n] with state := .draining, cause := c, trip := false }
  ∧ (∀ j : Fin 3, v.rails[railOf n j] = forcedRail .drain s.rails[railOf n j]) ∧ OtherRails n s v
  ∧ (∀ t : TrackId, trackNest s t = n → s.tracks[t].state.active = true →
      v.tracks[t].state = .halted ∧ v.tracks[t].cause = .drain ∧ v.tracks[t].held = [])
  ∧ (∀ t : TrackId, trackNest s t ≠ n ∨ s.tracks[t].state.active = false → v.tracks[t].state = s.tracks[t].state)
  ∧ v.outputs[n] = Outputs.idle ∧ v.ports[n].state = .off
  ∧ (s.ports[n].state ≠ .off → v.ports[n].queue = [] ∧ v.ports[n].inFlight = none)
  ∧ (∀ e : CheckId, checkNest s e = n → v.checks[e].state.undecided = false)
  ∧ (∀ e : CheckId, checkNest s e = n → s.checks[e].state.undecided = true →
      Decided e { verdict := .aborted, detail := s.checks[e].state.code } s v)
  ∧ v.prompts[n].waiting = [] ∧ Withdrawn s.prompts[n] v.prompts[n]
  ∧ (∀ k, s.prompts[n].state = .free ∨ s.prompts[n].state = .loading ∧ s.prompts[n].step = some (k, true) →
      v.prompts[n].state = .free)
  ∧ v.supplies = s.supplies ∧ v.inputs = s.inputs ∧ v.capture = s.capture

/-- The check is still in the arming that asks for an outcome of its prompt (R115, R118). -/
def Asks (x : Arming) (s : State) : Prop :=
  (s.checks[x.check].state = .promptWait ∨ s.checks[x.check].state = .prompting)
    ∧ s.checks[x.check].arming = x.arming ∧ s.checks[x.check].session = x.session

/-- R147: the context of nest n becomes p, with its step k offered to the link queue or held. -/
def OffersStep (n : NestId) (k : PromptStep) (p : Prompt) (s u : State) : Prop :=
  u.prompts = s.prompts.set n { p with step := some (k, decide (16 ≤ s.link.queue.length)) }
    ∧ u.link =
        { s.link with
          queue :=
            if s.link.queue.length < 16 then
              s.link.queue ++ [stepRequest n p.panel p.sequence p.answers p.text k]
            else s.link.queue }
    ∧ u.checks = s.checks ∧ u.unposted = s.unposted ∧ u.nodes = s.nodes ∧ u.post = s.post

/-- R151: the context of nest n enters FREE in state s: it is cleared and reported to NCT, whose drain may end (R13), and
the head of the waiting list is taken, or decided PANEL_NOT_READY (R146). -/
def Freed (n : NestId) (s u : State) : Prop :=
  let p := s.prompts[n]
  let q := { p with state := .free, check := none, step := none, withdrawn := false, timer := none }
  let z := testDrain n { s with prompts := s.prompts.set n q }
  DrainsMayEnd s z
  ∧ (p.waiting = [] → u = z)
  ∧ ∀ (x : Arming) (rest : List Arming), p.waiting = x :: rest →
      (∀ d : NodeId, panelNode s n = some d → s.nodes[d].state = .inService → nodeKind s d = 1 →
        u = openPrompt n x d { z with prompts := z.prompts.set n { q with waiting := rest } })
      ∧ ((∀ d : NodeId, panelNode s n = some d → s.nodes[d].state ≠ .inService ∨ nodeKind s d ≠ 1) →
        u.prompts[n].state = .free ∧ u.prompts[n].check = none ∧ u.prompts[n].sequence = p.sequence
          ∧ (Asks x s → Decided x.check { verdict := .sourceFault, detail := detailPanelNotReady } s u))

/-- R148, R151, R152, R153: the result r of step k of sequence q reaches the context of nest n in state s. -/
def StepAnswered (n : NestId) (q : BitVec 8) (k : PromptStep) (r : LinkResult) (s u : State) : Prop :=
  let p := s.prompts[n]
  let mine := p.sequence = q ∧ p.step = some (k, false)
  let cleared := r = .ok ∨ r = .nodeError ∨ r = .refused
  (¬ mine → u = s)
  ∧ (mine → k = .clear → Freed n s u)
  ∧ (mine → k ≠ .clear → p.withdrawn = true → cleared →
      OffersStep n .clear { p with state := .clearing, timer := none } s u)
  ∧ (mine → k ≠ .clear → p.withdrawn = true → ¬ cleared → Freed n s u)
  ∧ (mine → k = .load → p.withdrawn = false → r = .ok → OffersStep n .show { p with state := .showing } s u)
  ∧ (mine → k = .show → p.withdrawn = false → r = .ok →
      u = { s with prompts := s.prompts.set n { p with state := .shown, step := none, timer := some 0 } })
  ∧ (∀ x, mine → k ≠ .clear → p.withdrawn = false → r ≠ .ok → p.state ≠ .free → p.check = some x → Asks x s →
      Decided x.check { verdict := .sourceFault, detail := 16 + r.code, a := p.sequence.toNat } s u
      ∧ (cleared → Clearing p u.prompts[n])
      ∧ (¬ cleared → ∃ v : State, v.prompts[n] = { p with waiting := v.prompts[n].waiting } ∧ Freed n v u))
  ∧ DrainsMayEnd s u ∧ SameStimulus s u ∧ u.nodes = s.nodes ∧ u.path = s.path ∧ u.mem = s.mem

/-- R140, R143: the result r of a transaction without words reaches its requester. -/
def FlightAnswered (t : Transaction) (r : LinkResult) (v w : State) : Prop :=
  let q := t.request
  (∀ ring buffer tag, q.requester = .host ring buffer tag →
    Posted (evLinkReply (replyNest v q.node.val) q.node.val q.kind.code ring tag (if t.flushed then .flushed else r) 0)
        v w
      ∧ SameBlocks v w)
  ∧ (q.requester = .service → w = v)
  ∧ (∀ c arming session, q.requester = .check c arming session →
      (t.flushed = true → w = v)
      ∧ (t.flushed = false → v.checks[c].state = .querying → v.checks[c].arming = arming →
          v.checks[c].session = session → Decided c { verdict := .sourceFault, detail := 16 + r.code } v w))
  ∧ (∀ n sequence k text, q.requester = .prompt n sequence k text →
      (t.flushed = true → w = v) ∧ (t.flushed = false → StepAnswered n sequence k r v w))

/-- R104: the checks that `fires` names are triggered in check-number order; a check that is not ARMED is left. -/
def started (fires : CheckId → Bool) (s : State) : State := s.forEach (allChecks.filter fires) triggerCheck

/-- R104 RAIL: the check waits for this event of rail r. -/
def railFires (r : RailId) (budget : Bool) (s : State) (c : CheckId) : Bool :=
  decide (checkNest s c = nestOfRail r ∧ checkTrigger s c = some (.rail (kindOfRail r) budget))

/-- R104 SERVICE: the check waits for a status word of node d that shares a set bit with its match mask. -/
def serviceFires (d : NodeId) (w : Word) (s : State) (c : CheckId) : Bool :=
  decide (checkTrigger s c = some (.service d) ∧ matchMask s c &&& w ≠ 0)

/-- R129, R16, R154: the change of node d, which is not IN_SERVICE in v, is handed to NCT and then to PRC. -/
def HandedOn (d : NodeId) (way : TripWay) (v u : State) : Prop :=
  (∀ n : NestId, interlockNode v n = some d →
    u.nests[n].interlock = .unsatisfied
      ∧ (v.nests[n].state ≠ .draining → ∀ j : Fin 8, u.inputs[inputOf n j] = v.inputs[inputOf n j])
      ∧ (v.nests[n].state = .opened → v.nests[n].interlock = .satisfied →
          u.nests[n] = { v.nests[n] with interlock := .unsatisfied, trip := true }
            ∧ (∀ j : Fin 3, u.rails[railOf n j] = forcedRail .interlock v.rails[railOf n j])
            ∧ Reported (evInterlockTrip n d way (forcedKinds v n)) v u))
  ∧ (∀ n : NestId, interlockNode v n ≠ some d → NestKept n v u ∨ DrainEnded n v u)
  ∧ (∀ (n : NestId) (x : Arming), v.prompts[n].state = .shown → panelNode v n = some d →
      (∀ j : NestId, interlockNode v j ≠ some d) →
      (∀ j : NestId, j ≠ n → panelNode v j = some d → v.prompts[j].state ≠ .shown) →
      v.prompts[n].check = some x → Asks x v →
      Decided x.check { verdict := .sourceFault, detail := detailPanelLost, a := v.prompts[n].sequence.toNat } v u
        ∧ u.prompts[n].state = .free ∧ u.prompts[n].check = none ∧ u.prompts[n].timer = none)

/-- R142, R15, R16, R17, R150: the status word w of node d, in service in s, has been taken. The panel clauses are about a
word that no check awaits, of a node that no nest names as its interlock. -/
def StatusTaken (d : NodeId) (w : Word) (s u : State) : Prop :=
  let closed := nodeKind s d = 0 ∧ w.getLsbD 0 = true
  let q := w.extractLsb' 24 8
  let code := w.toNat / 131072 % 4
  let ready := w.getLsbD 16 = true
  let panels := allNests.filter fun n => panelNode s n == some d
  let asking (n : NestId) : Prop := panelNode s n = some d ∧ s.prompts[n].state = .shown ∧ s.prompts[n].sequence = q
  let offered (n : NestId) : Prop := 1 ≤ code ∧ s.prompts[n].answers.getLsbD (code - 1) = true
  let repeated := ∃ n : NestId, panelNode s n = some d ∧ s.prompts[n].answered = some q
  let alone := (∀ j : NestId, interlockNode s j ≠ some d)
    ∧ ∀ c : CheckId, s.checks[c].state = .armed → checkTrigger s c = some (.service d) → matchMask s c &&& w = 0
  (s.nodes[d].state = .inService → ∀ n : NestId, interlockNode s n = some d →
    u.nests[n].interlock = (if closed then .satisfied else .unsatisfied)
      ∧ (s.nests[n].state = .opened → s.nests[n].interlock = .satisfied → ¬ closed →
        u.nests[n] = { s.nests[n] with interlock := .unsatisfied, trip := true }
          ∧ (∀ j : Fin 3, u.rails[railOf n j] = forcedRail .interlock s.rails[railOf n j])
          ∧ Reported (evInterlockTrip n d .notClosed (forcedKinds s n)) s u)
      ∧ (s.nests[n].state = .opened → s.nests[n].interlock = .unsatisfied → s.nests[n].trip = true → closed →
        u.nests[n] = { s.nests[n] with interlock := .satisfied, trip := false }
          ∧ Reported (evInterlockRestored n d) s u))
  ∧ ((∀ j : NestId, interlockNode s j ≠ some d) → ¬ ready ∨ panels = [] →
      ∃ z, SamePlant s z ∧ SameStimulus s z ∧ z.path = s.path ∧ z.link = s.link ∧ z.checks = s.checks
        ∧ z.unposted = s.unposted ∧ z.prompts = s.prompts
        ∧ z.nodes = s.nodes.set d { s.nodes[d] with status := some w }
        ∧ (NothingPosted s z ∨ Posted (evService (boundNest s d) d (nodeKind s d) w) s z)
        ∧ u.checks = (started (serviceFires d w z) z).checks ∧ u.unposted = (started (serviceFires d w z) z).unposted
        ∧ u.prompts = (started (serviceFires d w z) z).prompts)
  ∧ (alone → ¬ ready ∨ panels = [] ∨ repeated → u.prompts = s.prompts ∧ u.checks = s.checks)
  ∧ (alone → ready → ¬ repeated → ∀ n : NestId, asking n → (∀ j : NestId, asking j → n ≤ j) →
      (offered n → ∀ x, s.prompts[n].check = some x → Asks x s →
        Decided x.check
            { verdict := if code = 1 then .pass else if code = 2 then .operatorFail else .notTested
              a := q.toNat, b := code } s u
          ∧ Clearing s.prompts[n] u.prompts[n] ∧ u.prompts[n].answered = some q)
      ∧ (¬ offered n →
        u.prompts = s.prompts ∧ u.checks = s.checks
          ∧ Reported (evStaleAnswer n d code q .notOffered q .shown) s u))
  ∧ (alone → ready → ¬ repeated → (∀ n : NestId, ¬ asking n) → ∀ first others, panels = first :: others →
      u.prompts = s.prompts ∧ u.checks = s.checks
        ∧ Reported (evStaleAnswer first d code q
            (if s.prompts[first].sequence = q then .notShown else .oldSequence) s.prompts[first].sequence
            s.prompts[first].state) s u)

/-- R131: the held requests that the free places of the queue in s admit have been taken in t. -/
def HeldGiven (s t : State) : Prop :=
  let nothing := (∀ d : NodeId, s.nodes[d].pollHeld = false)
    ∧ (∀ n : NestId, s.prompts[n].restartClear = none ∧ ∀ x, s.prompts[n].step ≠ some (x, true))
    ∧ ∀ c : CheckId, s.checks[c].query ≠ .held
  (nothing → t = s) ∧ (16 ≤ s.link.queue.length → t = s)
  ∧ (s.link.queue.length = 15 →
    (∀ d : NodeId, s.nodes[d].pollHeld = true → (∀ e : NodeId, e < d → s.nodes[e].pollHeld = false) →
      t = { s with
        link := { s.link with queue := enqueue (servicePoll d) s.link.queue }
        nodes := s.nodes.set d { s.nodes[d] with pollHeld := false } })
    ∧ ((∀ d : NodeId, s.nodes[d].pollHeld = false) → ∀ (n : NestId) (d : NodeId) (q : BitVec 8),
      (∀ j : NestId, j < n → s.prompts[j].restartClear = none ∧ ∀ x, s.prompts[j].step ≠ some (x, true)) →
      s.prompts[n].restartClear = some (d, q) →
      t = { s with
        link := { s.link with queue := s.link.queue ++ [stepRequest n d q 0 0 .clear] }
        prompts := s.prompts.set n { s.prompts[n] with restartClear := none } })
    ∧ ((∀ d : NodeId, s.nodes[d].pollHeld = false) → ∀ (n : NestId) (k : PromptStep),
      (∀ j : NestId, j < n → s.prompts[j].restartClear = none ∧ ∀ x, s.prompts[j].step ≠ some (x, true)) →
      s.prompts[n].restartClear = none → s.prompts[n].step = some (k, true) →
      t = { s with
        link := { s.link with queue := s.link.queue ++ [contextRequest s n k] }
        prompts := s.prompts.set n { s.prompts[n] with step := some (k, false) } })
    ∧ ((∀ d : NodeId, s.nodes[d].pollHeld = false) →
      (∀ n : NestId, s.prompts[n].restartClear = none ∧ ∀ x, s.prompts[n].step ≠ some (x, true)) →
      ∀ c : CheckId, s.checks[c].query = .held → (∀ e : CheckId, e < c → s.checks[e].query ≠ .held) →
      t = { s with
        link := { s.link with queue := s.link.queue ++ [queryRequest s c] }
        checks := s.checks.set c { s.checks[c] with query := .issued } }))

/-- The command is the nest sample in which rail r, at its turn in state x, has an effect that leaves w with P x w. -/
def AtRailTurn (c : Instr) (r : RailId) (m : NestReading) (s : State) (P : State → State → Prop) : Prop :=
  ∃ w, P (atTurn (nestOfRail r) m s (kindOfRail r).val) w ∧ exec c s = .next (restOfSample r m s w)

/-- R33, R116: rail q has left service: the active tracks of its nest that require it are halted, and the checks that were
running on it are decided RAIL_LOST. -/
def ServiceLost (q : RailId) (s u : State) : Prop :=
  (∀ t : TrackId, s.tracks[t].state.active = true → trackNest s t = nestOfRail q →
    requiresRail s t (kindOfRail q) = true → u.tracks[t].state = .halted ∧ u.tracks[t].cause = .rail)
  ∧ ∀ c : CheckId, (s.checks[c].state = .delaying ∨ s.checks[c].state = .sampling) →
    checkNest s c = nestOfRail q → usesRail s c (kindOfRail q) = true →
      Decided c { verdict := .sourceFault, detail := 2, a := s.checks[c].last.getD 0 } s u

/-- R35: the dependant q of BATT, forced off by it, is reported; one that was in service has lost it. -/
def DependantLost (q : RailId) (s u : State) : Prop :=
  Reported (evRailForcedOff q .battLost s.rails[q].state) s u ∧ (s.rails[q].state.serving = true → ServiceLost q s u)

/-- R105: what the decision d of check c does to the ARMED checks of its nest that wait for it: with PASS_ONLY and another
verdict they are decided NOT_RUN, and else they are started, with the moment of the decision as trigger time. -/
def DependantsTaken (c : CheckId) (d : Decision) (s u : State) : Prop :=
  ∀ (e : CheckId) (passOnly : Bool), s.checks[e].state = .armed → checkNest s e = checkNest s c →
    checkTrigger s e = some (.after c passOnly) →
      (passOnly = true → d.verdict ≠ .pass →
        Decided e { verdict := .notRun, detail := d.verdict.code } s u)
      ∧ (passOnly = false ∨ d.verdict = .pass → checkKind s e ≠ none →
        u.checks[e].state ≠ .armed ∧ u.checks[e].trigger = some s.nests[checkNest s c].clock)

/-- R29, R35: a fault of rail r, in state y before it. -/
def Faulted (cause : RailCause) (r : RailId) (x w : State) : Prop :=
  let y := x.rails[r]
  let latch := !policyRetry x r || decide (maxRetries x r < y.retry + 1)
  w.rails[r] =
      { y with
        state := if latch then .latched else .faultWait
        cause := cause
        retry := y.retry + 1
        dwell := 0
        timer := if latch then none else some 0 }
    ∧ OtherRails (nestOfRail r) x w
    ∧ (kindOfRail r ≠ 0 → ∀ q : RailId, q ≠ r → w.rails[q] = x.rails[q])
    ∧ (kindOfRail r = 0 → ∀ k : Fin 3, k ≠ 0 →
        w.rails[railOf (nestOfRail r) k] =
          (let z := x.rails[railOf (nestOfRail r) k]
           if z.state.forcible ∧ (y.state.serving ∨ latch = true ∨ z.state = .retryTest) then dependantRail z else z))
    ∧ Reported
        (if latch then evRailLatched r cause (y.retry + 1) y.voltage else evRailFault r cause (y.retry + 1)) x w
    ∧ (y.state.serving = true → ServiceLost r x w)
    ∧ (kindOfRail r = 0 → ∀ k : Fin 3, k ≠ 0 →
        let z := x.rails[railOf (nestOfRail r) k]
        z.state.forcible → (y.state.serving ∨ latch = true ∨ z.state = .retryTest) →
          DependantLost (railOf (nestOfRail r) k) x w)
    ∧ w.nests = x.nests ∧ w.supplies = x.supplies ∧ w.inputs = x.inputs ∧ w.capture = x.capture

/-- Every output that track t claims in s is at its idle value in u, and every other output is as it was (R46, R47). -/
def ClaimedIdle (t : TrackId) (s u : State) : Prop :=
  ∀ n : NestId,
    (∀ k : Fin 4, u.outputs[n].pulse[k] =
      if s.claims[claimOf n ⟨k.val, by omega⟩] = some t then Pulse.idle else s.outputs[n].pulse[k])
    ∧ (∀ k : Fin 4, u.outputs[n].level[k] =
      if s.claims[claimOf n ⟨4 + k.val, by omega⟩] = some t then 0 else s.outputs[n].level[k])
    ∧ (∀ k : Fin 8, u.outputs[n].line[k] =
      if s.claims[claimOf n ⟨8 + k.val, by omega⟩] = some t then false else s.outputs[n].line[k])

/-- R61: what the late head e of a starved track does, from the state v in which the track is RUNNING, its record is x
and no longer starved. Under HOLD the underrun is counted and reported before the entry is handled (log 21, the model's
reading); TRACK_FAULTED then carries entry detail 0 and target code 0 (log 22, the model's reading); a lateness above
65,535 is written as 65,535 (log 51, the model's choice). -/
def Underrun (t : TrackId) (e : Entry) (x : Track) (v u : State) : Prop :=
  (underrunPolicy v t = 0 →
    ∃ q : Post,
      let y := Track.renew { x with underruns := satAdd 255 x.underruns 1, underrunReported := true }
      let z : State := { v with tracks := v.tracks.set t y, post := q }
      u = handleDue t z
      ∧ (x.underrunReported = true → NothingPosted v z)
      ∧ (x.underrunReported = false →
          Posted (evTrackUnderrun (trackNest v t) t x.played (x.interval - e.required)) v z))
  ∧ (underrunPolicy v t ≠ 0 →
      u.tracks[t] = Track.renew { x with state := .faulted, cause := .underrun, held := [], stalled := false }
      ∧ OtherTracks t v u ∧ SamePlant v u ∧ SameChecks v u
      ∧ (∀ o : Fin 32, u.claims[o] = if v.claims[o] = some t then none else v.claims[o])
      ∧ (underrunPolicy v t = 1 → ClaimedIdle t v u)
      ∧ (underrunPolicy v t ≠ 1 → u.outputs = v.outputs)
      ∧ Posted (evTrackFaulted (trackNest v t) t .underrun .none e.index x.played 0) v u)

/-- Track t holds no claim and no frame flag; every other claim stands (R46). -/
def ClaimsReleased (t : TrackId) (s u : State) : Prop :=
  (∀ o : Fin 32, u.claims[o] = if s.claims[o] = some t then none else s.claims[o])
    ∧ ∀ n : NestId, u.frameHolders[n] = s.frameHolders[n].set t false

/-- R53: what a host store to the word with number w does to track k. -/
def Invalidated (k : TrackId) (w : Nat) (s t : State) : Prop :=
  let x := s.tracks[k]
  ((x.state.active = false ∨ ∀ e ∈ x.held, touchesEntry s k w e = false) → t.tracks[k] = x)
  ∧ ∀ (before : List Entry) (e : Entry) (behind : List Entry), x.state.active = true →
      x.held = before ++ e :: behind → (∀ b ∈ before, touchesEntry s k w b = false) → touchesEntry s k w e = true →
      let y := { x with held := before, fetchIndex := e.index, fetched := x.fetched - (behind.length + 1) }
      (before ≠ [] → t.tracks[k] = Track.renew y)
      ∧ (before = [] →
          t.tracks[k] = Track.renew
            { y with
              stalled := false
              starved := x.starved || (x.state == .running)
              state := if x.state = .suspending then .suspended else x.state }
          ∧ (x.state = .suspending → (Place.track k, trackStatus t.tracks[k]) ∈ t.post.places))

/-- R56: the head e of the track is played: the track's record after it. -/
def playedTrack (x : Track) (e : Entry) (rest : List Entry) : Track :=
  let x := { x with
    held := rest
    played := x.played + 1
    lateness := max x.lateness (min 65535 (x.interval - e.required))
    interval := 0 }
  if x.played = x.total then Track.renew { x with state := .done, cause := .none }
  else
    Track.renew { x with
      starved := x.starved || rest.isEmpty
      state := if x.state = .suspending then .suspended else x.state }

/-- R109: one sample of a WINDOW check whose record is x. -/
def WindowSampled (c : CheckId) (x : Check) (s u : State) : Prop :=
  (sample s c = none → Decided c { verdict := .noData, detail := x.samples } s u)
  ∧ ∀ v, sample s c = some v →
      u.checks = s.checks.set c
          { x with
            samples := x.samples + 1
            last := some v
            minimum := some (match x.minimum with | none => v | some m => if m ≤ v then m else v)
            maximum := some (match x.maximum with | none => v | some m => if m ≤ v then v else m) }
        ∧ u.unposted = s.unposted ∧ NothingPosted s u ∧ u.link = s.link ∧ u.prompts = s.prompts

/-- R110, R111: what sample i of a PROFILE check decides, against limit record limit index plus i. -/
def ProfileDecides (c : CheckId) (i : Nat) (s u : State) : Prop :=
  let low := limitLow s (limitIndex s c + i)
  let high := limitHigh s (limitIndex s c + i)
  (sample s c = none → Decided c { verdict := .noData, detail := i } s u)
  ∧ ∀ v, sample s c = some v →
      (v < low → Decided c { verdict := .failLow, detail := i, a := v, b := low } s u)
      ∧ (low ≤ v → high < v → Decided c { verdict := .failHigh, detail := i, a := v, b := high } s u)
      ∧ (low ≤ v → v ≤ high → limitCount s c ≤ i + 1 →
          Decided c { verdict := .pass, detail := limitCount s c, a := v } s u)

/-- R110, R111: v is a sample of a PROFILE check whose record is x, and the profile goes on. -/
def GoesOn (c : CheckId) (x : Check) (s : State) (v : Int) : Prop :=
  sample s c = some v ∧ limitLow s (limitIndex s c + x.samples) ≤ v
    ∧ v ≤ limitHigh s (limitIndex s c + x.samples) ∧ x.samples + 1 < limitCount s c

/-- R110, R111: the check side that the sample leaves where the profile goes on. -/
def ProfileGoesOn (c : CheckId) (x : Check) (s u : State) : Prop :=
  ∀ v, GoesOn c x s v →
    u.checks = s.checks.set c { x with due := none, samples := x.samples + 1, last := some v }
      ∧ u.unposted = s.unposted ∧ u.link = s.link ∧ u.prompts = s.prompts

/-- R110, R111: one sample of a PROFILE check whose record is x. -/
def ProfileSampled (c : CheckId) (x : Check) (s u : State) : Prop :=
  ProfileDecides c x.samples s u ∧ ProfileGoesOn c x s u ∧ ∀ v, GoesOn c x s v → NothingPosted s u

/-- R57, R104, R111: mark m of nest n is delivered in state v, and u has the check side that it leaves. That MARK triggers
and sample marks are taken in one pass in check-number order is the model's choice (log 54), and that sample marks go to
the checks that awaited them before the delivery is its reading (log 40). -/
def MarkDelivered (n : NestId) (m : Nat) (v u : State) : Prop :=
  let fires (c : CheckId) : Prop :=
    v.checks[c].state = .armed ∧ checkNest v c = n ∧ checkTrigger v c = some (.mark m)
  let samples (c : CheckId) : Prop :=
    v.checks[c].state = .sampling ∧ checkNest v c = n ∧ markedProfile v c = true ∧ sampleMark v c = m
  SameChecks (deliverMark n m v) u
  ∧ ((∀ c : CheckId, ¬ fires c ∧ ¬ samples c) → SameChecks v u)
  ∧ ∀ c : CheckId, (∀ e : CheckId, e ≠ c → ¬ fires e ∧ ¬ samples e) →
      (fires c → SameChecks (triggerCheck c v) u)
      ∧ (∀ t, samples c → v.checks[c].due = some t →
          Decided c { verdict := .noData, detail := v.checks[c].samples } v u)
      ∧ (samples c → v.checks[c].due = none → settleDelay v c = 0 →
          ProfileDecides c v.checks[c].samples v u ∧ ProfileGoesOn c v.checks[c] v u)
      ∧ (samples c → v.checks[c].due = none → settleDelay v c ≠ 0 →
          u.checks = v.checks.set c
            { v.checks[c] with due := some (v.nests[n].clock + BitVec.ofNat 32 (1000 * settleDelay v c)) })

/-- R107, R108: the sample of a LEVEL check. -/
def LevelSampled (c : CheckId) (s u : State) : Prop :=
  (sample s c = none → Decided c { verdict := .noData } s u)
  ∧ ∀ v, sample s c = some v →
      Decided c
        { verdict :=
            if v < limitLow s (limitIndex s c) then .failLow
            else if limitHigh s (limitIndex s c) < v then .failHigh
            else .pass
          detail := 1, a := v } s u

/-- R167 to R169: ENTRY_FETCH completes the fetch of track t, granted now or on the port since, and leaves the path p. -/
def FetchCompletes (s : State) (t : TrackId) (p : Path) : Prop :=
  grant s = some (.urgentFetch t) ∧ p = { s.path with urgentTurn := t }
  ∨ grant s = some (.fetch t) ∧ p = { s.path with backTurn := t.castSucc }
  ∨ s.path.burst = some t ∧ p = { s.path with burst := none }

end Sys2Proof.Stated

open Sys2Proof Sys2Proof.Machine Sys2Proof.Stated

/-! ### The machine -/

/-- The command at the front of the queue is executed with the queue's rest. -/
def Obligations.StepRunsTheFrontCommand : Prop :=
  ∀ (c : Instr) (rest : List Instr) (s : State),
    s.pending = c :: rest → step s = exec c { s with pending := rest }

/-- Model's choice (log 1): on an empty queue one microsecond passes, in which the nest clocks of OPEN and DRAINING nests
(section 1.3), the snapshot timers (R18), track intervals and frame gap counts (R54, R58), prompt timers (R149) and the
wait for a reply (R124) advance, and nothing else changes but this: a fetch that the free port goes to (R167, R168) is
granted, its rotation moves, and it is on the port until ENTRY_FETCH (model's choice, log 56). -/
def Obligations.EmptyQueueLetsOneMicrosecondPass : Prop :=
  ∀ s : State, s.pending = [] → ∃ t, step s = .next t
    ∧ (∀ n : NestId, t.nests[n]
        = { s.nests[n] with
            clock :=
              if s.nests[n].state = .opened ∨ s.nests[n].state = .draining then s.nests[n].clock + 1
              else s.nests[n].clock
            snapTimer := s.nests[n].snapTimer.map fun c => min (1000 * snapshotPeriod s n) (c + 1) })
    ∧ (∀ k : TrackId, t.tracks[k]
        = { s.tracks[k] with
            interval :=
              if s.tracks[k].state = .running ∨ s.tracks[k].state = .suspending then
                min 8589934591 (s.tracks[k].interval + 1)
              else s.tracks[k].interval
            gap := if s.tracks[k].state.active then s.tracks[k].gap.map (· + 1) else s.tracks[k].gap })
    ∧ (∀ n : NestId, t.prompts[n] = { s.prompts[n] with timer := s.prompts[n].timer.map (· + 1) })
    ∧ t.link = { s.link with
        flight := s.link.flight.map fun x => if x.phase = .awaiting then { x with wait := x.wait + 1 } else x }
    ∧ t.path = (match grant s with
        | some (.urgentFetch k) => { s.path with urgentTurn := k, burst := some k }
        | some (.fetch k) => { s.path with backTurn := k.castSucc, burst := some k }
        | _ => s.path)
    ∧ t.pending = [] ∧ t.mem = s.mem ∧ t.post = s.post ∧ t.rails = s.rails
    ∧ t.supplies = s.supplies ∧ t.outputs = s.outputs ∧ t.claims = s.claims ∧ t.frameHolders = s.frameHolders
    ∧ t.ports = s.ports ∧ t.capture = s.capture ∧ t.inputs = s.inputs ∧ t.checks = s.checks
    ∧ t.unposted = s.unposted ∧ t.nodes = s.nodes

/-- Memory and shadow are in canonical form at reset. -/
def Obligations.ResetSatisfiesTheInvariant : Prop := Inv State.reset

/-- Every step of every command keeps memory and shadow in canonical form. -/
def Obligations.EveryStepKeepsTheInvariant : Prop :=
  ∀ s t : State, Inv s → step s = .next t → Inv t

/-- No command stops the part, and none touches the queue of waiting commands. That the queue is none of the part's own
state is the model's choice (log 9), and so it stays through POWER_ON_RESET too (log 36). -/
def Obligations.NoCommandStopsThePart : Prop :=
  ∀ (c : Instr) (s : State), ∃ t, exec c s = .next t ∧ t.pending = s.pending

/-- What follows at once after a step (ends of drains, prompts taken, transactions started, requests and records taken)
leaves memory, path, supplies, tracks, outputs, claims, ports and capture slots alone, and everything of a nest that is
not DRAINING. -/
def Obligations.WhatFollowsAtOnceKeepsTheRest : Prop :=
  ∀ s : State, (settle s).pending = s.pending ∧ (settle s).mem = s.mem ∧ (settle s).path = s.path
    ∧ SameStimulus s (settle s)
    ∧ ∀ n : NestId, s.nests[n].state ≠ .draining →
        (settle s).nests[n] = s.nests[n]
          ∧ (∀ k : Fin 3, (settle s).rails[railOf n k] = s.rails[railOf n k])
          ∧ ∀ j : Fin 8, (settle s).inputs[inputOf n j] = s.inputs[inputOf n j]

/-! ### Start-up, the host bus and posting -/

/-- POWER_ON_RESET: the last columns of R1, R20, R45, R69, R87, R97, R122, R144, R156 and R171 for the items named, with
the straps and SRQ levels taken. That memory keeps its bytes is the model's choice (log 36). -/
def Obligations.PowerOnResetSetsEveryBlock : Prop :=
  ∀ (base : BitVec 10) (fast : Bool) (srq : BitVec 15) (s : State),
    ∃ t, exec (.powerOnReset base fast srq) s = .next t
    ∧ t.path.base = base ∧ t.path.ready = false ∧ t.path.fill = 0 ∧ (∀ off, cfg t off = 0) ∧ t.path.host = none
    ∧ t.path.guards = 0 ∧ (∀ k : SlotId, t.path.takes[k] = 0) ∧ t.path.urgentTurn = 7 ∧ t.path.backTurn = 8
    ∧ t.path.burst = none
    ∧ t.link.fast = fast ∧ t.link.queue = [] ∧ t.link.flight = none ∧ t.link.block = none ∧ t.link.paused = false
    ∧ t.link.outOfService = 0 ∧ t.link.consumer = 0
    ∧ (∀ d : NodeId, t.nodes[d] = ⟨.disabled, none, false, false, srq.getLsbD d⟩)
    ∧ (∀ n : NestId, t.nests[n] = Nest.reset) ∧ (∀ n : NestId, t.supplies[n] = ⟨false, false, 0, false⟩)
    ∧ (∀ r : RailId, t.rails[r] = Rail.reset) ∧ (∀ k : TrackId, t.tracks[k] = Track.reset)
    ∧ (∀ n : NestId, t.outputs[n] = Outputs.idle) ∧ (∀ o : Fin 32, t.claims[o] = none)
    ∧ (∀ p : NestId, t.ports[p] = Port.reset) ∧ (∀ j : CaptureId, t.capture[j] = Capture.clear)
    ∧ (∀ i : InputId, t.inputs[i] = Input.reset) ∧ (∀ c : CheckId, t.checks[c] = Check.reset)
    ∧ t.unposted = [] ∧ (∀ n : NestId, t.prompts[n] = Prompt.reset)
    ∧ t.post.fifo = [] ∧ t.post.places = [] ∧ t.post.eventProducer = 0 ∧ t.post.verdictProducer = 0
    ∧ t.post.eventReserve = 0 ∧ t.post.verdictReserve = 0 ∧ t.post.lost = 0 ∧ t.post.attention = false
    ∧ t.mem = s.mem

/-- START_UP_FILL_BURST: four words of the control block are zeroed; the last burst ends the fill and hands PST the
identity and READY. That the fill position then wraps to 0 is the model's choice (log 58). -/
def Obligations.FillBurstZeroesFourWords : Prop :=
  ∀ s : State, Memory.wf s.mem = true → grant s = some .fill →
    ∃ t, exec .startUpFillBurst s = .next t
    ∧ WordsRead (4096 * s.path.base.toNat + s.path.fill.toNat) [0, 0, 0, 0] t
    ∧ BytesKept (4096 * s.path.base.toNat + s.path.fill.toNat) 4 s t
    ∧ t.path.fill = s.path.fill + 4
    ∧ (s.path.fill.toNat + 4 < 4096 → t.path.ready = s.path.ready ∧ t.post = s.post)
    ∧ (4096 ≤ s.path.fill.toNat + 4 → t.path.ready = true ∧ t.post.ready = true ∧ t.post.identity = 0x07420001#32
        ∧ (Place.summary, ([] : List Word)) ∈ t.post.places)
    ∧ t.path.shadow = s.path.shadow ∧ t.path.host = s.path.host ∧ SameBlocks s t

/-- HOST_ACCESS: the bus holds one access at a time. HOST_LOAD: the load is answered with the word in memory. -/
def Obligations.HostLoadReadsTheWordInMemory : Prop :=
  (∀ (a : HostAccess) (s : State), s.path.host = none →
    exec (.hostAccess a) s = .next { s with path := { s.path with host := some a } })
  ∧ ∀ (a : HostAccess) (s : State), grantedHost s .load = some a →
    exec .hostLoad s
      = .next { s with path := { s.path with host := none, hostData := readWord s.mem a.word.toNat } }

/-- HOST_STORE outside the control block: the enabled lanes are written, every other byte keeps its value, and no entry
of the word stays in the prefetch of an active track: the first entry touched and those behind it are discarded, and the
fetch index and fetched go back to it; where the head is discarded a RUNNING track is starved and a SUSPENDING one
SUSPENDED. -/
def Obligations.StoreOutsideTheBlockWritesItsLanes : Prop :=
  ∀ (s : State) (a : HostAccess) (line : Int), Memory.wf s.mem = true → grantedHost s .store = some a →
    a.lanes ≠ 0 → inBlock s a.word = false →
    ∃ t, exec (.hostStore line) s = .next t
    ∧ (∀ i, i < 4 → readByte t.mem (byteAddress a.word.toNat i)
        = if a.lanes.getLsbD i then byteOf a.data i else readByte s.mem (byteAddress a.word.toNat i))
    ∧ BytesKept a.word.toNat 1 s t
    ∧ t.path = { s.path with host := none }
    ∧ (∀ (k : TrackId) (e : Entry), s.tracks[k].state.active = true → e ∈ t.tracks[k].held →
        touchesEntry s k a.word.toNat e = false)
    ∧ (∀ k : TrackId, Invalidated k a.word.toNat s t)
    ∧ t.nests = s.nests ∧ t.supplies = s.supplies ∧ t.rails = s.rails ∧ t.outputs = s.outputs
    ∧ t.claims = s.claims ∧ t.capture = s.capture ∧ t.inputs = s.inputs ∧ SameChecks s t ∧ NothingPosted s t

/-- HOST_STORE to a CONFIG word of a record that is not locked, or to a FREE word: memory and shadow take the merged
word together, and a store to the record of a response input of an OPEN or DRAINING nest restarts the input. That the
level of the line is an operand (log 12) and that the restart counts as between nest samples (log 53) are the model's
choices. -/
def Obligations.CapturedStoreReachesMemoryAndShadow : Prop :=
  ∀ (s : State) (a : HostAccess) (line : Int), Inv s → grantedHost s .store = some a →
    a.lanes ≠ 0 → inBlock s a.word = true →
    (wordClass (blockOffset a.word) = .free
      ∨ (wordClass (blockOffset a.word) = .config ∧ wordLocked s (blockOffset a.word) = false)) →
    ∃ t, exec (.hostStore line) s = .next t
    ∧ readWord t.mem a.word.toNat = mergeLanes (cfg s (blockOffset a.word)) a.data a.lanes
    ∧ cfg t (blockOffset a.word) = mergeLanes (cfg s (blockOffset a.word)) a.data a.lanes
    ∧ BytesKept a.word.toNat 1 s t
    ∧ (∀ off, off / 4 ≠ blockOffset a.word / 4 → cfg t off = cfg s off)
    ∧ t.path.host = none ∧ t.path.guards = s.path.guards
    ∧ (∀ i : InputId, t.inputs[i] =
        if (blockOffset a.word = 0x640 + 8 * i.val ∨ blockOffset a.word = 0x644 + 8 * i.val)
            ∧ (s.nests[nestOfInput i].state = .opened ∨ s.nests[nestOfInput i].state = .draining) then
          { measuring := recordMode t i != .off
            mode := recordMode t i
            history := []
            taken := 0
            high := decide (edgeThreshold t i = 0 ∨ (edgeThreshold t i : Int) ≤ line)
            position := none
            firstDone := false
            gate := Gate.clear
            edges := 0
            value := none
            lastEdge := none }
        else s.inputs[i])
    ∧ t.nests = s.nests ∧ t.supplies = s.supplies ∧ t.rails = s.rails ∧ t.outputs = s.outputs
    ∧ t.claims = s.claims ∧ t.capture = s.capture ∧ SameChecks s t ∧ NothingPosted s t

/-- HOST_STORE to a CONFIG word of a locked record, or to a REPORT word, is guarded; with no lane enabled a store has no
effect.
An index store with an illegal merged value is guarded BAD_INDEX, and PARTIAL_ACTION_STORE is guarded PARTIAL. That GUARD
carries the whole data operand, with the lanes that are not enabled, is the model's choice (log 55). -/
def Obligations.GuardedStoresChangeNothingButTheirReport : Prop :=
  ((∀ (s : State) (a : HostAccess) (line : Int) (r : GuardReason), grantedHost s .store = some a →
    a.lanes ≠ 0 → inBlock s a.word = true →
    ((wordClass (blockOffset a.word) = .config ∧ wordLocked s (blockOffset a.word) = true ∧ r = .locked)
      ∨ (wordClass (blockOffset a.word) = .report ∧ r = .reportWord)) →
    ∃ t, exec (.hostStore line) s = .next t
    ∧ t.mem = s.mem ∧ SameBlocks s t
    ∧ t.path = { s.path with host := none, guards := satAdd max32 s.path.guards 1 }
    ∧ t.post.guards = t.path.guards
    ∧ Posted (evGuard r a.data (a.word.toNat % 4096) a.lanes) s t)
  ∧ ∀ (s : State) (a : HostAccess) (line : Int), grantedHost s .store = some a → a.lanes = 0 →
    exec (.hostStore line) s = .next { s with path := { s.path with host := none } })
  ∧ (∀ (s : State) (a : HostAccess),
    (grantedHost s .eventIndex = some a →
      consumerLegal (mergedWord s a) (eventConsumer s) s.post.eventProducer = false →
      ∃ t, exec .eventConsumerStore s = .next t ∧ t.mem = s.mem ∧ SameBlocks s t
      ∧ t.path = { s.path with host := none, guards := satAdd max32 s.path.guards 1 }
      ∧ Posted (evGuard .badIndex a.data (a.word.toNat % 4096) a.lanes) s t)
    ∧ (grantedHost s .verdictIndex = some a →
      consumerLegal (mergedWord s a) (verdictConsumer s) s.post.verdictProducer = false →
      ∃ t, exec .verdictConsumerStore s = .next t ∧ t.mem = s.mem ∧ SameBlocks s t
      ∧ t.path = { s.path with host := none, guards := satAdd max32 s.path.guards 1 }
      ∧ Posted (evGuard .badIndex a.data (a.word.toNat % 4096) a.lanes) s t)
    ∧ (grantedHost s .requestIndex = some a →
      producerLegal (mergedWord s a) (requestProducer s) s.link.consumer = false →
      ∃ u, exec .requestProducerStore s = .next (settle u) ∧ u.mem = s.mem ∧ SameBlocks s u
      ∧ u.path = { s.path with host := none, guards := satAdd max32 s.path.guards 1 }
      ∧ Posted (evGuard .badIndex a.data (a.word.toNat % 4096) a.lanes) s u)
    ∧ (grantedHost s .partialAction = some a →
      ∃ t, exec .partialActionStore s = .next t ∧ t.mem = s.mem ∧ SameBlocks s t
      ∧ t.path = { s.path with host := none, guards := satAdd max32 s.path.guards 1 }
      ∧ Posted (evGuard .partialWord a.data (a.word.toNat % 4096) a.lanes) s t))

/-- EVENT_CONSUMER_STORE, VERDICT_CONSUMER_STORE and REQUEST_PRODUCER_STORE with a legal merged value: the index is
captured in memory and shadow, and ATTENTION is judged after a consumer store. -/
def Obligations.LegalIndexStoreIsCaptured : Prop :=
  ∀ (s : State) (a : HostAccess), Inv s →
    (grantedHost s .eventIndex = some a →
      consumerLegal (mergedWord s a) (eventConsumer s) s.post.eventProducer = true →
      ∃ t, exec .eventConsumerStore s = .next t
      ∧ eventConsumer t = mergedWord s a ∧ readWord t.mem a.word.toNat = mergedWord s a
      ∧ BytesKept a.word.toNat 1 s t ∧ t.path.host = none ∧ NothingPosted s t
      ∧ t.post.attention = (s.post.eventProducer != (mergedWord s a).setWidth 7
          || s.post.verdictProducer != (verdictConsumer s).setWidth 7))
    ∧ (grantedHost s .verdictIndex = some a →
      consumerLegal (mergedWord s a) (verdictConsumer s) s.post.verdictProducer = true →
      ∃ t, exec .verdictConsumerStore s = .next t
      ∧ verdictConsumer t = mergedWord s a ∧ readWord t.mem a.word.toNat = mergedWord s a
      ∧ BytesKept a.word.toNat 1 s t ∧ t.path.host = none
      ∧ t.post.attention = (s.post.eventProducer != (eventConsumer s).setWidth 7
          || s.post.verdictProducer != (mergedWord s a).setWidth 7))
    ∧ (grantedHost s .requestIndex = some a →
      producerLegal (mergedWord s a) (requestProducer s) s.link.consumer = true →
      ∃ u, exec .requestProducerStore s = .next (settle u)
      ∧ requestProducer u = mergedWord s a ∧ readWord u.mem a.word.toNat = mergedWord s a
      ∧ BytesKept a.word.toNat 1 s u ∧ u.path.host = none ∧ NothingPosted s u)

/-- UNKNOWN_ACTION: the word stands in memory, the take count of the slot advances, and the result is REFUSED with reason
UNKNOWN_ACTION. An action on an object its owner does not have is refused with BAD_OBJECT. -/
def Obligations.UnknownActionsAndObjectsAreRefused : Prop :=
  (∀ (s : State) (k : SlotId) (a : HostAccess), Memory.wf s.mem = true → grantedUnknown s = some (k, a) →
    ∃ t, exec .unknownAction s = .next t
    ∧ readWord t.mem a.word.toNat = a.data ∧ BytesKept a.word.toNat 1 s t
    ∧ t.path = { s.path with host := none, takes := s.path.takes.set k (s.path.takes[k] + 1) }
    ∧ (Place.result k, [resultWord (wordCode a.data) (wordObject a.data) (some .unknownAction)
        (s.path.takes[k] + 1)]) ∈ t.post.places
    ∧ SameBlocks s t ∧ NothingPosted s t)
  ∧ ∀ row ∈ actionRows, ∀ bound, objectBound row.action = some bound → ∀ (s : State) (k : SlotId) (a : HostAccess),
      grantedAction s row.action = some (k, a) → bound ≤ wordObject a.data →
      Answers row.command k a s (some .badObject) fun _ => True

/-- Each of the 24 action rows: the word stands in memory, the take count advances, the result with code, object, outcome
and reason is offered to the slot's place, and a refused action leaves every block as it was. -/
def Obligations.EveryActionIsTakenAndAnswered : Prop :=
  ∀ row ∈ actionRows, ∀ (s : State) (k : SlotId) (a : HostAccess), Memory.wf s.mem = true →
    grantedAction s row.action = some (k, a) →
    ∃ (u : State) (reason : Option Reason), exec row.command s = .next (settle u)
    ∧ (match row.act (wordObject a.data) (wordOperand a.data) (writeAction a (clearHost s)) with
        | .ok _ => reason = none
        | .error r => reason = some r ∧ SameBlocks s u ∧ NothingPosted s u)
    ∧ readWord u.mem a.word.toNat = a.data ∧ BytesKept a.word.toNat 1 s u
    ∧ u.path = { s.path with host := none, takes := s.path.takes.set k (s.path.takes[k] + 1) }
    ∧ (Place.result k, [resultWord (wordCode a.data) (wordObject a.data) reason (s.path.takes[k] + 1)])
        ∈ u.post.places

/-- The classes of the arbiter and, in classes 1 and 5, their rotations, while the port is free; while a burst is on
it, nothing is
granted. -/
def Obligations.ArbiterGrantsByClassAndRotation : Prop :=
  ∀ s : State,
    (∀ t : TrackId, s.path.burst = some t → grant s = none)
    ∧ (s.path.burst = none → s.path.ready = true →
      (∀ t : TrackId, fetchUrgent s t = true →
        ∃ g : TrackId, grant s = some (.urgentFetch g) ∧ fetchUrgent s g = true
          ∧ (g.val + 15 - s.path.urgentTurn.val) % 8 ≤ (t.val + 15 - s.path.urgentTurn.val) % 8)
      ∧ ((∀ t : TrackId, fetchUrgent s t = false) →
        (24 ≤ s.post.fifo.length → grant s = some .fifo)
        ∧ (s.post.fifo.length < 24 →
          (s.path.host ≠ none → grant s = some .host)
          ∧ (s.path.host = none →
            (s.post.fifo ≠ [] → grant s = some .fifo)
            ∧ (s.post.fifo = [] →
              (∀ i : Fin 9, backWaits s i = true →
                ∃ g : Fin 9, backWaits s g = true
                  ∧ grant s = some (if h : g.val < 8 then .fetch ⟨g.val, h⟩ else .blockRead)
                  ∧ (g.val + 17 - s.path.backTurn.val) % 9 ≤ (i.val + 17 - s.path.backTurn.val) % 9)
              ∧ ((∀ i : Fin 9, backWaits s i = false) →
                grant s = if s.post.places = [] then none else some .slot))))))
    ∧ (s.path.burst = none → s.path.ready = false →
      grant s = if s.path.host.any (fun a => !inBlock s a.word) then some .host else some .fill)

/-- POST_FIFO_BURST of a ring record: its words first, then the producer word, at whose writing the item leaves and
ATTENTION is judged. -/
def Obligations.RingRecordsPrecedeTheirProducer : Prop :=
  ∀ (s : State) (slot : BitVec 7) (words : List Word) (rest : List Item), Memory.wf s.mem = true →
    grant s = some .fifo →
    (s.post.fifo = .event slot words :: rest → words.length = 4 → s.post.progress = 0 →
      ∃ u, exec .postFifoBurst s = .next (settle u)
      ∧ WordsRead (blockWord s (0x2800 + 16 * slot.toNat)) words u
      ∧ BytesKept (blockWord s (0x2800 + 16 * slot.toNat)) 4 s u
      ∧ u.post = { s.post with progress := 4 } ∧ u.path = s.path ∧ SameBlocks s u)
    ∧ (s.post.fifo = .verdict slot words :: rest → words.length = 8 →
      (s.post.progress = 0 ∨ s.post.progress = 4) →
      ∃ u, exec .postFifoBurst s = .next (settle u)
      ∧ WordsRead (blockWord s (0x3000 + 32 * slot.toNat) + s.post.progress)
          ((words.drop s.post.progress).take 4) u
      ∧ BytesKept (blockWord s (0x3000 + 32 * slot.toNat) + s.post.progress) 4 s u
      ∧ u.post = { s.post with progress := s.post.progress + 4 } ∧ u.path = s.path ∧ SameBlocks s u)
    ∧ (s.post.fifo = .event slot words :: rest → s.post.progress = 4 →
      ∃ v, exec .postFifoBurst s = .next (settle (itemLeaves v))
      ∧ readWord v.mem (blockWord s 0xC0) = pack [put 0 7 (slot + 1).toNat]
      ∧ BytesKept (blockWord s 0xC0) 1 s v
      ∧ v.post = { s.post with
          eventProducer := slot + 1
          attention := slot + 1 != (eventConsumer s).setWidth 7
            || s.post.verdictProducer != (verdictConsumer s).setWidth 7 }
      ∧ v.path = s.path ∧ SameBlocks s v)
    ∧ (s.post.fifo = .verdict slot words :: rest → s.post.progress = 8 →
      ∃ v, exec .postFifoBurst s = .next (settle (itemLeaves v))
      ∧ readWord v.mem (blockWord s 0xC8) = pack [put 0 7 (slot + 1).toNat]
      ∧ BytesKept (blockWord s 0xC8) 1 s v
      ∧ v.post = { s.post with
          verdictProducer := slot + 1
          attention := s.post.eventProducer != (eventConsumer s).setWidth 7
            || slot + 1 != (verdictConsumer s).setWidth 7 }
      ∧ v.path = s.path ∧ SameBlocks s v)

/-- POST_FIFO_BURST of a BLOCK item: the words up to the next boundary of 16 bytes are written to its buffer, and the item
leaves with its sixteenth word.
SLOT_WRITE: the place at the head of the pending list is written with its value, the summary with the summary fields
at the grant, and becomes empty. That the request consumer holding place has its turn there like any other place is the
model's choice (log 61). -/
def Obligations.BlocksAndPlacesAreWritten : Prop :=
  (∀ (s : State) (buffer : Word) (words : List Word) (rest : List Item), Memory.wf s.mem = true →
    grant s = some .fifo → s.post.fifo = .block buffer words :: rest → words.length = 16 → s.post.progress < 16 →
    let first := buffer.toNat / 4 + s.post.progress
    let count := min (16 - s.post.progress) (4 - first % 4)
    ∃ v, exec .postFifoBurst s = .next (settle (if s.post.progress + count < 16 then v else itemLeaves v))
    ∧ WordsRead first ((words.drop s.post.progress).take count) v
    ∧ BytesKept first count s v
    ∧ v.post = { s.post with progress := s.post.progress + count } ∧ v.path = s.path ∧ SameBlocks s v)
  ∧ (∀ (s : State) (p : Place) (v : List Word) (rest : List (Place × List Word)), Memory.wf s.mem = true →
    grant s = some .slot → s.post.places = (p, v) :: rest → v.length ≤ 4 →
    ∃ t, exec .slotWrite s = .next t
    ∧ (p ≠ .summary → WordsRead (blockWord s p.offset) v t ∧ BytesKept (blockWord s p.offset) v.length s t)
    ∧ (p = .summary → WordsRead (blockWord s 0) (summaryWords s.post) t ∧ BytesKept (blockWord s 0) 4 s t)
    ∧ t.post = { s.post with places := rest } ∧ t.path = s.path ∧ SameBlocks s t)


/-! ### Nests -/

/-- NEST_ARM and NEST_DISARM: the tests in order; WAITING with the probe on and the interlock evaluated; IDLE with the
probe off. -/
def Obligations.ArmingAndDisarmingMoveANest : Prop :=
  ∀ (s : State) (k : SlotId) (a : HostAccess) (n : NestId),
    (Commands s .nestArm k a n.val →
      Answers .nestArm k a s
        (if s.nests[n].state ≠ .idle then some .wrongState
          else if ∃ j : Fin 3, s.rails[railOf n j].state = .discharging then some .busy
          else if ∃ j : Fin 3, s.rails[railOf n j].state = .latched then some .dependency
          else if snapshotPeriod s n ≠ 0 ∧ (snapshotPeriod s n < 10 ∨ 1000 < snapshotPeriod s n) then some .badRange
          else none)
        fun u =>
          u.nests = s.nests.set n
              { s.nests[n] with
                state := .waiting
                attachRun := 0
                closureTime := if s.nests[n].seat then 0 else s.nests[n].closureTime
                closureReported := if s.nests[n].seat then false else s.nests[n].closureReported
                snapTimer := if snapshotPeriod s n = 0 then none else some 0
                interlock := interlockOf s n }
            ∧ (∀ r : RailId, u.rails[r] =
                if r = railOf n 0 ∧ s.rails[r].state = .off then { s.rails[r] with state := .probe } else s.rails[r])
            ∧ (Place.nest n, nestStatus u.nests[n]) ∈ u.post.places
            ∧ u.inputs = s.inputs ∧ SameStimulus s u ∧ SameChecks s u ∧ NothingPosted s u)
    ∧ (Commands s .nestDisarm k a n.val →
      Answers .nestDisarm k a s (if s.nests[n].state ≠ .waiting then some .wrongState else none)
        fun u =>
          u.nests = s.nests.set n
              { s.nests[n] with state := .idle, attachRun := 0, closureTime := 0, snapTimer := none }
            ∧ (∀ r : RailId, u.rails[r] =
                if r = railOf n 0 ∧ s.rails[r].state = .probe then { s.rails[r] with state := .off } else s.rails[r])
            ∧ (Place.nest n, nestStatus u.nests[n]) ∈ u.post.places
            ∧ u.inputs = s.inputs ∧ SameStimulus s u ∧ SameChecks s u ∧ NothingPosted s u)

/-- NEST_RELEASE and NEST_ABORT: the drain of an OPEN nest reaches every block of the nest: its undecided checks are
decided ABORTED with the state they left, and its prompt context is withdrawn; the completion test at its end may end the
drain in the same taking; in DRAINING only an abort changes the cause; in the other states they are refused. -/
def Obligations.ReleaseAndAbortDrainAnOpenNest : Prop :=
  ∀ abort : Bool, ∀ (s : State) (k : SlotId) (a : HostAccess) (n : NestId),
    Commands s (if abort then .nestAbort else .nestRelease) k a n.val →
      Answers (if abort then .nestAbort else .nestRelease) k a s
        (if s.nests[n].state = .opened ∨ s.nests[n].state = .draining then none else some .notOpen)
        fun u =>
          (s.nests[n].state = .draining →
            u.nests = s.nests.set n
                { s.nests[n] with
                  cause := if abort ∧ s.nests[n].cause = .released then .aborted else s.nests[n].cause }
              ∧ u.supplies = s.supplies ∧ u.rails = s.rails ∧ u.inputs = s.inputs
              ∧ SameStimulus s u ∧ SameChecks s u ∧ NothingPosted s u)
          ∧ (s.nests[n].state = .opened →
            ∃ v, DrainEntered n (if abort then .aborted else .released) s v ∧ DrainTested n v u)

/-- ATTACH: the fiftieth qualifying reading opens a session, from the state v that the rails and the seat reading of the
sample leave. That ATTACH is the whole nest sample of that reading is the model's choice (log 4), and that the closure then
counts as reported is its reading of R7 and R8 (log 16); so is that a sample in which the closure time also reaches
2000 posts SESSION_OPEN alone (log 17). No nest attaches while its supply
fault flag is set (R28); that this holds of the sample that sets it, whose measured probe current is then handed on as 0,
is its choice (log 60). -/
def Obligations.AttachOpensASession : Prop :=
  (∀ (n : NestId) (m : NestReading) (s : State),
    s.supplies[n].range = true ∨ s.supplies[n].temperature = true ∨ m.range = true ∨ m.temperature = true →
      sampleAttaches n m s = false)
  ∧ ∀ (n : NestId) (m : NestReading) (s : State), sampleAttaches n m s = true →
    let v := seatStep n m.seatClosed (afterRails n m s)
    v.nests[n].state = .waiting ∧ m.seatClosed = true ∧ attachThreshold s n ≤ v.supplies[n].probe
      ∧ 50 ≤ v.nests[n].attachRun + 1
    ∧ Leaves (.attach n m) s fun u =>
      u.nests = v.nests.set n
          { v.nests[n] with
            state := .opened
            session := if v.nests[n].session = 65535#16 then 1 else v.nests[n].session + 1
            clock := 0
            cause := .none
            trip := false
            attachRun := 50
            closureTime := 0
            closureReported := true }
        ∧ (∀ j : Fin 3, u.rails[railOf n j] =
            { v.rails[railOf n j] with
              state :=
                if j = 0 ∧ v.rails[railOf n j].state = .probe then .off else v.rails[railOf n j].state
              charge := 0, residue := 0, crossed := false, retry := 0, dwell := 0 })
        ∧ OtherRails n v u
        ∧ (∀ j : Fin 16, u.capture[captureOf n j] = Capture.clear)
        ∧ (∀ j : Fin 8, u.inputs[inputOf n j] =
            { measuring := recordMode s (inputOf n j) != .off
              mode := recordMode s (inputOf n j)
              history := []
              taken := 0
              high := decide (edgeThreshold s (inputOf n j) = 0 ∨ (edgeThreshold s (inputOf n j) : Int) ≤ m.lines[j])
              position := if recordMode s (inputOf n j) = .off then none else some 0
              firstDone := false
              gate := Gate.clear
              edges := 0
              value := none
              lastEdge := none })
        ∧ Posted (evSessionOpen n v.supplies[n].probe) { v with nests := u.nests } u
        ∧ u.supplies = v.supplies ∧ u.tracks = v.tracks ∧ u.outputs = v.outputs ∧ u.ports = v.ports
        ∧ SameChecks v u

/-- SEAT_OPEN: the twentieth open reading in a row opens the seat; an OPEN nest drains with cause REMOVED, in the
same sample to the end where nothing holds the drain; a HELD nest leaves HELD, a WAITING nest loses its attach run.
SEAT_WITHOUT_LOAD: it is reported once in a closure. That both are the whole nest sample of the reading (log 4), and that
the probe current reads 0 already in the sample that sets the supply fault flag (log 60), are the model's choices. -/
def Obligations.SeatReadingsMoveANest : Prop :=
  ∀ (n : NestId) (m : NestReading) (s : State),
    (sampleOpensSeat n m s = true →
      let x := afterRails n m s
      m.seatClosed = false ∧ x.nests[n].seat = true ∧ 20 ≤ x.nests[n].openRun + 1
      ∧ Leaves (.seatOpen n m) s fun u =>
        u.nests[n].seat = false ∧ u.nests[n].openRun = 20 ∧ u.nests[n].session = x.nests[n].session
          ∧ u.nests[n].clock = x.nests[n].clock
          ∧ (x.nests[n].state ≠ .opened →
              u.nests[n].state = if x.nests[n].state = .held then restState x n else x.nests[n].state)
          ∧ (x.nests[n].state = .opened →
              let y : State := { x with nests := x.nests.set n { x.nests[n] with openRun := 20, seat := false } }
              ∃ v, DrainEntered n .removed y v ∧ DrainTested n v u)
          ∧ (x.nests[n].state = .waiting → u.nests[n].attachRun = 0 ∧ u.rails = x.rails)
          ∧ (x.nests[n].state = .idle ∨ x.nests[n].state = .draining → u.rails = x.rails)
          ∧ ∀ j : NestId, j ≠ n → u.nests[j] = x.nests[j])
    ∧ (sampleReports n m s = true →
      let v := seatStep n m.seatClosed (afterRails n m s)
      v.nests[n].state = .waiting ∧ v.nests[n].seat = true ∧ v.nests[n].closureReported = false
      ∧ Leaves (.seatWithoutLoad n m) s fun u =>
        u.nests = v.nests.set n
            { v.nests[n] with
              attachRun := if qualifies v n m then v.nests[n].attachRun + 1 else 0
              closureTime := 2000
              closureReported := true }
          ∧ Posted (evSeatWithoutLoad n v.supplies[n].probe) { v with nests := u.nests } u
          ∧ u.supplies = v.supplies ∧ u.rails = v.rails ∧ u.inputs = v.inputs ∧ SameStimulus v u ∧ SameChecks v u)

/-- DRAIN_END: the session is closed and its inputs stop; the nest is HELD while its seat is closed, and otherwise WAITING
or IDLE. -/
def Obligations.DrainEndClosesTheSession : Prop :=
  ∀ (n : NestId) (s : State), drainComplete s n = true →
    Leaves (.drainEnd n) s (SessionClosed n s)

/-- NEST_SAMPLE: what it measures stands in the records at its end, a current counting only through a closed switch and
the probe only while its path drives 2500 mV limited to 20 mA, which after a supply fault it does from the next sample on;
charge is added; the supply monitor raises and clears its
alarm; each rail step tests backfeed first, then the limiter; the seat reading advances or clears the attach run. That the
input readings come before the charge (log 18) is the model's reading; that the rails are charged one after another is its
choice (log 49); that the reading that begins a closure does not advance the closure time is its reading of the worked
sequence of section 1.9 (log 15); that the probe current reads 0 already in the sample that sets the supply fault flag
(log 60), and that a probe request taken between the clearing of the flag and the next sample waits for that sample too
(log 64), are its choices. -/
def Obligations.NestSampleTakesItsReadings : Prop :=
  (∀ (n : NestId) (m : NestReading) (s : State), ∃ t, exec (.nestSample n m) s = .next t
    ∧ (∀ j : Fin 3,
        t.rails[railOf n j].current = (if railSwitchClosed s.rails[railOf n j].state then m.rails[j].current else 0)
          ∧ t.rails[railOf n j].voltage = m.rails[j].voltage
          ∧ t.rails[railOf n j].history =
              (s.rails[railOf n j].history
                ++ [if railSwitchClosed s.rails[railOf n j].state then m.rails[j].current else 0]).drop
                (s.rails[railOf n j].history.length - 63)
          ∧ (sampleAttaches n m s = false →
              t.rails[railOf n j].charge =
                  (if railSwitchClosed s.rails[railOf n j].state then
                    min 4294967295
                      (s.rails[railOf n j].charge + (s.rails[railOf n j].residue + m.rails[j].current) / 1000)
                  else s.rails[railOf n j].charge)
                ∧ t.rails[railOf n j].residue =
                  (if railSwitchClosed s.rails[railOf n j].state then
                    (s.rails[railOf n j].residue + m.rails[j].current) % 1000
                  else s.rails[railOf n j].residue)))
    ∧ (let was := s.supplies[n].range || s.supplies[n].temperature
      let now := m.range || m.temperature
      t.supplies = s.supplies.set n
        ⟨m.range, m.temperature,
          if s.rails[railOf n 0].state = .probe ∧ was = false ∧ now = false then m.probe else 0, was && !now⟩)
    ∧ probeDrive s n =
        (if s.rails[railOf n 0].state = .probe ∧ s.supplies[n].range = false ∧ s.supplies[n].temperature = false
            ∧ s.supplies[n].resuming = false
        then some (2500, 20000) else none)
    ∧ t.mem = s.mem ∧ t.path = s.path ∧ t.pending = s.pending)
  ∧ (∀ (n : NestId) (m : NestReading) (s : State),
    let y := chargeNest n (readInputs n m.lines (measureNest n m s))
    let was := s.supplies[n].range || s.supplies[n].temperature
    let now := m.range || m.temperature
    let q : Supply := ⟨m.range, m.temperature, if now then 0 else y.supplies[n].probe, was && !now⟩
    let z : State := { y with supplies := y.supplies.set n q }
    ∃ w, exec (.nestSample n m) s = .next (settle (handSeat n m (w.forEach allKinds (railTurn n m s))))
      ∧ (was = now → w = z)
      ∧ (was = true → now = false → w.rails = z.rails ∧ Posted (evSupplyNormal n) z w)
      ∧ (was = false → now = true →
          (∃ v, Posted (evSupplyAlarm n m.range m.temperature) z v ∧ v.rails = z.rails
            ∧ v.post.fifo <+: w.post.fifo)
          ∧ ∀ k : Fin 3, w.rails[railOf n k] =
              let r := railOf n k
              let x := y.rails[r]
              let latch := !policyRetry s r || decide (maxRetries s r < x.retry + 1)
              if railSwitchClosed x.state then
                { x with
                  state := if latch then .latched else .faultWait
                  cause := .supply
                  retry := x.retry + 1
                  dwell := 0
                  timer := if latch then none else some 0 }
              else x))
  ∧ (∀ (r : RailId) (m : NestReading) (s : State),
    let n := nestOfRail r
    let x := atTurn n m s (kindOfRail r).val
    let y := x.rails[r]
    let engaged := m.rails[kindOfRail r].limiter
    let backfed := railSwitchClosed y.state && decide (setpoint s r + 300 < y.voltage)
    let turn (P : State → State → Prop) : Prop := AtRailTurn (.nestSample n m) r m s P
    let becomes (z : Rail) : Prop := turn fun x w => w = { x with rails := x.rails.set r z }
    y.state = s.rails[r].state →
      (backfed = true → turn (Faulted .backfeed r))
      ∧ (backfed = false → y.state = .on → engaged = true → 1 < limitingDwell s r →
          becomes { y with state := .limiting, dwell := 1 })
      ∧ (backfed = false → y.state = .limiting → engaged = true → y.dwell + 1 < limitingDwell s r →
          becomes { y with dwell := y.dwell + 1 })
      ∧ (backfed = false → engaged = true →
          (y.state = .on ∧ limitingDwell s r ≤ 1 ∨ y.state = .limiting ∧ limitingDwell s r ≤ y.dwell + 1) →
          turn (Faulted .overcurrent r))
      ∧ (backfed = false → y.state = .limiting → engaged = false → becomes { y with state := .on, dwell := 0 })
      ∧ (backfed = false → y.state = .on → engaged = false → turn fun x w => w = x))
  ∧ (∀ (n : NestId) (m : NestReading) (s : State),
    let x := afterRails n m s
    let v := seatStep n m.seatClosed x
    v.nests[n].state = .waiting → sampleAttaches n m s = false → sampleReports n m s = false →
      let y : Nest := { v.nests[n] with
        attachRun :=
          if m.seatClosed = true ∧ attachThreshold s n ≤ v.supplies[n].probe then v.nests[n].attachRun + 1 else 0
        closureTime :=
          if v.nests[n].seat = true ∧ ¬ (m.seatClosed = true ∧ x.nests[n].seat = false) then
            min 2000 (v.nests[n].closureTime + 1)
          else v.nests[n].closureTime }
      exec (.nestSample n m) s = .next (settle { v with nests := v.nests.set n y }))

/-- SNAPSHOT_TIMER_EXPIRY: the timer restarts and the nest, its rails and its inputs are offered. PULSE_PERIOD_END: the
pending frequency and duty take effect. -/
def Obligations.SnapshotsAndPulsePeriodsEnd : Prop :=
  (∀ (n : NestId) (s : State), snapshotDue s n = true →
    ∃ t, exec (.snapshotTimerExpiry n) s = .next t
    ∧ t.nests = s.nests.set n { s.nests[n] with snapTimer := some 0 }
    ∧ (Place.nest n, nestStatus s.nests[n]) ∈ t.post.places
    ∧ (∀ j : Fin 3, (Place.rail (railOf n j), railSnapshot s.rails[railOf n j] s.supplies[n]) ∈ t.post.places)
    ∧ (∀ j : Fin 8, (Place.input (inputOf n j), inputSnapshot s.inputs[inputOf n j]) ∈ t.post.places)
    ∧ t.supplies = s.supplies ∧ t.rails = s.rails ∧ t.inputs = s.inputs ∧ SameStimulus s t ∧ SameChecks s t
    ∧ NothingPosted s t ∧ t.mem = s.mem ∧ t.path = s.path)
  ∧ ∀ (n : NestId) (k : Fin 4) (s : State),
      exec (.pulsePeriodEnd n k) s = .next
        (match s.outputs[n].pulse[k].waiting with
          | none => s
          | some (f, d) =>
            { s with outputs := s.outputs.set n { s.outputs[n] with pulse := s.outputs[n].pulse.set k ⟨f, d, none⟩ } })

/-! ### Rails -/

/-- RAIL_ON and RAIL_CLEAR: the tests in order; the rail is ON and the RAIL triggers follow, from the state z in which it is
ON; or it is in RETRY_TEST. -/
def Obligations.RailOnAndClearTestInOrder : Prop :=
  ∀ (s : State) (k : SlotId) (a : HostAccess) (r : RailId),
    let n := nestOfRail r
    let shared : Option Reason :=
      if s.supplies[n].range ∨ s.supplies[n].temperature then some .supplyFault
      else if kindOfRail r ≠ 0 ∧ s.rails[railOf n 0].state ≠ .on ∧ s.rails[railOf n 0].state ≠ .limiting then
        some .dependency
      else none
    (Commands s .railOn k a r.val →
      Answers .railOn k a s
        (if s.rails[r].state = .discharging then some .busy
          else if s.rails[r].state ≠ .off then some .wrongState
          else if s.nests[n].state ≠ .opened then some .notOpen
          else if s.nests[n].interlock = .unsatisfied then some .interlock
          else if shared ≠ none then shared
          else if railRecordInRange s r = false then some .badRange
          else none)
        fun u =>
          u.rails = s.rails.set r { s.rails[r] with state := .on, cause := .none, dwell := 0 }
            ∧ (let v := writeAction a (clearHost s)
              let z : State := { v with rails := u.rails }
              SameChecks s z ∧ NothingPosted s z ∧ SameChecks (started (railFires r false z) z) u
                ∧ NothingPosted (started (railFires r false z) z) u)
            ∧ u.nests = s.nests ∧ u.supplies = s.supplies ∧ u.inputs = s.inputs ∧ SameStimulus s u)
    ∧ (Commands s .railClear k a r.val →
      Answers .railClear k a s
        (if s.rails[r].state ≠ .latched then some .wrongState
          else if s.nests[n].state ≠ .opened then some .notOpen
          else if s.nests[n].interlock = .unsatisfied then some .interlock
          else shared)
        fun u =>
          u.rails = s.rails.set r { s.rails[r] with state := .retryTest, retry := 0, timer := some 0 }
            ∧ u.nests = s.nests ∧ u.supplies = s.supplies ∧ u.inputs = s.inputs ∧ SameStimulus s u ∧ SameChecks s u
            ∧ NothingPosted s u)

/-- RAIL_OFF is accepted in every rail state: what becomes of the rail and of the dependants of BATT, which are reported, and
of the tracks that require and the running checks that sample a rail that was in service. -/
def Obligations.RailOffTakesARailOutOfService : Prop :=
  ∀ (s : State) (k : SlotId) (a : HostAccess) (r : RailId), Commands s .railOff k a r.val →
    let n := nestOfRail r
    let y := s.rails[r]
    Answers .railOff k a s none fun u =>
      u.rails[r] =
          (if y.state.forcible then { y with state := .discharging, retry := 0, dwell := 0, timer := some 0 }
            else if y.state = .latched then { y with state := .off, retry := 0, dwell := 0 }
            else { y with retry := 0, dwell := 0 })
        ∧ OtherRails n s u
        ∧ (kindOfRail r ≠ 0 → ∀ q : RailId, q ≠ r → u.rails[q] = s.rails[q])
        ∧ (kindOfRail r = 0 → ∀ j : Fin 3, j ≠ 0 →
            u.rails[railOf n j] =
              if (y.state.forcible ∨ y.state = .latched) ∧ s.rails[railOf n j].state.forcible then
                dependantRail s.rails[railOf n j]
              else s.rails[railOf n j])
        ∧ (y.state.serving = true → ServiceLost r s u)
        ∧ (kindOfRail r = 0 → ∀ j : Fin 3, j ≠ 0 → y.state.forcible ∨ y.state = .latched →
            s.rails[railOf n j].state.forcible → DependantLost (railOf n j) s u)
        ∧ u.nests = s.nests ∧ u.supplies = s.supplies ∧ u.inputs = s.inputs ∧ u.capture = s.capture

/-- RAIL_CHARGE_RESET: the accumulator, its residue and the crossed flag are cleared and the CHARGE checks that measure on
the rail are decided. BUDGET_CROSSING: in the charge step of the sample the accumulator reaches the budget; the flag is
set, RAIL_BUDGET is posted and the BUDGET triggers of the rail follow. That BUDGET_CROSSING is the whole nest sample
(log 4), that the inputs are read before the charge step (log 18) and that its rails are taken one after another (log 49)
are the model's choices. -/
def Obligations.ChargeIsResetAndCrossesItsBudget : Prop :=
  (∀ (s : State) (k : SlotId) (a : HostAccess) (r : RailId), Commands s .railChargeReset k a r.val →
    Answers .railChargeReset k a s none fun u =>
      u.rails = s.rails.set r { s.rails[r] with charge := 0, residue := 0, crossed := false }
        ∧ (∀ c : CheckId, (s.checks[c].state = .delaying ∨ s.checks[c].state = .sampling) →
            checkNest s c = nestOfRail r → checkKind s c = some .charge → sourceRail s c = some (kindOfRail r) →
            Decided c { verdict := .sourceFault, detail := detailChargeReset } s u)
        ∧ u.nests = s.nests ∧ u.supplies = s.supplies ∧ u.inputs = s.inputs ∧ SameStimulus s u)
  ∧ ∀ (r : RailId) (m : NestReading) (s : State), budgetCrosses r m s = true →
    let n := nestOfRail r
    let k := kindOfRail r
    let y := (readInputs n m.lines (measureNest n m s)).forEach (allKinds.filter fun j => decide (j.val < k.val))
      fun j => chargeRail (railOf n j)
    let nc := y.rails[r].residue + m.rails[k].current
    let charge := min 4294967295 (y.rails[r].charge + nc / 1000)
    railSwitchClosed s.rails[r].state = true ∧ s.rails[r].crossed = false ∧ chargeBudget s r ≠ 0
      ∧ y.rails[r].charge = s.rails[r].charge ∧ y.rails[r].residue = s.rails[r].residue ∧ chargeBudget s r ≤ charge
      ∧ ∃ q : Post,
        let z : State := { y with
          rails := y.rails.set r { y.rails[r] with charge := charge, residue := nc % 1000, crossed := true }
          post := q }
        Posted (evRailBudget r charge (chargeBudget s r)) y z
        ∧ exec (.budgetCrossing r m) s = .next (settle (handSeat n m
            ((superviseSupply n m.range m.temperature
              ((started (railFires r true z) z).forEach (allKinds.filter fun j => decide (k.val < j.val)) fun j =>
                chargeRail (railOf n j))).forEach allKinds (railTurn n m s))))

/-- LIMITING_DWELL_EXPIRY and RETRY_TEST_EXPIRY: an overcurrent, or a retry test below the threshold, is a fault that
follows the policy; a retry test at or above it puts the rail ON. That both are the whole nest sample is the model's
choice (log 4). -/
def Obligations.FaultsFollowThePolicyOfTheRail : Prop :=
  ∀ (r : RailId) (m : NestReading) (s : State),
    (actAtTurn r m s = .overcurrent →
      AtRailTurn (.limitingDwellExpiry r m) r m s fun x w => Faulted .overcurrent r x w)
    ∧ (actAtTurn r m s = .retryExpiry →
      AtRailTurn (.retryTestExpiry r m) r m s fun x w =>
        (100 * x.rails[r].voltage < setpoint x r * passPercent x r → Faulted .short r x w)
        ∧ (setpoint x r * passPercent x r ≤ 100 * x.rails[r].voltage →
          ∃ z, w = started (railFires r false z) z
            ∧ z.rails = x.rails.set r { x.rails[r] with state := .on, dwell := 0, timer := none }
            ∧ Posted (evRailRecovered r x.rails[r].retry x.rails[r].voltage) x z
            ∧ z.nests = x.nests ∧ z.supplies = x.supplies ∧ z.inputs = x.inputs ∧ SameStimulus x z
            ∧ SameChecks x z))

/-- FAULT_WAIT_EXPIRY: the wait starts again while the supply is faulty or BATT out of service, and otherwise the retry
test starts. DISCHARGE_EXPIRY: at or below 500 mV the rail is OFF, and otherwise it is LATCHED with DISCHARGE_FAIL. That
both are the whole nest sample is the model's choice (log 4). -/
def Obligations.WaitsAndDischargesExpire : Prop :=
  ∀ (r : RailId) (m : NestReading) (s : State),
    (actAtTurn r m s = .waitExpiry →
      AtRailTurn (.faultWaitExpiry r m) r m s fun x w =>
        let blocked := x.supplies[nestOfRail r].range || x.supplies[nestOfRail r].temperature
          || (kindOfRail r != 0 && !(x.rails[railOf (nestOfRail r) 0].state == .on
                || x.rails[railOf (nestOfRail r) 0].state == .limiting))
        w = { x with
          rails := x.rails.set r
            { x.rails[r] with state := if blocked then x.rails[r].state else .retryTest, timer := some 0 } })
    ∧ (actAtTurn r m s = .dischargeExpiry →
      AtRailTurn (.dischargeExpiry r m) r m s fun x w =>
        (x.rails[r].voltage ≤ 500 →
          w = { x with rails := x.rails.set r { x.rails[r] with state := .off, timer := none } })
        ∧ (500 < x.rails[r].voltage →
          w.rails = x.rails.set r { x.rails[r] with state := .latched, cause := .dischargeFail, timer := none }
          ∧ Posted (evRailLatched r .dischargeFail x.rails[r].retry x.rails[r].voltage) x w
          ∧ w.nests = x.nests ∧ w.supplies = x.supplies ∧ w.inputs = x.inputs ∧ SameStimulus x w ∧ SameChecks x w))

/-! ### Stimulus tracks -/

/-- TRACK_LAUNCH: the tests in order; the claims are taken and the track is PRIMING with its counts cleared and its first
fetch requested. -/
def Obligations.LaunchTestsInOrderAndPrimes : Prop :=
  ∀ (s : State) (k : SlotId) (a : HostAccess) (t : TrackId), Commands s .trackLaunch k a t.val →
    let n := trackNest s t
    let bytes := 16 * bufferSize s t
    Answers .trackLaunch k a s
      (if s.tracks[t].state.active then some .busy
        else if s.nests[n].state ≠ .opened then some .notOpen
        else if ∃ j : Fin 3, requiresRail s t j = true ∧ s.rails[railOf n j].state ≠ .on
            ∧ s.rails[railOf n j].state ≠ .limiting then some .dependency
        else if sizeCode s t ≤ 8 ∧ bufferBase s t % bytes ≠ 0 then some .misaligned
        else if 8 < sizeCode s t ∨ bufferSize s t ≤ startIndex s t ∨ entryCount s t = 0 ∨ 2 < underrunPolicy s t
            ∨ 16777216 < bufferBase s t + bytes
            ∨ (16384 * s.path.base.toNat < bufferBase s t + bytes
                ∧ bufferBase s t < 16384 * s.path.base.toNat + 16384) then some .badRange
        else if claimConflict s t then some .conflict
        else none)
      fun u =>
        u.tracks = s.tracks.set t
            { s.tracks[t] with
              state := .priming
              cause := .none
              launch := s.tracks[t].launch + 1
              total := entryCount s t
              played := 0
              fetched := 0
              fetchIndex := startIndex s t
              held := []
              request := true
              interval := 0
              starved := false
              stalled := false
              underrunReported := false
              gap := none
              underruns := 0
              lateness := 0
              dropped := 0 }
          ∧ (∀ (j : NestId) (o : Fin 16), u.claims[claimOf j o] =
              if j = n ∧ claimsOutput s t o = true then some t else s.claims[claimOf j o])
          ∧ (∀ (j : NestId) (i : TrackId), u.frameHolders[j][i] =
              if j = n ∧ i = t ∧ claimsFrames s t = true then true else s.frameHolders[j][i])
          ∧ u.outputs = s.outputs ∧ u.ports = s.ports ∧ u.capture = s.capture
          ∧ SamePlant s u ∧ SameChecks s u ∧ NothingPosted s u

/-- TRACK_SUSPEND and TRACK_RESUME: what each state of the track answers and what becomes of its record; a resumed track
that is starved with its head present meets the underrun test. That under HOLD an underrun is counted and reported before
the entry is handled (log 21), and that TRACK_FAULTED then names no entry detail and target code 0 (log 22), are the model's
readings; that a greater lateness is written as 65,535 is its choice (log 51). -/
def Obligations.SuspendAndResumeFollowTheState : Prop :=
  ∀ (s : State) (k : SlotId) (a : HostAccess) (t : TrackId),
    let x := s.tracks[t]
    (Commands s .trackSuspend k a t.val →
      Answers .trackSuspend k a s
        (if x.state = .running ∨ x.state = .suspending ∨ x.state = .suspended then none
          else if x.state = .priming then some .busy else some .wrongState)
        fun u =>
          u.tracks = s.tracks.set t
              (if x.state = .running then
                Track.renew { x with state := if x.stalled then .suspending else .suspended }
              else x)
            ∧ u.outputs = s.outputs ∧ u.claims = s.claims ∧ u.ports = s.ports
            ∧ SamePlant s u ∧ SameChecks s u ∧ NothingPosted s u)
    ∧ (Commands s .trackResume k a t.val →
      Answers .trackResume k a s
        (if x.state = .running ∨ x.state = .suspending ∨ x.state = .suspended then none else some .wrongState)
        fun u =>
          (x.state = .running → u.tracks = s.tracks)
          ∧ (x.state = .suspending → u.tracks = s.tracks.set t (Track.renew { x with state := .running }))
          ∧ (x.state = .suspended → x.held = [] →
              u.tracks = s.tracks.set t
                (Track.renew { x with state := .running, starved := x.starved || decide (x.played < x.total) }))
          ∧ (x.state = .suspended → x.starved = false → x.held ≠ [] →
              u.tracks = s.tracks.set t (Track.renew { x with state := .running }))
          ∧ (∀ e rest, x.state = .suspended → x.starved = true → x.held = e :: rest →
              x.interval ≤ e.required →
              u.tracks = s.tracks.set t (Track.renew { x with state := .running, starved := false }))
          ∧ (∀ e rest, x.state = .suspended → x.starved = true → x.held = e :: rest →
              e.required < x.interval →
              ∃ v w, SamePlant s v ∧ SameStimulus s { v with tracks := s.tracks } ∧ SameChecks s v
                ∧ NothingPosted s v ∧ v.path = { s.path with host := none }
                ∧ v.tracks = s.tracks.set t (Track.renew { x with state := .running, starved := false })
                ∧ Underrun t e v.tracks[t] v w ∧ SameBlocks w u ∧ NothingPosted w u))

/-- TRACK_STOP and TRACK_EXTEND: an active track halts with cause STOP, its outputs idle and its claims released; the
total of an active track grows by the operand, which has to be 1 or more and to keep it at or below 16,777,215. -/
def Obligations.StopHaltsAndExtendLengthens : Prop :=
  ∀ (s : State) (k : SlotId) (a : HostAccess) (t : TrackId),
    let x := s.tracks[t]
    (Commands s .trackStop k a t.val →
      Answers .trackStop k a s (if x.state = .idle then some .wrongState else none)
        fun u =>
          (x.state.active = false → u.tracks = s.tracks ∧ u.outputs = s.outputs ∧ u.claims = s.claims
            ∧ u.ports = s.ports ∧ NothingPosted s u)
          ∧ (x.state.active = true →
            u.tracks = s.tracks.set t
                { x with state := .halted, cause := .stop, held := [], stalled := false, request := false }
              ∧ ClaimsReleased t s u ∧ ClaimedIdle t s u
              ∧ (∀ p : NestId, u.ports[p] =
                  { s.ports[p] with stall := s.ports[p].stall.filter fun j => j != t })
              ∧ Posted (evTrackHalted (trackNest s t) t .stop x.played) s u
              ∧ (Place.track t, trackStatus u.tracks[t]) ∈ u.post.places)
          ∧ u.capture = s.capture ∧ SamePlant s u ∧ SameChecks s u)
    ∧ (Commands s .trackExtend k a t.val →
      Answers .trackExtend k a s
        (if wordOperand a.data = 0 then some .badOperand
          else if x.state = .done then some .done
          else if x.state.active = false then some .wrongState
          else if 16777215 < x.total + wordOperand a.data then some .overflow
          else none)
        fun u =>
          u.tracks = s.tracks.set t (Track.renew { x with total := x.total + wordOperand a.data })
            ∧ u.outputs = s.outputs ∧ u.claims = s.claims ∧ u.ports = s.ports
            ∧ SamePlant s u ∧ SameChecks s u ∧ NothingPosted s u)

/-- ENTRY_FETCH: the fetch on the port completes, or else the one that the port goes to, and the rotation of the class that
was granted stands on the track. The entry at the fetch index joins the prefetch; a full prefetch, or the last entry, ends
priming; a starved track meets the underrun test; the entry of a track that is no longer active is dropped. That a fetch is
on the port from an idle step to ENTRY_FETCH is the model's choice (log 56). That under HOLD an
underrun is counted and reported before the entry is handled (log 21), and that TRACK_FAULTED then names no entry detail and
target code 0 (log 22), are the model's readings; that a greater lateness is written as 65,535 is its choice (log 51). -/
def Obligations.FetchTakesTheEntryInMemory : Prop :=
  ∀ (s : State) (t : TrackId) (p : Path), FetchCompletes s t p →
    let x := s.tracks[t]
    let w := bufferBase s t / 4 + 4 * x.fetchIndex
    let e : Entry := ⟨x.fetchIndex, readWord s.mem w, readWord s.mem (w + 1), readWord s.mem (w + 2),
      readWord s.mem (w + 3)⟩
    let y := Track.renew { x with
      held := x.held ++ [e], fetchIndex := (x.fetchIndex + 1) % bufferSize s t, fetched := x.fetched + 1 }
    (x.state.active = false → Leaves .entryFetch s fun u => u = { s with path := p })
    ∧ (x.state.active = true → Leaves .entryFetch s fun u =>
      u.path = p ∧ u.mem = s.mem
        ∧ (x.state = .priming → u.tracks = s.tracks.set t
            (if x.held.length + 1 = 8 ∨ x.fetched + 1 = x.total then
              Track.renew { y with state := .running, interval := 0 } else y))
        ∧ (x.state ≠ .priming → ¬ (x.state = .running ∧ x.starved = true) → u.tracks = s.tracks.set t y)
        ∧ (¬ (x.state = .running ∧ x.starved = true) →
            u.outputs = s.outputs ∧ u.claims = s.claims ∧ u.ports = s.ports ∧ u.capture = s.capture
              ∧ SamePlant s u ∧ SameChecks s u ∧ NothingPosted s u)
        ∧ (x.state = .running → x.starved = true → ∀ h rest, x.held ++ [e] = h :: rest →
            (x.interval ≤ h.required → u.tracks = s.tracks.set t (Track.renew { y with starved := false }))
            ∧ (h.required < x.interval →
              let v : State := { s with
                path := p
                tracks := s.tracks.set t (Track.renew { y with starved := false }) }
              Underrun t h v.tracks[t] v u)))

/-- ENTRY_DUE of a good entry that is no FRAME: its target is set on its nest, its mark is delivered, the track's counts
advance, and the last entry completes the track. That an entry of duty 0 keeps the duty of its pulse output, and that one of
frequency 0 acts at once, is the model's reading (log 20); that an entry of duty 0 that replaces pending values keeps the
duty in force, not the pending one, is its choice (log 57). -/
def Obligations.DueEntryIsPlayedOnItsTarget : Prop :=
  ∀ (s : State) (t : TrackId) (e : Entry) (rest : List Entry), headDue s t = true → s.tracks[t].held = e :: rest →
    entryFault s t e = .none → e.target ≠ some .frame →
    let n := trackNest s t
    let x := s.tracks[t]
    Leaves (.entryDue t) s fun u =>
      u.tracks = s.tracks.set t (playedTrack x e rest)
        ∧ (∀ j : NestId, j ≠ n → u.outputs[j] = s.outputs[j])
        ∧ (e.target = some .wait → u.outputs[n] = s.outputs[n])
        ∧ (∀ k : Fin 4, e.target = some (.pulse k) →
            let p := s.outputs[n].pulse[k]
            let d := if e.duty = 0 then p.duty else e.duty
            let q : Pulse :=
              if e.w1.toNat = 0 ∨ p.frequency = 0 then ⟨e.w1.toNat, d, none⟩
              else { p with waiting := some (e.w1.toNat, d) }
            u.outputs[n] = { s.outputs[n] with pulse := s.outputs[n].pulse.set k q })
        ∧ (∀ k : Fin 4, e.target = some (.level k) →
            u.outputs[n] = { s.outputs[n] with level := s.outputs[n].level.set k e.w1.toNat })
        ∧ (e.target = some .discrete →
            (∀ i : Fin 8, u.outputs[n].line[i] =
              if e.setMask i then true else if e.clearMask i then false else s.outputs[n].line[i])
            ∧ u.outputs[n].pulse = s.outputs[n].pulse ∧ u.outputs[n].level = s.outputs[n].level)
        ∧ (x.played + 1 = x.total → ClaimsReleased t s u)
        ∧ (x.played + 1 ≠ x.total → u.claims = s.claims ∧ u.frameHolders = s.frameHolders)
        ∧ (e.mark = 0 → x.played + 1 = x.total →
            Posted (evTrackDone n t (x.played + 1) x.underruns (playedTrack x e rest).lateness) s u)
        ∧ (e.mark = 0 → x.played + 1 ≠ x.total → NothingPosted s u)
        ∧ (e.mark = 0 → SameChecks s u)
        ∧ (e.mark ≠ 0 →
            MarkDelivered n e.mark
              { s with tracks := s.tracks.set t (Track.renew { x with held := rest }), outputs := u.outputs } u)
        ∧ u.ports = s.ports ∧ u.capture = s.capture ∧ SamePlant s u

/-- ENTRY_DUE of a bad entry, the cases in the order of R55: the track faults without a play, its outputs idle. That the
cases are tried in this order is the model's choice (log 19). -/
def Obligations.BadEntryFaultsItsTrack : Prop :=
  ∀ (s : State) (t : TrackId) (e : Entry) (rest : List Entry), headDue s t = true → s.tracks[t].held = e :: rest →
    (10 < e.targetCode → entryFault s t e = .badTarget)
    ∧ (e.targetCode ≤ 10 → unclaimed s t e = true → entryFault s t e = .unclaimed)
    ∧ (e.targetCode = 10 → unclaimed s t e = false → 8 < e.frameLength → entryFault s t e = .badLength)
    ∧ (1 ≤ e.targetCode → e.targetCode ≤ 4 → unclaimed s t e = false →
        (1 ≤ e.w1.toNat ∧ e.w1.toNat ≤ 99 ∨ 20000000 < e.w1.toNat ∨ 99 < e.duty) → entryFault s t e = .badValue)
    ∧ (5 ≤ e.targetCode → e.targetCode ≤ 8 → unclaimed s t e = false → 5000 < e.w1.toNat →
        entryFault s t e = .badValue)
    ∧ (e.targetCode = 10 → unclaimed s t e = false → e.frameLength ≤ 8 → e.extended = false →
        2047 < e.identifier.toNat → entryFault s t e = .badValue)
    ∧ (entryFault s t e ≠ .none →
      Leaves (.entryDue t) s fun u =>
        u.tracks = s.tracks.set t
            { s.tracks[t] with state := .faulted, cause := .badEntry, held := [], stalled := false, request := false }
          ∧ ClaimsReleased t s u ∧ ClaimedIdle t s u
          ∧ (∀ p : NestId, u.ports[p] = { s.ports[p] with stall := s.ports[p].stall.filter fun j => j != t })
          ∧ Posted (evTrackFaulted (trackNest s t) t .badEntry (entryFault s t e) e.index s.tracks[t].played
              e.targetCode) s u
          ∧ u.capture = s.capture ∧ SamePlant s u ∧ SameChecks s u)

/-- ENTRY_DUE and FRAME_GAP_END of a good FRAME entry: inside the gap it waits; a free place of an ON port takes the frame
and the entry is played; a full queue stalls the track; a port that is not ON drops the frame. STALL_PLACE_OFFERED: a free
place goes to the head of the stall list. -/
def Obligations.FramesAreQueuedStalledOrDropped : Prop :=
  (∀ (s : State) (t : TrackId) (e : Entry) (rest : List Entry) (c : Instr),
    (c = .entryDue t ∧ headDue s t = true) ∨ (c = .frameGapEnd t ∧ gapEnded s t = true) →
    s.tracks[t].held = e :: rest → entryFault s t e = .none → e.target = some .frame →
    let p := trackNest s t
    let x := s.tracks[t]
    let y := s.ports[p]
    let f : Frame := ⟨e.identifier, e.extended, e.payload, t, x.launch, y.number, 0⟩
    let i := framePlace f y.queue
    (gapOpen s t = true → exec c s = .next (settle s))
    ∧ (gapOpen s t = false → y.state = .on → y.queue.length < 4 →
      Leaves c s fun u =>
        u.tracks = s.tracks.set t (playedTrack { x with stalled := false, gap := some 0 } e rest)
          ∧ OtherPorts p s u
          ∧ u.ports[p] =
              { y with
                queue := y.queue.take i ++ f :: y.queue.drop i
                inFlight := y.inFlight.map fun j => if i ≤ j then j + 1 else j
                number := y.number + 1 }
          ∧ u.outputs = s.outputs ∧ u.capture = s.capture ∧ SamePlant s u)
    ∧ (gapOpen s t = false → y.state = .on → 4 ≤ y.queue.length →
      Leaves c s fun u =>
        u.tracks = s.tracks.set t (Track.renew { x with stalled := true }) ∧ OtherPorts p s u
          ∧ u.ports[p] = { y with stall := y.stall ++ [t] }
          ∧ u.outputs = s.outputs ∧ u.capture = s.capture ∧ SamePlant s u ∧ SameChecks s u ∧ NothingPosted s u)
    ∧ (gapOpen s t = false → y.state ≠ .on →
      Leaves c s fun u =>
        u.tracks = s.tracks.set t
            (playedTrack { x with dropped := min 255 (x.dropped + 1), gap := some 0 } e rest)
          ∧ u.ports = s.ports ∧ u.outputs = s.outputs ∧ u.capture = s.capture ∧ SamePlant s u))
  ∧ ∀ (s : State) (p : NestId) (t : TrackId) (others : List TrackId) (e : Entry) (rest : List Entry),
      s.ports[p].state = .on → s.ports[p].queue.length < 4 → s.ports[p].stall = t :: others →
      s.tracks[t].held = e :: rest → e.target = some .frame →
      let y := s.ports[p]
      let f : Frame := ⟨e.identifier, e.extended, e.payload, t, s.tracks[t].launch, y.number, 0⟩
      let i := framePlace f y.queue
      Leaves (.stallPlaceOffered p) s fun u =>
        u.tracks = s.tracks.set t (playedTrack { s.tracks[t] with stalled := false, gap := some 0 } e rest)
          ∧ OtherPorts p s u
          ∧ u.ports[p] =
              { y with
                queue := y.queue.take i ++ f :: y.queue.drop i
                inFlight := y.inFlight.map fun j => if i ≤ j then j + 1 else j
                number := y.number + 1
                stall := others }
          ∧ u.outputs = s.outputs ∧ u.capture = s.capture ∧ SamePlant s u

/-! ### Ports -/

/-- PORT_START and PORT_STOP: the tests in order; a started port is ON with its failures cleared, and from OFF its nest's
period bases are dropped; a stopped port is OFF with its queue and stall list empty, and of each stalled track the frame is
dropped and counted with the track's queued frames, and its entry is played. That a frame dropped so leaves the frame gap
count is the model's reading (log 23). -/
def Obligations.PortsStartAndStop : Prop :=
  ∀ (s : State) (k : SlotId) (a : HostAccess) (p : NestId),
    let x := s.ports[p]
    (Commands s .portStart k a p.val →
      Answers .portStart k a s
        (if s.nests[p].state ≠ .opened then some .notOpen
          else if 3 < bitRateCode s p ∨ 7 < retryLimit s p then some .badRange
          else none)
        fun u =>
          u.ports = s.ports.set p (if x.state = .on then x else { x with state := .on, failures := 0 })
            ∧ (∀ (j : NestId) (i : Fin 16), u.capture[captureOf j i] =
                if j = p ∧ x.state = .off then { s.capture[captureOf j i] with base := none }
                else s.capture[captureOf j i])
            ∧ u.tracks = s.tracks ∧ u.outputs = s.outputs ∧ u.claims = s.claims
            ∧ SamePlant s u ∧ SameChecks s u ∧ NothingPosted s u)
    ∧ (Commands s .portStop k a p.val →
      Answers .portStop k a s none fun u =>
        (x.state = .off → u.ports = s.ports ∧ u.tracks = s.tracks ∧ NothingPosted s u)
        ∧ (x.state ≠ .off →
          u.ports = s.ports.set p { x with state := .off, queue := [], inFlight := none, stall := [] }
          ∧ (∀ t ∈ x.stall, u.tracks[t].stalled = false)
          ∧ ∀ (t : TrackId) (e : Entry) (rest : List Entry), x.stall.count t = 1 → s.tracks[t].held = e :: rest →
            let drops := (x.queue.filter fun f => decide (f.track = t ∧ f.launch = s.tracks[t].launch)).length
            u.tracks[t] = playedTrack
              { s.tracks[t] with stalled := false, dropped := min 255 (s.tracks[t].dropped + drops + 1) } e rest)
        ∧ u.capture = s.capture ∧ SamePlant s u)

/-- ATTEMPT_START begins an attempt with the head of the queue; ACKED removes the frame and clears the failures;
LOST_ARBITRATION to a frame of a key that is not greater ends the attempt only. -/
def Obligations.AttemptsBeginAndEnd : Prop :=
  (∀ (s : State) (p : NestId), s.ports[p].state = .on → s.ports[p].inFlight = none → s.ports[p].queue ≠ [] →
    exec (.attemptStart p) s = .next { s with ports := s.ports.set p { s.ports[p] with inFlight := some 0 } })
  ∧ (∀ (s : State) (p : NestId) (i : Nat) (f : Frame), s.ports[p].inFlight = some i → s.ports[p].queue[i]? = some f →
    let x : Port := { s.ports[p] with queue := s.ports[p].queue.eraseIdx i, inFlight := none, failures := 0 }
    exec (.acked p) s = .next (settle (offerPlace p { s with ports := s.ports.set p x })))
  ∧ ∀ (s : State) (p : NestId) (i : Nat) (f : Frame) (identifier : BitVec 29) (extended : Bool),
      s.ports[p].inFlight = some i → s.ports[p].queue[i]? = some f →
      arbitrationKey identifier extended ≤ f.key →
      exec (.lostArbitration p identifier extended) s
        = .next { s with ports := s.ports.set p { s.ports[p] with inFlight := none } }

/-- NOT_ACKED: while attempts are left the frame stays queued with one attempt more; otherwise it fails, and the eighth
failure in a row silences the port, which drops what it holds, counts the drops to their tracks and posts PORT_SILENT. -/
def Obligations.UnacknowledgedFramesRetryFailAndSilence : Prop :=
  ∀ (s : State) (p : NestId) (i : Nat) (f : Frame), s.ports[p].inFlight = some i → s.ports[p].queue[i]? = some f →
    let x := s.ports[p]
    let counted (k : TrackId) : Nat :=
      if k = f.track ∧ s.tracks[k].launch = f.launch then min 255 (s.tracks[k].dropped + 1) else s.tracks[k].dropped
    let again : Port := { x with queue := x.queue.set i { f with attempts := f.attempts + 1 }, inFlight := none }
    (f.attempts < retryLimit s p →
      exec (.notAcked p) s = .next (settle { s with ports := s.ports.set p again }))
    ∧ (retryLimit s p ≤ f.attempts → x.failures < 7 →
      ∃ w, exec (.notAcked p) s = .next (settle (offerPlace p w))
        ∧ w.ports = s.ports.set p
            { x with queue := x.queue.eraseIdx i, inFlight := none, failures := x.failures + 1 }
        ∧ (∀ k : TrackId, w.tracks[k].dropped = counted k ∧ w.tracks[k].state = s.tracks[k].state
            ∧ w.tracks[k].held = s.tracks[k].held)
        ∧ w.outputs = s.outputs ∧ w.capture = s.capture ∧ SamePlant s w ∧ SameChecks s w ∧ NothingPosted s w)
    ∧ (retryLimit s p ≤ f.attempts → 7 ≤ x.failures →
      Leaves (.notAcked p) s fun u =>
        u.ports = s.ports.set p
            { x with state := .silent, queue := [], inFlight := none, stall := [], failures := 8 }
          ∧ (∀ t ∈ x.stall, u.tracks[t].stalled = false)
          ∧ (∀ k : TrackId,
              let lost := ((f :: x.queue.eraseIdx i).filter fun g =>
                g.track == k && g.launch == s.tracks[k].launch).length + x.stall.count k
              u.tracks[k].dropped = if lost = 0 then s.tracks[k].dropped else min 255 (s.tracks[k].dropped + lost))
          ∧ Reported (evPortSilent p f.identifier f.extended ((x.queue.eraseIdx i).length + x.stall.length)) s u
          ∧ u.capture = s.capture ∧ SamePlant s u)

/-- DUT_FRAME_RECEIVED: a sound frame on a port that is not OFF, and was not stopped while the frame was on the bus, goes to
the first filter it matches, whose slot and whose SIGNATURE checks take it; any other frame changes nothing. That the
command tells of such a stop, and that a frame begun before a start is heard, is the model's reading of R73 (log 44). -/
def Obligations.FirstMatchingFilterCapturesTheFrame : Prop :=
  ∀ (s : State) (p : NestId) (f : DutFrame),
    let heard := decide (s.ports[p].state ≠ .off) && f.intact && decide (f.length ≤ 8) && !f.cut
    ∃ t, exec (.dutFrameReceived p f) s = .next t
    ∧ t.ports = s.ports.set p { s.ports[p] with ackDriven := heard }
    ∧ (heard = false ∨ (∀ j : Fin 16, filterMatches s p f j = false) → t.capture = s.capture ∧ t.checks = s.checks)
    ∧ (∀ j : Fin 16, heard = true → filterMatches s p f j = true → (∀ i : Fin 16, i < j → filterMatches s p f i = false) →
      let x := s.capture[captureOf p j]
      (∀ i : CaptureId, i ≠ captureOf p j → t.capture[i] = s.capture[i])
      ∧ t.capture[captureOf p j].count = min 4294967295 (x.count + 1)
      ∧ t.capture[captureOf p j].length = f.length
      ∧ (∀ i : Fin 8, t.capture[captureOf p j].payload[i] = if i.val < f.length then f.payload[i] else 0)
      ∧ t.capture[captureOf p j].base = some s.nests[p].clock
      ∧ (x.base = none → t.capture[captureOf p j].lastPeriod = x.lastPeriod
          ∧ t.capture[captureOf p j].minPeriod = x.minPeriod ∧ t.capture[captureOf p j].maxPeriod = x.maxPeriod)
      ∧ (∀ b, x.base = some b →
          t.capture[captureOf p j].lastPeriod = some (s.nests[p].clock - b)
          ∧ t.capture[captureOf p j].minPeriod
              = some (match x.minPeriod with
                  | none => s.nests[p].clock - b
                  | some o => if s.nests[p].clock - b < o then s.nests[p].clock - b else o)
          ∧ t.capture[captureOf p j].maxPeriod
              = some (match x.maxPeriod with
                  | none => s.nests[p].clock - b
                  | some o => if o < s.nests[p].clock - b then s.nests[p].clock - b else o))
      ∧ (∀ c : CheckId, t.checks[c] =
          if s.checks[c].state = .sampling ∧ checkNest s c = p ∧ checkKind s c = some .signature
              ∧ sourceSlot s c = some j then
            { s.checks[c] with
              fed := min 4294967295 (s.checks[c].fed + 1)
              signature := signatureFrame (signatureWidth s c) (polynomial s c) s.checks[c].signature (frameBytes f) }
          else s.checks[c]))
    ∧ t.tracks = s.tracks ∧ t.outputs = s.outputs ∧ SamePlant s t ∧ t.link = s.link ∧ t.prompts = s.prompts
    ∧ t.nodes = s.nodes ∧ NothingPosted s t ∧ t.mem = s.mem ∧ t.path = s.path

/-! ### Response inputs -/

/-- RISING_EDGE and FALLING_EDGE of a measuring input whose threshold is not 0: the comparator, the gate record and the
edge count; with a threshold of 0 there are no edges. That an edge in the microsecond of the latest edge takes it back, the
phase between them being shorter than 1 µs, is the model's reading of R88 (log 41); the latest edge is its own record
(log 14). -/
def Obligations.EdgesReachTheGateRecord : Prop :=
  ∀ (s : State) (i : InputId),
    let x := s.inputs[i]
    let clock := s.nests[nestOfInput i].clock
    let edges := min 2147483647 (x.edges + 1)
    let mark : EdgeMark := ⟨clock, x.gate, x.edges⟩
    let undone (m : EdgeMark) : Input :=
      { x with
        high := !x.high
        edges := m.edges
        gate := m.gate
        value := if x.mode = .edges ∧ x.firstDone = true then some m.edges else x.value
        lastEdge := none }
    let risen : Input :=
      if x.position = none then { x with high := true, lastEdge := some mark }
      else
        { x with
          high := true
          edges := edges
          gate := ⟨min 2147483647 (x.gate.rising + 1), some (x.gate.first.getD clock), some clock, x.gate.high,
            x.gate.high⟩
          value := if x.mode = .edges ∧ x.firstDone = true then some edges else x.value
          lastEdge := some mark }
    let fallen : Input :=
      match x.position, x.gate.first, x.gate.last with
      | some _, some _, some l =>
        { x with
          high := false
          gate := { x.gate with high := x.gate.high + (clock - l).toNat }
          lastEdge := some mark }
      | _, _, _ => { x with high := false, lastEdge := some mark }
    (x.measuring = true → edgeThreshold s i ≠ 0 →
      (∀ m, x.lastEdge = some m → m.clock = clock →
        (x.high = false → exec (.risingEdge i) s = .next { s with inputs := s.inputs.set i (undone m) })
        ∧ (x.high = true → exec (.fallingEdge i) s = .next { s with inputs := s.inputs.set i (undone m) }))
      ∧ ((∀ m, x.lastEdge = some m → m.clock ≠ clock) →
        (x.high = false → exec (.risingEdge i) s = .next { s with inputs := s.inputs.set i risen })
        ∧ (x.high = true → exec (.fallingEdge i) s = .next { s with inputs := s.inputs.set i fallen })))
    ∧ (x.measuring = false ∨ edgeThreshold s i = 0 →
        exec (.risingEdge i) s = .next s ∧ exec (.fallingEdge i) s = .next s)

/-- GATE_END of an input of an OPEN or DRAINING nest: the value by mode and a cleared gate record; an edge stamped with the
clock value of the boundary belongs to the gate that begins there; an input whose drain ends in the sample, be it at a rail
or in the taking that begins it, is stopped. That
GATE_END is the whole nest sample is the model's choice (log 4), as is the record of the latest edge by which such an edge
is taken after the boundary (log 14). -/
def Obligations.GateEndGivesTheValueOfTheMode : Prop :=
  ∀ (s : State) (i : InputId) (m : NestReading), gateEnds s i = true →
    let x := s.inputs[i]
    let n := nestOfInput i
    let clock := s.nests[n].clock
    let late := x.lastEdge.filter fun e => e.clock == clock
    let rose := late.isSome ∧ x.high = true
    let g := (late.map fun e => e.gate).getD x.gate
    let counted := (late.map fun e => e.edges).getD x.edges
    let seated := (seatStep n m.seatClosed (afterRails n m s)).nests[n].state
    (s.nests[n].state = .opened ∨ s.nests[n].state = .draining → seated = .opened ∨ seated = .draining →
      Leaves (.gateEnd i m) s fun u =>
        u.inputs[i].gate = (if rose then ⟨1, some clock, some clock, 0, 0⟩ else Gate.clear)
          ∧ u.inputs[i].position = some 0 ∧ u.inputs[i].firstDone = true
          ∧ u.inputs[i].edges = (if rose then min 2147483647 (counted + 1) else counted)
          ∧ u.inputs[i].high = x.high ∧ u.inputs[i].mode = x.mode
          ∧ u.inputs[i].lastEdge = (late.map fun _ => ⟨clock, Gate.clear, counted⟩)
          ∧ (x.mode = .frequency → g.rising < 2 → u.inputs[i].value = none)
          ∧ (∀ f l, x.mode = .frequency → 2 ≤ g.rising → g.first = some f → g.last = some l →
              u.inputs[i].value = some ((g.rising - 1) * 1000000000 / (l - f).toNat))
          ∧ (x.mode = .duty → g.rising < 2 → u.inputs[i].value = none)
          ∧ (∀ f l, x.mode = .duty → 2 ≤ g.rising → g.first = some f → g.last = some l →
              u.inputs[i].value = some (g.highToLast * 1000 / (l - f).toNat))
          ∧ (x.mode = .edges → u.inputs[i].value = some u.inputs[i].edges)
          ∧ (x.mode = .level → 15 ≤ x.taken →
              u.inputs[i].value = some (u.inputs[i].history.sum / 16))
          ∧ (x.mode = .level → x.taken < 15 → u.inputs[i].value = x.value)
          ∧ ∃ old, u.inputs[i].history
              = old ++ [(min 30000 (max 0 (m.lines[i.val % 8]'(Nat.mod_lt _ (by decide))))).toNat])
    ∧ (s.nests[n].state = .opened ∨ s.nests[n].state = .draining → seated ≠ .opened → seated ≠ .draining →
      Leaves (.gateEnd i m) s fun u =>
        u.inputs[i].measuring = false ∧ u.inputs[i].gate = Gate.clear ∧ u.inputs[i].position = none
          ∧ u.inputs[i].value = none)

/-! ### Checks -/

/-- CHECK_ARM: the tests in order; the arming number advances, the session is recorded, and a NOW or reached TIME trigger
is taken at once. -/
def Obligations.ArmingTestsInOrderAndArms : Prop :=
  ∀ (s : State) (k : SlotId) (a : HostAccess) (c : CheckId), Commands s .checkArm k a c.val →
    let n := checkNest s c
    let armed : Check :=
      { s.checks[c] with
        state := .armed
        arming := s.checks[c].arming + 1
        session := s.nests[n].session
        trigger := none
        samples := 0
        fed := 0
        minimum := none
        maximum := none
        last := none
        due := none
        query := .none }
    Answers .checkArm k a s
      (if s.checks[c].state ≠ .idle then some .busy
        else if s.nests[n].state ≠ .opened then some .notOpen
        else if entryInRange s c = false then some .badRange
        else if hasLimits s c = true
            ∧ ¬ (∀ i < limitCount s c, limitLow s (limitIndex s c + i) ≤ limitHigh s (limitIndex s c + i)) then
          some .badLimit
        else if checkKind s c = some .operator ∧ panelNode s n = none then some .noPanel
        else none)
      fun u =>
        (checkTrigger s c ≠ some .now → timeReached s c = false →
          u.checks = s.checks.set c armed ∧ u.unposted = s.unposted ∧ u.link = s.link ∧ u.prompts = s.prompts
            ∧ NothingPosted s u)
        ∧ (checkTrigger s c = some .now ∨ timeReached s c = true →
          u.checks[c].arming = s.checks[c].arming + 1 ∧ u.checks[c].session = s.nests[n].session
            ∧ u.checks[c].trigger = some s.nests[n].clock ∧ u.checks[c].state ≠ .armed)
        ∧ u.nodes = s.nodes ∧ SamePlant s u ∧ SameStimulus s u

/-- CHECK_ARM_RUN arms every check of the run or none; CHECK_CANCEL decides an undecided check CANCELLED, withdraws its
held query and takes its prompt away, by which a context whose LOAD was held enters FREE. -/
def Obligations.RunsArmTogetherAndCancelsDecide : Prop :=
  ∀ (s : State) (k : SlotId) (a : HostAccess) (c : CheckId),
    let count := wordOperand a.data
    let n := checkNest s c
    (Commands s .checkArmRun k a c.val →
      Answers .checkArmRun k a s
        (if count = 0 ∨ 64 < count ∨ 64 < c.val + count then some .badRange
          else (runChecks c.val count).findSome? (armRefusal s))
        fun u =>
          (∀ e : CheckId, c.val ≤ e.val → e.val < c.val + count →
            u.checks[e].arming = s.checks[e].arming + 1
              ∧ u.checks[e].session = s.nests[checkNest s e].session
              ∧ (checkTrigger s e = some .now → u.checks[e].state ≠ .armed))
          ∧ (∀ e : CheckId, e.val < c.val ∨ c.val + count ≤ e.val →
            u.checks[e].arming = s.checks[e].arming ∧ u.checks[e].session = s.checks[e].session)
          ∧ u.nodes = s.nodes ∧ SamePlant s u ∧ SameStimulus s u)
    ∧ (Commands s .checkCancel k a c.val →
      Answers .checkCancel k a s
        (if s.checks[c].state = .idle ∨ s.checks[c].state = .decided then some .wrongState else none)
        fun u =>
          Decided c { verdict := .cancelled, detail := s.checks[c].state.code } s u
            ∧ u.checks[c].query ≠ .held
            ∧ (s.checks[c].state = .promptWait → ∀ x ∈ u.prompts[n].waiting, x.check ≠ c)
            ∧ (s.checks[c].state = .prompting → s.prompts[n].state = .shown → u.prompts[n].state = .clearing)
            ∧ (s.checks[c].state = .prompting → Withdrawn s.prompts[n] u.prompts[n])
            ∧ (∀ x, s.checks[c].state = .prompting → s.prompts[n].state = .loading →
                s.prompts[n].step = some (x, true) →
                ∃ v w : State, v.prompts[n] = { s.prompts[n] with waiting := v.prompts[n].waiting } ∧ Freed n v w
                  ∧ SameBlocks w u)
            ∧ u.nodes = s.nodes ∧ DrainsMayEnd s u ∧ SameStimulus s u)

/-- TIME_TRIGGER: the trigger time is recorded and the check starts as its kind says; an OPERATOR check joins the waiting
list of its nest, whose head a FREE context takes at that moment. That phase start is the start of PROMPT_WAIT too, and is
not set again at PROMPTING, is the model's reading of R97 (log 45). -/
def Obligations.TriggeredChecksStartByTheirKind : Prop :=
  ∀ (s : State) (c : CheckId), timeTriggered s c = true →
    let n := checkNest s c
    let now := s.nests[n].clock
    let x : Check := { s.checks[c] with trigger := some now }
    let s1 : State := { s with checks := s.checks.set c x }
    let p := s.prompts[n]
    Leaves (.timeTrigger c) s fun u =>
      ((checkKind s c = some .level ∨ checkKind s c = some .window ∨ checkKind s c = some .query
          ∨ (checkKind s c = some .profile ∧ markedProfile s c = false)) → settleDelay s c ≠ 0 →
        u.checks = s.checks.set c { x with state := .delaying, phase := now })
      ∧ (checkKind s c = some .signature → settleDelay s c ≠ 0 →
        u.checks = s.checks.set c
          { x with state := .delaying, phase := now, signature := signatureSeed (signatureWidth s c), fed := 0 })
      ∧ (checkKind s c = some .signature → settleDelay s c = 0 →
        u.checks = s.checks.set c
          { x with state := .sampling, phase := now, signature := signatureSeed (signatureWidth s c), fed := 0 })
      ∧ (checkKind s c = some .query → settleDelay s c = 0 →
        u.checks = s.checks.set c
            { x with
              state := .querying
              phase := now
              query := if s.link.queue.length < 16 then .issued else .held }
          ∧ u.link =
              { s.link with
                queue := if s.link.queue.length < 16 then s.link.queue ++ [queryRequest s c] else s.link.queue })
      ∧ (checkKind s c = some .level → settleDelay s c = 0 → LevelSampled c s1 u)
      ∧ (checkKind s c = some .window → settleDelay s c = 0 →
        WindowSampled c { x with state := .sampling, phase := now } s1 u)
      ∧ (checkKind s c = some .profile → markedProfile s c = false → settleDelay s c = 0 →
        ProfileSampled c { x with state := .sampling, phase := now } s1 u)
      ∧ (checkKind s c = some .profile → markedProfile s c = true →
        u.checks = s.checks.set c { x with state := .sampling, phase := now })
      ∧ (∀ j, checkKind s c = some .charge → sourceRail s c = some j →
        if s.rails[railOf n j].state = .on ∨ s.rails[railOf n j].state = .limiting then
          u.checks = s.checks.set c
            { x with state := .sampling, base := s.rails[railOf n j].charge, phase := now }
        else Decided c { verdict := .sourceFault, detail := detailRailNotOn } s1 u)
      ∧ (checkKind s c = some .operator → p.state ≠ .free →
        u.checks = s.checks.set c { x with state := .promptWait, phase := now }
          ∧ u.prompts = s.prompts.set n { p with waiting := p.waiting ++ [⟨c, x.arming, x.session⟩] }
          ∧ u.link = s.link)
      ∧ (∀ d, checkKind s c = some .operator → p.state = .free → p.waiting = [] → panelNode s n = some d →
        s.nodes[d].state = .inService → nodeKind s d = 1 →
        let next : BitVec 8 := if p.sequence = 255#8 then 1 else p.sequence + 1
        u.checks = s.checks.set c { x with state := .prompting, phase := now }
          ∧ u.prompts = s.prompts.set n
              { p with
                state := .loading
                sequence := next
                check := some ⟨c, x.arming, x.session⟩
                text := promptText s c
                answers := answerSet s c
                panel := d
                step := some (.load, decide (16 ≤ s.link.queue.length))
                withdrawn := false }
          ∧ u.link =
              { s.link with
                queue :=
                  if s.link.queue.length < 16 then
                    s.link.queue ++ [stepRequest n d next (answerSet s c) (promptText s c) .load]
                  else s.link.queue })
      ∧ (checkKind s c = some .operator → p.state = .free → p.waiting = [] →
        (∀ d : NodeId, panelNode s n = some d → s.nodes[d].state ≠ .inService ∨ nodeKind s d ≠ 1) →
        Decided c { verdict := .sourceFault, detail := detailPanelNotReady } s1 u
          ∧ u.prompts[n].state = .free ∧ u.prompts[n].sequence = p.sequence)
      ∧ u.nodes = s.nodes ∧ u.path = s.path ∧ u.mem = s.mem ∧ SamePlant s u ∧ SameStimulus s u

/-- DELAY_END: the step that ends the settle delay, by kind.
WINDOW_SAMPLE, PROFILE_SAMPLE and PENDING_SAMPLE_DUE: the due sample is taken. -/
def Obligations.DelaysEndAndDueSamplesAreTaken : Prop :=
  (∀ (s : State) (c : CheckId), delayEnded s c = true →
    let now := s.nests[checkNest s c].clock
    let x := s.checks[c]
    Leaves (.delayEnd c) s fun u =>
      (checkKind s c = some .level → LevelSampled c s u)
      ∧ (checkKind s c = some .window → WindowSampled c { x with state := .sampling, phase := now } s u)
      ∧ (checkKind s c = some .profile → ProfileSampled c { x with state := .sampling, phase := now } s u)
      ∧ (checkKind s c = some .signature →
        u.checks = s.checks.set c { x with state := .sampling, phase := now })
      ∧ (checkKind s c = some .query →
        u.checks = s.checks.set c
            { x with
              state := .querying
              phase := now
              query := if s.link.queue.length < 16 then .issued else .held }
          ∧ u.link =
              { s.link with
                queue := if s.link.queue.length < 16 then s.link.queue ++ [queryRequest s c] else s.link.queue })
      ∧ u.nodes = s.nodes ∧ u.path = s.path ∧ u.mem = s.mem ∧ SamePlant s u ∧ SameStimulus s u)
  ∧ (∀ (s : State) (c : CheckId),
    (windowSampleDue s c = true → Leaves (.windowSample c) s fun u =>
      WindowSampled c s.checks[c] s u ∧ u.nodes = s.nodes ∧ SamePlant s u ∧ SameStimulus s u)
    ∧ (profileSampleDue s c = true → Leaves (.profileSample c) s fun u =>
      ProfileSampled c s.checks[c] s u ∧ u.nodes = s.nodes ∧ SamePlant s u ∧ SameStimulus s u)
    ∧ (pendingDue s c = true → Leaves (.pendingSampleDue c) s fun u =>
      ProfileSampled c s.checks[c] s u ∧ u.nodes = s.nodes ∧ SamePlant s u ∧ SameStimulus s u))

/-- WINDOW_END: what the end of its window decides, by kind, and what that does to the checks that wait for the decision. -/
def Obligations.WindowsEndInADecision : Prop :=
  ∀ (s : State) (c : CheckId),
    let n := checkNest s c
    let x := s.checks[c]
    let w := 1000 * checkWindow s c
    let low := limitLow s (limitIndex s c)
    let high := limitHigh s (limitIndex s c)
    let judged (v : Int) : VerdictCode := if v < low then .failLow else if high < v then .failHigh else .pass
    let ends (d : Decision) : Prop := Leaves (.windowEnd c) s fun u =>
      Decided c d s u ∧ DependantsTaken c d s u ∧ u.nodes = s.nodes ∧ SamePlant s u ∧ SameStimulus s u
    (∀ lo hi, checkKind s c = some .window → x.state = .sampling → w ≤ (s.nests[n].clock - x.phase).toNat →
      windowSamples s c ≤ x.samples → x.minimum = some lo → x.maximum = some hi →
      ends { verdict := if lo < low then .failLow else if high < hi then .failHigh else .pass
             detail := x.samples, a := lo, b := hi })
    ∧ (∀ t, checkKind s c = some .profile → (x.state = .delaying ∨ x.state = .sampling) → x.trigger = some t →
      w ≤ (s.nests[n].clock - t).toNat →
      ends { verdict := .timeout, detail := x.samples, a := x.last.getD 0 })
    ∧ (∀ t j, checkKind s c = some .charge → x.state = .sampling → x.trigger = some t →
      w ≤ (s.nests[n].clock - t).toNat → sourceRail s c = some j →
      ends
        { verdict := judged ((s.rails[railOf n j].charge : Int) - x.base)
          a := (s.rails[railOf n j].charge : Int) - x.base
          b := (s.rails[railOf n j].history.sum / 64 : Nat) })
    ∧ (checkKind s c = some .signature → x.state = .sampling → w ≤ (s.nests[n].clock - x.phase).toNat →
      ends
        { verdict :=
            if x.fed = 0 then .noData else if x.signature = expectedSignature s c then .pass else .mismatch
          a := x.signature.toNat
          b := x.fed })
    ∧ (∀ t, checkKind s c = some .query → (x.state = .delaying ∨ x.state = .querying) → x.trigger = some t →
      w ≤ (s.nests[n].clock - t).toNat → ends { verdict := .timeout })

/-- VERDICT_TAKEN and BLOCK_ITEM_TAKEN: the waiting verdict, and the waiting block item before the reply to its host, enter
the post FIFO when there is room. -/
def Obligations.FifoTakesWhatWaitsForIt : Prop :=
  (∀ (s : State) (c : CheckId) (rest : List CheckId) (v : Verdict), s.unposted = c :: rest →
    s.checks[c].held = some v →
    exec .verdictTaken s = .next
      (if s.checks[c].state = .decided ∧ s.post.fifo.length < 32 ∧ 1 ≤ verdictRoom s then
        { s with
          post := { s.post with
            fifo := s.post.fifo ++ [.verdict s.post.verdictReserve v.words]
            verdictReserve := s.post.verdictReserve + 1 }
          checks := s.checks.set c { s.checks[c] with state := .idle, held := none }
          unposted := rest }
      else s))
  ∧ ∀ (s : State) (b : BlockItem) (t : Transaction) (ring : BitVec 4) (buffer : Word) (tag : BitVec 16),
      s.link.block = some b → s.link.flight = some t → s.post.fifo.length < 32 → t.request.kind = .getBlock →
      t.request.requester = .host ring buffer tag →
      Leaves .blockItemTaken s fun u =>
        ∃ v : State,
          v = { s with
            post := { s.post with fifo := s.post.fifo ++ [.block b.buffer b.words] }
            link := { s.link with block := none } }
          ∧ Posted (evLinkReply (replyNest s t.request.node.val) t.request.node.val 5 ring tag
              (if t.flushed then .flushed else .ok) 0) v u
          ∧ u.link = { s.link with block := none, flight := none }
          ∧ u.nodes = s.nodes ∧ u.checks = s.checks ∧ u.prompts = s.prompts ∧ SamePlant s u ∧ SameStimulus s u

/-! ### The fixture link -/

/-- NODE_ENABLE, NODE_RESTORE and NODE_DISABLE: the tests in order; the node's record, its initial poll, the count of
nodes out of service, and the change handed on: the interlock of the nests that name the node, with the trip of an OPEN
nest, and PANEL_LOST of a prompt that it shows. That PANEL_LOST looks at the panel node of the nest record is the model's
reading (log 34); the order of the two nests is its choice (log 46). -/
def Obligations.NodesAreEnabledRestoredAndDisabled : Prop :=
  ∀ (s : State) (k : SlotId) (a : HostAccess) (d : NodeId),
    let x := s.nodes[d]
    let served : Node :=
      { x with
        state := .inService
        status := none
        servicePending := true
        pollHeld := if s.link.queue.length < 16 then x.pollHeld else true }
    (Commands s .nodeEnable k a d.val →
      Answers .nodeEnable k a s
        (if x.state ≠ .disabled then some .wrongState
          else if setBits (addressCode s d) ≠ 2 then some .badCode
          else if ∃ e : NodeId, e ≠ d ∧ s.nodes[e].state ≠ .disabled ∧ addressCode s e = addressCode s d then
            some .duplicateCode
          else if 3 < nodeKind s d ∨ 2 < nodeBinding s d then some .badRange
          else none)
        fun u =>
          u.nodes = s.nodes.set d served
            ∧ (s.link.queue.length < 16 → servicePoll d ∈ u.link.queue)
            ∧ u.link.outOfService = s.link.outOfService
            ∧ (∀ n : NestId, interlockNode s n = some d → u.nests[n].interlock = .unsatisfied)
            ∧ (∀ n : NestId, interlockNode s n ≠ some d → u.nests[n] = s.nests[n])
            ∧ u.supplies = s.supplies ∧ u.inputs = s.inputs ∧ u.capture = s.capture)
    ∧ (Commands s .nodeRestore k a d.val →
      Answers .nodeRestore k a s (if x.state ≠ .outOfService then some .wrongState else none)
        fun u =>
          u.nodes = s.nodes.set d served
            ∧ (s.link.queue.length < 16 → servicePoll d ∈ u.link.queue)
            ∧ u.link.outOfService = s.link.outOfService - 1 ∧ u.post.outOfService = s.link.outOfService - 1
            ∧ (∀ n : NestId, interlockNode s n = some d → u.nests[n].interlock = .unsatisfied)
            ∧ (∀ n : NestId, interlockNode s n ≠ some d → u.nests[n] = s.nests[n])
            ∧ u.supplies = s.supplies ∧ u.inputs = s.inputs ∧ u.capture = s.capture)
    ∧ (Commands s .nodeDisable k a d.val →
      Answers .nodeDisable k a s
        (if s.link.flight.any (fun t => t.request.node == d) then some .busy else none)
        fun u =>
          (x.state = .disabled → u.nodes = s.nodes ∧ u.link = s.link ∧ SamePlant s u ∧ SameStimulus s u
            ∧ SameChecks s u ∧ NothingPosted s u)
          ∧ (x.state ≠ .disabled →
            u.nodes = s.nodes.set d { x with state := .disabled, servicePending := false, pollHeld := false }
              ∧ u.link.outOfService =
                  (if x.state = .outOfService then s.link.outOfService - 1 else s.link.outOfService)
              ∧ HandedOn d .disabled { s with nodes := u.nodes } u
              ∧ u.supplies = s.supplies ∧ u.capture = s.capture))

/-- LINK_PAUSE and LINK_RESUME are accepted in every state and set the pause flag; a change is offered to the summary
place; nothing else changes. -/
def Obligations.PauseAndResumeSetTheFlag : Prop :=
  ∀ pause : Bool, ∀ (s : State) (k : SlotId) (a : HostAccess),
    grantedAction s (if pause then .linkPause else .linkResume) = some (k, a) →
    Answers (if pause then .linkPause else .linkResume) k a s none fun u =>
      u.link = { s.link with paused := pause }
        ∧ (s.link.paused ≠ pause → u.post.paused = pause ∧ (Place.summary, ([] : List Word)) ∈ u.post.places)
        ∧ u.nodes = s.nodes ∧ u.checks = s.checks ∧ u.prompts = s.prompts ∧ u.unposted = s.unposted
        ∧ SamePlant s u ∧ SameStimulus s u ∧ NothingPosted s u

/-- SERVICE_REQUEST: the line is seen; a rising edge of a node that is ready for it sets service pending and offers one
service poll, and any other edge is ignored. -/
def Obligations.RisingServiceRequestOffersOnePoll : Prop :=
  ∀ (s : State) (d : NodeId) (level : Bool), s.nodes[d].lineSeen ≠ level →
    let x := { s.nodes[d] with lineSeen := level }
    let ready := level = true ∧ x.state = .inService ∧ serviceMasked s d = false ∧ x.servicePending = false
    Leaves (.serviceRequest d level) s fun u =>
      (¬ ready → u = { s with nodes := s.nodes.set d x })
      ∧ (ready → s.link.queue.length < 16 →
        u = { s with
          nodes := s.nodes.set d { x with servicePending := true }
          link := { s.link with queue := enqueue (servicePoll d) s.link.queue } })
      ∧ (ready → 16 ≤ s.link.queue.length →
        u = { s with nodes := s.nodes.set d { x with servicePending := true, pollHeld := true } })

/-- TRANSACTION_START: the place of the head frees and is given to held requests first; then the head becomes the
transaction in flight, or is answered NOT_IN_SERVICE. -/
def Obligations.HeadOfTheQueueStartsOrIsAnswered : Prop :=
  ∀ (s : State) (q : Request) (rest : List Request), s.link.queue = q :: rest → s.link.flight = none →
    s.link.block = none → s.link.paused = false →
    let words : List Word :=
      match q.kind, q.requester with
      | .put, _ | .doCommand, _ => [q.data]
      | .putBlock, .prompt _ _ _ text => promptWords s text
      | _, _ => []
    let reads := q.kind = .putBlock ∧ ∃ ring buffer tag, q.requester = .host ring buffer tag
    ∃ v : State, HeldGiven { s with link := { s.link with queue := rest } } v
      ∧ (∀ d : NodeId, v.nodes[d].state = s.nodes[d].state) ∧ SamePlant s v ∧ SameStimulus s v
      ∧ NothingPosted s v ∧ v.path = s.path ∧ v.mem = s.mem
      ∧ (s.nodes[q.node].state = .inService → reads →
        exec .transactionStart s = .next (settle { v with link := { v.link with
          flight := some ⟨q, false, .reading, none, words, [], 0, false⟩ } }))
      ∧ (s.nodes[q.node].state = .inService → ¬ reads →
        exec .transactionStart s = .next (settle { v with link := { v.link with
          flight := some ⟨q, false, .sending, none, words, requestFrame (addressCode s q.node) q words, 0, false⟩ } }))
      ∧ (s.nodes[q.node].state ≠ .inService →
        Leaves .transactionStart s fun u =>
          (∀ ring buffer tag, q.requester = .host ring buffer tag →
            Posted (evLinkReply (replyNest s q.node.val) q.node.val q.kind.code ring tag .notInService 0) v u
              ∧ u.link = v.link ∧ u.nodes = v.nodes ∧ u.checks = v.checks)
          ∧ (q.requester = .service →
            u = { v with nodes := v.nodes.set q.node { v.nodes[q.node] with servicePending := false } })
          ∧ (∀ c arming session, q.requester = .check c arming session → s.checks[c].state = .querying →
            s.checks[c].arming = arming → s.checks[c].session = session →
            Decided c { verdict := .sourceFault, detail := detailLink .notInService } s u)
          ∧ (∀ n sequence k text, q.requester = .prompt n sequence k text →
            StepAnswered n sequence k .notInService v u))

/-- BLOCK_SOURCE_READ gathers four words of the buffer and builds the frame with the sixteenth; REQUEST_FRAME_END and
REPLY_OPENER_BEGINS move the transaction on. -/
def Obligations.TransactionsAdvanceThroughTheirPhases : Prop :=
  (∀ (s : State) (t : Transaction) (ring : BitVec 4) (buffer : Word) (tag : BitVec 16),
    grant s = some .blockRead → s.link.flight = some t → t.request.requester = .host ring buffer tag →
    let w := buffer.toNat / 4 + t.words.length
    let words := t.words ++ [readWord s.mem w, readWord s.mem (w + 1), readWord s.mem (w + 2), readWord s.mem (w + 3)]
    let after : Transaction :=
      if words.length < 16 then { t with words := words }
      else
        { t with
          words := words
          phase := .sending
          frame := requestFrame (addressCode s t.request.node) t.request words }
    exec .blockSourceRead s
      = .next { s with path := { s.path with backTurn := 8 }, link := { s.link with flight := some after } })
  ∧ (∀ (s : State) (t : Transaction), s.link.flight = some t → t.phase = .sending →
    exec .requestFrameEnd s
      = .next { s with link := { s.link with flight := some { t with phase := .awaiting, wait := 0 } } })
  ∧ ∀ (s : State) (t : Transaction), s.link.flight = some t → t.phase = .awaiting → t.wait < 100 →
    exec .replyOpenerBegins s
      = .next { s with link := { s.link with flight := some { t with phase := .receiving } } }

/-- R123: the request frame: opener pair, address, register (0 for a POLL) with odd parity, and the words with their
nibble checks. That the idle bit after a word is written 0 is the model's choice (log 42).
R124: how a reply is judged, the error named being the first in the order of the reply (log 25, the model's
reading). -/
def Obligations.FramesAndRepliesFollowTheLinkFormat : Prop :=
  (∀ (address : BitVec 6) (q : Request) (words : List Word),
    let register : BitVec 8 := if q.kind = .poll then 0 else q.register
    (requestFrame address q words).length = 23 + 37 * words.length
    ∧ (∀ i : Fin 8, (requestFrame address q words)[i.val]? = some ((requestOpener q.kind).getLsbD (7 - i.val)))
    ∧ (∀ i : Fin 6, (requestFrame address q words)[8 + i.val]? = some (address.getLsbD (5 - i.val)))
    ∧ (∀ i : Fin 8, (requestFrame address q words)[14 + i.val]? = some (register.getLsbD (7 - i.val)))
    ∧ (requestFrame address q words)[22]? = some (parityBit register)
    ∧ (∀ (j : Nat) (h : j < words.length) (i : Fin 32),
        (requestFrame address q words)[23 + 37 * j + i.val]? = some (words[j].getLsbD (31 - i.val)))
    ∧ ∀ (j : Nat) (h : j < words.length) (i : Fin 4),
        (requestFrame address q words)[55 + 37 * j + i.val]? = some ((nibbleCheck words[j]).getLsbD (3 - i.val)))
  ∧ (∀ (address : BitVec 6) (kind : LinkKind) (r : LinkReply),
    (r.opener = none → judgeReply address kind r = .error .gap)
    ∧ (r.opener = some 0xC5#8 → judgeReply address kind r = .error .garbled)
    ∧ (∀ o, r.opener = some o → o ≠ 0xCA#8 → o ≠ 0xC9#8 → o ≠ 0xC6#8 → o ≠ 0xC5#8 →
        judgeReply address kind r = .error .badOpener)
    ∧ ((r.opener = some 0xCA#8 ∨ r.opener = some 0xC9#8 ∨ r.opener = some 0xC6#8) →
        (r.echo = none → judgeReply address kind r = .error .gap)
        ∧ (∀ e, r.echo = some e → e ≠ address → judgeReply address kind r = .error .addressMismatch))
    ∧ ((r.opener = some 0xC9#8 ∨ r.opener = some 0xC6#8) → r.echo = some address → r.words = [] → r.further = false →
        judgeReply address kind r = .answer (if r.opener = some 0xC9#8 then .nodeError else .refused) [])
    ∧ (r.opener = some 0xCA#8 → r.echo = some address →
        ((∀ p ∈ r.words, nibbleCheck p.1 = p.2) →
          (r.words.length = wordsOwed kind → r.further = false →
            judgeReply address kind r = .answer .ok (r.words.map Prod.fst))
          ∧ (r.words.length < wordsOwed kind → judgeReply address kind r = .error .gap)
          ∧ (r.words.length = wordsOwed kind → r.further = true → judgeReply address kind r = .error .wordCount)
          ∧ (wordsOwed kind < r.words.length → judgeReply address kind r = .error .wordCount))
        ∧ (∀ (p : Word × BitVec 4) (before after : List (Word × BitVec 4)), r.words = before ++ p :: after →
            (∀ b ∈ before, nibbleCheck b.1 = b.2) → nibbleCheck p.1 ≠ p.2 → before.length < wordsOwed kind →
            judgeReply address kind r = .error .nibbleCheck)))

/-- NO_REPLY and LINK_ERROR: after the first attempt the request is sent again; after the second the node is lost,
NODE_LOST is posted with both errors and the register field sent (log 48, the model's reading), the requester is answered
and the change is handed on, nest A first (log 46, the model's choice). -/
def Obligations.LinkErrorsRetryAndThenLoseTheNode : Prop :=
  ∀ (s : State) (t : Transaction) (c : Instr) (e : LinkError), s.link.flight = some t →
    (c = .noReply ∧ t.phase = .awaiting ∧ 100 ≤ t.wait ∧ e = .noReply)
      ∨ (∃ r, c = .linkError r ∧ t.phase = .receiving
          ∧ judgeReply (addressCode s t.request.node) t.request.kind r = .error e) →
    let d := t.request.node
    let register : BitVec 8 := if t.request.kind = .poll then 0 else t.request.register
    (t.second = false →
      exec c s = .next (settle { s with link := { s.link with
        flight := some { t with second := true, phase := .sending, firstError := some e, wait := 0 } } }))
    ∧ (t.second = true →
      ∃ v : State, exec c s = .next (settle { handOn d (answerFlight t .nodeLost 0 v) with
          link := { (handOn d (answerFlight t .nodeLost 0 v)).link with flight := none } })
        ∧ v.nodes = s.nodes.set d
            { s.nodes[d] with state := .outOfService, servicePending := false, pollHeld := false }
        ∧ v.link = { s.link with outOfService := s.link.outOfService + 1 }
        ∧ v.post.outOfService = s.link.outOfService + 1
        ∧ Posted (evNodeLost (boundNest s d) d (addressCode s d) t.request register (t.firstError.getD e) e) s v
        ∧ v.checks = s.checks ∧ v.unposted = s.unposted ∧ v.prompts = s.prompts ∧ v.path = s.path ∧ v.mem = s.mem
        ∧ SamePlant s v ∧ SameStimulus s v
        ∧ FlightAnswered t .nodeLost v (answerFlight t .nodeLost 0 v)
        ∧ HandedOn d .outOfService (answerFlight t .nodeLost 0 v) (handOn d (answerFlight t .nodeLost 0 v)))

/-- LINK_REPLY_COMPLETE: a host is answered with the code and the word owed; a status word is kept, evaluated for the
interlock, reported as SERVICE and taken as a panel answer; a service poll clears its node's service pending; a block waits
for the post FIFO; a query is decided; a step result moves its prompt. -/
def Obligations.RepliesReachTheirRequester : Prop :=
  ∀ (s : State) (t : Transaction) (r : LinkReply) (c : ReplyCode) (words : List Word), s.link.flight = some t →
    t.phase = .receiving → judgeReply (addressCode s t.request.node) t.request.kind r = .answer c words →
    let d := t.request.node
    (∀ ring buffer tag, t.request.requester = .host ring buffer tag → t.request.kind ≠ .poll →
      (t.request.kind = .getBlock → c ≠ .ok) →
      Leaves (.linkReplyComplete r) s fun u =>
        Posted (evLinkReply (replyNest s d.val) d.val t.request.kind.code ring tag
            (if t.flushed then .flushed else c.result)
            (if t.flushed = false ∧ c = .ok ∧ t.request.kind = .get then words.headD 0 else 0)) s u
          ∧ u.link = { s.link with flight := none } ∧ u.nodes = s.nodes ∧ u.checks = s.checks
          ∧ u.prompts = s.prompts ∧ SamePlant s u ∧ SameStimulus s u)
    ∧ (t.request.kind = .poll → c = .ok →
      Leaves (.linkReplyComplete r) s fun u =>
        u.nodes[d].status = some (words.headD 0) ∧ u.nodes[d].state = s.nodes[d].state
          ∧ (t.request.requester = .service → u.nodes[d].servicePending = false)
          ∧ u.link.flight = none
          ∧ (∀ ring buffer tag, t.request.requester = .host ring buffer tag →
            Reported (evLinkReply (replyNest s d.val) d.val 3 ring tag (if t.flushed then .flushed else .ok)
              (if t.flushed then 0 else words.headD 0)) s u)
          ∧ (t.request.requester = .service → reportService s d = true →
            Reported (evService (boundNest s d) d (nodeKind s d) (words.headD 0)) s u)
          ∧ (t.request.requester = .service ∨ (∃ ring buffer tag, t.request.requester = .host ring buffer tag) →
            StatusTaken d (words.headD 0) s u))
    ∧ (t.request.kind = .poll → c ≠ .ok → t.request.requester = .service →
      exec (.linkReplyComplete r) s = .next (settle
        { s with
          link := { s.link with flight := none }
          nodes := s.nodes.set d { s.nodes[d] with servicePending := false } }))
    ∧ (∀ ring buffer tag, t.request.requester = .host ring buffer tag → t.request.kind = .getBlock → c = .ok →
      32 ≤ s.post.fifo.length →
      exec (.linkReplyComplete r) s = .next (settle { s with link := { s.link with
        block := some ⟨words, buffer, t.request⟩, flight := some { t with phase := .handingOff } } }))
    ∧ (∀ ring buffer tag, t.request.requester = .host ring buffer tag → t.request.kind = .getBlock → c = .ok →
      s.post.fifo.length < 32 →
      Leaves (.linkReplyComplete r) s fun u =>
        ∃ v : State, v = { s with post := { s.post with fifo := s.post.fifo ++ [.block buffer words] } }
          ∧ Posted (evLinkReply (replyNest s d.val) d.val 5 ring tag (if t.flushed then .flushed else .ok) 0) v u
          ∧ u.link = { s.link with block := none, flight := none }
          ∧ u.nodes = s.nodes ∧ u.checks = s.checks ∧ u.prompts = s.prompts ∧ SamePlant s u ∧ SameStimulus s u)
    ∧ (∀ k arming session, t.request.requester = .check k arming session → t.request.kind = .get →
      t.flushed = false → s.checks[k].state = .querying → s.checks[k].arming = arming →
      s.checks[k].session = session →
      Leaves (.linkReplyComplete r) s fun u =>
        Decided k
          (if c = .ok then
            { verdict := judge (words.headD 0).toInt (limitLow s (limitIndex s k)) (limitHigh s (limitIndex s k))
              a := (words.headD 0).toInt }
          else { verdict := .sourceFault, detail := 16 + c.result.code }) s u
        ∧ u.link.flight = none)
    ∧ (∀ n sequence k text, t.request.requester = .prompt n sequence k text →
      (t.request.kind = .putBlock ∨ t.request.kind = .doCommand) →
      ∃ v, exec (.linkReplyComplete r) s = .next (settle { v with link := { v.link with flight := none } })
        ∧ (t.flushed = true → v = s) ∧ (t.flushed = false → StepAnswered n sequence k c.result s v))

/-- HELD_REQUEST_TAKEN: a free place takes a held poll, then a held prompt step, then a held query. REQUEST_RECORD_TAKEN:
the record at the consumer joins the queue or is answered, and the consumer advances. -/
def Obligations.QueueTakesHeldRequestsAndRecords : Prop :=
  (∀ s : State, s.link.queue.length < 16 →
    (∀ d : NodeId, s.nodes[d].pollHeld = true → (∀ e : NodeId, e < d → s.nodes[e].pollHeld = false) →
      exec .heldRequestTaken s = .next (settle { s with
        link := { s.link with queue := enqueue (servicePoll d) s.link.queue }
        nodes := s.nodes.set d { s.nodes[d] with pollHeld := false } }))
    ∧ ((∀ d : NodeId, s.nodes[d].pollHeld = false) → ∀ (n : NestId) (d : NodeId) (q : BitVec 8),
      (∀ j : NestId, j < n → s.prompts[j].restartClear = none ∧ ∀ x, s.prompts[j].step ≠ some (x, true)) →
      s.prompts[n].restartClear = some (d, q) →
      exec .heldRequestTaken s = .next (settle { s with
        link := { s.link with queue := s.link.queue ++ [stepRequest n d q 0 0 .clear] }
        prompts := s.prompts.set n { s.prompts[n] with restartClear := none } }))
    ∧ ((∀ d : NodeId, s.nodes[d].pollHeld = false) → ∀ (n : NestId) (k : PromptStep),
      (∀ j : NestId, j < n → s.prompts[j].restartClear = none ∧ ∀ x, s.prompts[j].step ≠ some (x, true)) →
      s.prompts[n].restartClear = none → s.prompts[n].step = some (k, true) →
      exec .heldRequestTaken s = .next (settle { s with
        link := { s.link with queue := s.link.queue ++ [contextRequest s n k] }
        prompts := s.prompts.set n { s.prompts[n] with step := some (k, false) } }))
    ∧ ((∀ d : NodeId, s.nodes[d].pollHeld = false) →
      (∀ n : NestId, s.prompts[n].restartClear = none ∧ ∀ x, s.prompts[n].step ≠ some (x, true)) →
      ∀ c : CheckId, s.checks[c].query = .held → (∀ e : CheckId, e < c → s.checks[e].query ≠ .held) →
      exec .heldRequestTaken s = .next (settle { s with
        link := { s.link with queue := s.link.queue ++ [queryRequest s c] }
        checks := s.checks.set c { s.checks[c] with query := .issued } })))
  ∧ ∀ s : State, s.link.consumer ≠ (requestProducer s).setWidth 4 → s.link.queue.length + 5 ≤ 16 →
      let q := s.link.consumer
      Leaves .requestRecordTaken s fun u =>
        u.link.consumer = q + 1
          ∧ (Place.requestConsumer, [pack [put 0 4 (q + 1).toNat]]) ∈ u.post.places
          ∧ (let buffer := (ringWord s q 2).toNat
            let block := 16384 * s.path.base.toNat
            let placed := buffer % 4 = 0 ∧ buffer + 64 ≤ 16777216 ∧ (buffer + 64 ≤ block ∨ block + 16384 ≤ buffer)
            let blockKind := ringKind s q = some .putBlock ∨ ringKind s q = some .getBlock
            (ringKind s q = none ∨ 15 ≤ ringNode s q → ringRequest s q = .error .badRequest)
            ∧ (ringKind s q ≠ none → ringNode s q < 15 → blockKind → ¬ placed → ringRequest s q = .error .badAddress)
            ∧ (ringKind s q ≠ none → ringNode s q < 15 → (blockKind → placed) → ∃ x, ringRequest s q = .ok x))
          ∧ (∀ x, ringRequest s q = .ok x →
            u.link.queue = s.link.queue ++ [x] ∧ x.requester = .host q (ringWord s q 2) (ringTag s q)
              ∧ ringKind s q = some x.kind ∧ x.node.val = ringNode s q ∧ x.register = ringRegister s q
              ∧ x.data = ringWord s q 1 ∧ NothingPosted s u)
          ∧ (∀ res, ringRequest s q = .error res →
            u.link.queue = s.link.queue
              ∧ Posted (evLinkReply (replyNest s (ringNode s q)) (ringNode s q) (fld (ringWord s q 0) 0 3) q
                  (ringTag s q) res 0) s u)
          ∧ u.nodes = s.nodes ∧ u.checks = s.checks ∧ u.prompts = s.prompts ∧ SamePlant s u ∧ SameStimulus s u

/-! ### Prompts and RESTART -/

/-- TAKE_PROMPT: a FREE context takes the head of its list, whose panel is ready, with the next sequence and the LOAD
step, and the check that waits in this arming is PROMPTING; otherwise the check is decided. PROMPT_TIMEOUT: the check is
decided TIMEOUT and the panel is cleared. That both rows find work only where their condition holds is the model's choice
(log 2); that PROMPTING keeps the phase start of PROMPT_WAIT is its reading of R97 (log 45). -/
def Obligations.PromptsAreTakenAndTimeOut : Prop :=
  (∀ (s : State) (n : NestId) (x : Arming) (rest : List Arming), s.prompts[n].state = .free →
    s.prompts[n].waiting = x :: rest →
    (∀ d : NodeId, panelNode s n = some d → s.nodes[d].state = .inService → nodeKind s d = 1 →
      let next : BitVec 8 := if s.prompts[n].sequence = 255#8 then 1 else s.prompts[n].sequence + 1
      Leaves (.takePrompt n) s fun u =>
        u.prompts = s.prompts.set n
            { s.prompts[n] with
              state := .loading
              sequence := next
              check := some x
              text := promptText s x.check
              answers := answerSet s x.check
              panel := d
              step := some (.load, decide (16 ≤ s.link.queue.length))
              withdrawn := false
              waiting := rest }
          ∧ u.checks = s.checks.set x.check
              (if s.checks[x.check].state = .promptWait ∧ s.checks[x.check].arming = x.arming
                  ∧ s.checks[x.check].session = x.session then
                { s.checks[x.check] with state := .prompting }
              else s.checks[x.check])
          ∧ u.link =
              { s.link with
                queue :=
                  if s.link.queue.length < 16 then
                    s.link.queue ++ [stepRequest n d next (answerSet s x.check) (promptText s x.check) .load]
                  else s.link.queue }
          ∧ u.nodes = s.nodes ∧ SamePlant s u ∧ SameStimulus s u ∧ NothingPosted s u)
    ∧ ((∀ d : NodeId, panelNode s n = some d → s.nodes[d].state ≠ .inService ∨ nodeKind s d ≠ 1) →
      (s.checks[x.check].state = .promptWait ∨ s.checks[x.check].state = .prompting) →
      s.checks[x.check].arming = x.arming → s.checks[x.check].session = x.session →
      Leaves (.takePrompt n) s fun u =>
        Decided x.check { verdict := .sourceFault, detail := detailPanelNotReady } s u
          ∧ u.prompts[n].state = .free ∧ u.prompts[n].sequence = s.prompts[n].sequence
          ∧ u.nodes = s.nodes ∧ SamePlant s u ∧ SameStimulus s u))
  ∧ ∀ (s : State) (n : NestId) (x : Arming) (t : Nat), s.prompts[n].state = .shown → s.prompts[n].check = some x →
      s.prompts[n].timer = some t → 100000 * checkWindow s x.check ≤ t →
      (s.checks[x.check].state = .promptWait ∨ s.checks[x.check].state = .prompting) →
      s.checks[x.check].arming = x.arming → s.checks[x.check].session = x.session →
      Leaves (.promptTimeout n) s fun u =>
        Decided x.check { verdict := .timeout, a := s.prompts[n].sequence.toNat } s u
          ∧ u.prompts[n].state = .clearing ∧ u.prompts[n].timer = none
          ∧ (∃ held, u.prompts[n].step = some (.clear, held))
          ∧ u.nodes = s.nodes ∧ SamePlant s u ∧ SameStimulus s u

/-- RESTART brings nests, tracks, outputs, ports, undecided checks, the link queue and prompts to rest and posts RESTARTED
behind what it posted before; the service polls are offered again, then the CLEAR steps of contexts that may show; shadow,
sessions, seats, node states, the pause flag and the capture slots are kept. That the polls stand before any held step is
taken (log 27), that a poll is offered again and service pending set for a node that is out of service too (log 47), and
the order of the nests where the spec gives none (log 46), are the model's choices. -/
def Obligations.RestartBringsThePartToRest : Prop :=
  ∀ (s : State) (k : SlotId) (a : HostAccess), grantedAction s .restart = some (k, a) →
    Answers .restart k a s none fun u =>
      (∀ n : NestId, u.nests[n] =
          if s.nests[n].state = .opened ∨ s.nests[n].state = .draining then
            { s.nests[n] with state := .idle, cause := .restart, trip := false, snapTimer := none }
          else s.nests[n])
        ∧ (∀ r : RailId, u.rails[r] =
            if s.nests[nestOfRail r].state = .opened ∨ s.nests[nestOfRail r].state = .draining then
              forcedRail .restart s.rails[r]
            else s.rails[r])
        ∧ (∀ t : TrackId, u.tracks[t].state = .idle
            ∧ (s.tracks[t].state ≠ .idle → u.tracks[t].cause = .none ∧ u.tracks[t].held = []))
        ∧ (∀ n : NestId, u.outputs[n] = Outputs.idle)
        ∧ (∀ p : NestId, u.ports[p].state = .off
            ∧ (s.ports[p].state ≠ .off → u.ports[p].queue = [] ∧ u.ports[p].inFlight = none ∧ u.ports[p].stall = []))
        ∧ (∀ c : CheckId, u.checks[c] =
            if s.checks[c].state.undecided then
              { s.checks[c] with
                state := .idle
                due := none
                query := if s.checks[c].query = .held then .none else s.checks[c].query }
            else s.checks[c])
        ∧ (∀ n : NestId, u.prompts[n].state = .free ∧ u.prompts[n].waiting = [] ∧ u.prompts[n].check = none
            ∧ u.prompts[n].sequence = s.prompts[n].sequence ∧ u.prompts[n].answered = s.prompts[n].answered)
        ∧ (let again := allNodes.filter fun d => s.nodes[d].pollHeld || s.link.queue.any fun q => q == servicePoll d
          let shows (n : NestId) : Bool := s.prompts[n].state.noted
          let clear (n : NestId) : Request :=
            stepRequest n s.prompts[n].panel s.prompts[n].sequence s.prompts[n].answers s.prompts[n].text .clear
          (∀ d : NodeId, u.nodes[d].servicePending = if d ∈ again then true else s.nodes[d].servicePending)
          ∧ u.link.queue = (again.map servicePoll ++ (allNests.filter shows).map clear).take 16
          ∧ ∀ n : NestId, u.prompts[n].restartClear =
              if shows n = true ∧ 16 ≤ again.length + ((allNests.filter shows).filter fun j => decide (j < n)).length then
                some (s.prompts[n].panel, s.prompts[n].sequence)
              else s.prompts[n].restartClear)
        ∧ (∀ d : NodeId, u.nodes[d].state = s.nodes[d].state ∧ u.nodes[d].status = s.nodes[d].status
            ∧ u.nodes[d].lineSeen = s.nodes[d].lineSeen ∧ u.nodes[d].pollHeld = false)
        ∧ u.link.flight = s.link.flight.map (fun t => { t with flushed := true })
        ∧ u.link.paused = s.link.paused ∧ u.link.outOfService = s.link.outOfService
        ∧ u.link.consumer = s.link.consumer
        ∧ (∃ v : State, v.nests = u.nests ∧ v.rails = u.rails ∧ v.link = u.link ∧ v.prompts = u.prompts
            ∧ v.path.shadow = u.path.shadow ∧ s.post.fifo <+: v.post.fifo
            ∧ (s.post.lost ≤ v.post.lost ∨ v.post.lost = 4294967295)
            ∧ Posted evRestarted v u)
        ∧ u.path.shadow = s.path.shadow ∧ u.path.base = s.path.base ∧ u.path.guards = s.path.guards
        ∧ u.capture = s.capture ∧ u.supplies = s.supplies ∧ u.unposted = s.unposted
end

