-- ==== Sys2Proof/Laws/State.lean ====
section
/-!
SUPPORT. One lemma for each field after each update of State, and the parts of State that groups of operations keep.
-/
namespace Sys2Proof.Machine

section
variable (s : State) (m : List Host.Cell)
@[simp] theorem setMem_pending : (s.setMem m).pending = s.pending := rfl
@[simp] theorem setMem_mem : (s.setMem m).mem = m := rfl
@[simp] theorem setMem_nests : (s.setMem m).nests = s.nests := rfl
@[simp] theorem setMem_supplies : (s.setMem m).supplies = s.supplies := rfl
@[simp] theorem setMem_rails : (s.setMem m).rails = s.rails := rfl
@[simp] theorem setMem_tracks : (s.setMem m).tracks = s.tracks := rfl
@[simp] theorem setMem_outputs : (s.setMem m).outputs = s.outputs := rfl
@[simp] theorem setMem_claims : (s.setMem m).claims = s.claims := rfl
@[simp] theorem setMem_frameHolders : (s.setMem m).frameHolders = s.frameHolders := rfl
@[simp] theorem setMem_ports : (s.setMem m).ports = s.ports := rfl
@[simp] theorem setMem_capture : (s.setMem m).capture = s.capture := rfl
@[simp] theorem setMem_inputs : (s.setMem m).inputs = s.inputs := rfl
@[simp] theorem setMem_checks : (s.setMem m).checks = s.checks := rfl
@[simp] theorem setMem_unposted : (s.setMem m).unposted = s.unposted := rfl
@[simp] theorem setMem_nodes : (s.setMem m).nodes = s.nodes := rfl
@[simp] theorem setMem_link : (s.setMem m).link = s.link := rfl
@[simp] theorem setMem_prompts : (s.setMem m).prompts = s.prompts := rfl
@[simp] theorem setMem_path : (s.setMem m).path = s.path := rfl
@[simp] theorem setMem_post : (s.setMem m).post = s.post := rfl
end

section
variable (s : State) (n : NestId) (f : Nest → Nest)
@[simp] theorem modNest_pending : (s.modNest n f).pending = s.pending := rfl
@[simp] theorem modNest_mem : (s.modNest n f).mem = s.mem := rfl
@[simp] theorem modNest_nests : (s.modNest n f).nests = s.nests.set n (f s.nests[n]) := rfl
@[simp] theorem modNest_supplies : (s.modNest n f).supplies = s.supplies := rfl
@[simp] theorem modNest_rails : (s.modNest n f).rails = s.rails := rfl
@[simp] theorem modNest_tracks : (s.modNest n f).tracks = s.tracks := rfl
@[simp] theorem modNest_outputs : (s.modNest n f).outputs = s.outputs := rfl
@[simp] theorem modNest_claims : (s.modNest n f).claims = s.claims := rfl
@[simp] theorem modNest_frameHolders : (s.modNest n f).frameHolders = s.frameHolders := rfl
@[simp] theorem modNest_ports : (s.modNest n f).ports = s.ports := rfl
@[simp] theorem modNest_capture : (s.modNest n f).capture = s.capture := rfl
@[simp] theorem modNest_inputs : (s.modNest n f).inputs = s.inputs := rfl
@[simp] theorem modNest_checks : (s.modNest n f).checks = s.checks := rfl
@[simp] theorem modNest_unposted : (s.modNest n f).unposted = s.unposted := rfl
@[simp] theorem modNest_nodes : (s.modNest n f).nodes = s.nodes := rfl
@[simp] theorem modNest_link : (s.modNest n f).link = s.link := rfl
@[simp] theorem modNest_prompts : (s.modNest n f).prompts = s.prompts := rfl
@[simp] theorem modNest_path : (s.modNest n f).path = s.path := rfl
@[simp] theorem modNest_post : (s.modNest n f).post = s.post := rfl
end

section
variable (s : State) (n : NestId) (f : Supply → Supply)
@[simp] theorem modSupply_pending : (s.modSupply n f).pending = s.pending := rfl
@[simp] theorem modSupply_mem : (s.modSupply n f).mem = s.mem := rfl
@[simp] theorem modSupply_nests : (s.modSupply n f).nests = s.nests := rfl
@[simp] theorem modSupply_supplies : (s.modSupply n f).supplies = s.supplies.set n (f s.supplies[n]) := rfl
@[simp] theorem modSupply_rails : (s.modSupply n f).rails = s.rails := rfl
@[simp] theorem modSupply_tracks : (s.modSupply n f).tracks = s.tracks := rfl
@[simp] theorem modSupply_outputs : (s.modSupply n f).outputs = s.outputs := rfl
@[simp] theorem modSupply_claims : (s.modSupply n f).claims = s.claims := rfl
@[simp] theorem modSupply_frameHolders : (s.modSupply n f).frameHolders = s.frameHolders := rfl
@[simp] theorem modSupply_ports : (s.modSupply n f).ports = s.ports := rfl
@[simp] theorem modSupply_capture : (s.modSupply n f).capture = s.capture := rfl
@[simp] theorem modSupply_inputs : (s.modSupply n f).inputs = s.inputs := rfl
@[simp] theorem modSupply_checks : (s.modSupply n f).checks = s.checks := rfl
@[simp] theorem modSupply_unposted : (s.modSupply n f).unposted = s.unposted := rfl
@[simp] theorem modSupply_nodes : (s.modSupply n f).nodes = s.nodes := rfl
@[simp] theorem modSupply_link : (s.modSupply n f).link = s.link := rfl
@[simp] theorem modSupply_prompts : (s.modSupply n f).prompts = s.prompts := rfl
@[simp] theorem modSupply_path : (s.modSupply n f).path = s.path := rfl
@[simp] theorem modSupply_post : (s.modSupply n f).post = s.post := rfl
end

section
variable (s : State) (n : RailId) (f : Rail → Rail)
@[simp] theorem modRail_pending : (s.modRail n f).pending = s.pending := rfl
@[simp] theorem modRail_mem : (s.modRail n f).mem = s.mem := rfl
@[simp] theorem modRail_nests : (s.modRail n f).nests = s.nests := rfl
@[simp] theorem modRail_supplies : (s.modRail n f).supplies = s.supplies := rfl
@[simp] theorem modRail_rails : (s.modRail n f).rails = s.rails.set n (f s.rails[n]) := rfl
@[simp] theorem modRail_tracks : (s.modRail n f).tracks = s.tracks := rfl
@[simp] theorem modRail_outputs : (s.modRail n f).outputs = s.outputs := rfl
@[simp] theorem modRail_claims : (s.modRail n f).claims = s.claims := rfl
@[simp] theorem modRail_frameHolders : (s.modRail n f).frameHolders = s.frameHolders := rfl
@[simp] theorem modRail_ports : (s.modRail n f).ports = s.ports := rfl
@[simp] theorem modRail_capture : (s.modRail n f).capture = s.capture := rfl
@[simp] theorem modRail_inputs : (s.modRail n f).inputs = s.inputs := rfl
@[simp] theorem modRail_checks : (s.modRail n f).checks = s.checks := rfl
@[simp] theorem modRail_unposted : (s.modRail n f).unposted = s.unposted := rfl
@[simp] theorem modRail_nodes : (s.modRail n f).nodes = s.nodes := rfl
@[simp] theorem modRail_link : (s.modRail n f).link = s.link := rfl
@[simp] theorem modRail_prompts : (s.modRail n f).prompts = s.prompts := rfl
@[simp] theorem modRail_path : (s.modRail n f).path = s.path := rfl
@[simp] theorem modRail_post : (s.modRail n f).post = s.post := rfl
end

section
variable (s : State) (n : TrackId) (f : Track → Track)
@[simp] theorem modTrack_pending : (s.modTrack n f).pending = s.pending := rfl
@[simp] theorem modTrack_mem : (s.modTrack n f).mem = s.mem := rfl
@[simp] theorem modTrack_nests : (s.modTrack n f).nests = s.nests := rfl
@[simp] theorem modTrack_supplies : (s.modTrack n f).supplies = s.supplies := rfl
@[simp] theorem modTrack_rails : (s.modTrack n f).rails = s.rails := rfl
@[simp] theorem modTrack_tracks : (s.modTrack n f).tracks = s.tracks.set n (f s.tracks[n]) := rfl
@[simp] theorem modTrack_outputs : (s.modTrack n f).outputs = s.outputs := rfl
@[simp] theorem modTrack_claims : (s.modTrack n f).claims = s.claims := rfl
@[simp] theorem modTrack_frameHolders : (s.modTrack n f).frameHolders = s.frameHolders := rfl
@[simp] theorem modTrack_ports : (s.modTrack n f).ports = s.ports := rfl
@[simp] theorem modTrack_capture : (s.modTrack n f).capture = s.capture := rfl
@[simp] theorem modTrack_inputs : (s.modTrack n f).inputs = s.inputs := rfl
@[simp] theorem modTrack_checks : (s.modTrack n f).checks = s.checks := rfl
@[simp] theorem modTrack_unposted : (s.modTrack n f).unposted = s.unposted := rfl
@[simp] theorem modTrack_nodes : (s.modTrack n f).nodes = s.nodes := rfl
@[simp] theorem modTrack_link : (s.modTrack n f).link = s.link := rfl
@[simp] theorem modTrack_prompts : (s.modTrack n f).prompts = s.prompts := rfl
@[simp] theorem modTrack_path : (s.modTrack n f).path = s.path := rfl
@[simp] theorem modTrack_post : (s.modTrack n f).post = s.post := rfl
end

section
variable (s : State) (n : NestId) (f : Outputs → Outputs)
@[simp] theorem modOutputs_pending : (s.modOutputs n f).pending = s.pending := rfl
@[simp] theorem modOutputs_mem : (s.modOutputs n f).mem = s.mem := rfl
@[simp] theorem modOutputs_nests : (s.modOutputs n f).nests = s.nests := rfl
@[simp] theorem modOutputs_supplies : (s.modOutputs n f).supplies = s.supplies := rfl
@[simp] theorem modOutputs_rails : (s.modOutputs n f).rails = s.rails := rfl
@[simp] theorem modOutputs_tracks : (s.modOutputs n f).tracks = s.tracks := rfl
@[simp] theorem modOutputs_outputs : (s.modOutputs n f).outputs = s.outputs.set n (f s.outputs[n]) := rfl
@[simp] theorem modOutputs_claims : (s.modOutputs n f).claims = s.claims := rfl
@[simp] theorem modOutputs_frameHolders : (s.modOutputs n f).frameHolders = s.frameHolders := rfl
@[simp] theorem modOutputs_ports : (s.modOutputs n f).ports = s.ports := rfl
@[simp] theorem modOutputs_capture : (s.modOutputs n f).capture = s.capture := rfl
@[simp] theorem modOutputs_inputs : (s.modOutputs n f).inputs = s.inputs := rfl
@[simp] theorem modOutputs_checks : (s.modOutputs n f).checks = s.checks := rfl
@[simp] theorem modOutputs_unposted : (s.modOutputs n f).unposted = s.unposted := rfl
@[simp] theorem modOutputs_nodes : (s.modOutputs n f).nodes = s.nodes := rfl
@[simp] theorem modOutputs_link : (s.modOutputs n f).link = s.link := rfl
@[simp] theorem modOutputs_prompts : (s.modOutputs n f).prompts = s.prompts := rfl
@[simp] theorem modOutputs_path : (s.modOutputs n f).path = s.path := rfl
@[simp] theorem modOutputs_post : (s.modOutputs n f).post = s.post := rfl
end

section
variable (s : State) (c : Vector (Option TrackId) 32)
@[simp] theorem setClaims_pending : (s.setClaims c).pending = s.pending := rfl
@[simp] theorem setClaims_mem : (s.setClaims c).mem = s.mem := rfl
@[simp] theorem setClaims_nests : (s.setClaims c).nests = s.nests := rfl
@[simp] theorem setClaims_supplies : (s.setClaims c).supplies = s.supplies := rfl
@[simp] theorem setClaims_rails : (s.setClaims c).rails = s.rails := rfl
@[simp] theorem setClaims_tracks : (s.setClaims c).tracks = s.tracks := rfl
@[simp] theorem setClaims_outputs : (s.setClaims c).outputs = s.outputs := rfl
@[simp] theorem setClaims_claims : (s.setClaims c).claims = c := rfl
@[simp] theorem setClaims_frameHolders : (s.setClaims c).frameHolders = s.frameHolders := rfl
@[simp] theorem setClaims_ports : (s.setClaims c).ports = s.ports := rfl
@[simp] theorem setClaims_capture : (s.setClaims c).capture = s.capture := rfl
@[simp] theorem setClaims_inputs : (s.setClaims c).inputs = s.inputs := rfl
@[simp] theorem setClaims_checks : (s.setClaims c).checks = s.checks := rfl
@[simp] theorem setClaims_unposted : (s.setClaims c).unposted = s.unposted := rfl
@[simp] theorem setClaims_nodes : (s.setClaims c).nodes = s.nodes := rfl
@[simp] theorem setClaims_link : (s.setClaims c).link = s.link := rfl
@[simp] theorem setClaims_prompts : (s.setClaims c).prompts = s.prompts := rfl
@[simp] theorem setClaims_path : (s.setClaims c).path = s.path := rfl
@[simp] theorem setClaims_post : (s.setClaims c).post = s.post := rfl
end

section
variable (s : State) (n : NestId) (f : Vector Bool 8 → Vector Bool 8)
@[simp] theorem modHolders_pending : (s.modHolders n f).pending = s.pending := rfl
@[simp] theorem modHolders_mem : (s.modHolders n f).mem = s.mem := rfl
@[simp] theorem modHolders_nests : (s.modHolders n f).nests = s.nests := rfl
@[simp] theorem modHolders_supplies : (s.modHolders n f).supplies = s.supplies := rfl
@[simp] theorem modHolders_rails : (s.modHolders n f).rails = s.rails := rfl
@[simp] theorem modHolders_tracks : (s.modHolders n f).tracks = s.tracks := rfl
@[simp] theorem modHolders_outputs : (s.modHolders n f).outputs = s.outputs := rfl
@[simp] theorem modHolders_claims : (s.modHolders n f).claims = s.claims := rfl
@[simp] theorem modHolders_frameHolders : (s.modHolders n f).frameHolders = s.frameHolders.set n (f s.frameHolders[n]) := rfl
@[simp] theorem modHolders_ports : (s.modHolders n f).ports = s.ports := rfl
@[simp] theorem modHolders_capture : (s.modHolders n f).capture = s.capture := rfl
@[simp] theorem modHolders_inputs : (s.modHolders n f).inputs = s.inputs := rfl
@[simp] theorem modHolders_checks : (s.modHolders n f).checks = s.checks := rfl
@[simp] theorem modHolders_unposted : (s.modHolders n f).unposted = s.unposted := rfl
@[simp] theorem modHolders_nodes : (s.modHolders n f).nodes = s.nodes := rfl
@[simp] theorem modHolders_link : (s.modHolders n f).link = s.link := rfl
@[simp] theorem modHolders_prompts : (s.modHolders n f).prompts = s.prompts := rfl
@[simp] theorem modHolders_path : (s.modHolders n f).path = s.path := rfl
@[simp] theorem modHolders_post : (s.modHolders n f).post = s.post := rfl
end

section
variable (s : State) (n : NestId) (f : Port → Port)
@[simp] theorem modPort_pending : (s.modPort n f).pending = s.pending := rfl
@[simp] theorem modPort_mem : (s.modPort n f).mem = s.mem := rfl
@[simp] theorem modPort_nests : (s.modPort n f).nests = s.nests := rfl
@[simp] theorem modPort_supplies : (s.modPort n f).supplies = s.supplies := rfl
@[simp] theorem modPort_rails : (s.modPort n f).rails = s.rails := rfl
@[simp] theorem modPort_tracks : (s.modPort n f).tracks = s.tracks := rfl
@[simp] theorem modPort_outputs : (s.modPort n f).outputs = s.outputs := rfl
@[simp] theorem modPort_claims : (s.modPort n f).claims = s.claims := rfl
@[simp] theorem modPort_frameHolders : (s.modPort n f).frameHolders = s.frameHolders := rfl
@[simp] theorem modPort_ports : (s.modPort n f).ports = s.ports.set n (f s.ports[n]) := rfl
@[simp] theorem modPort_capture : (s.modPort n f).capture = s.capture := rfl
@[simp] theorem modPort_inputs : (s.modPort n f).inputs = s.inputs := rfl
@[simp] theorem modPort_checks : (s.modPort n f).checks = s.checks := rfl
@[simp] theorem modPort_unposted : (s.modPort n f).unposted = s.unposted := rfl
@[simp] theorem modPort_nodes : (s.modPort n f).nodes = s.nodes := rfl
@[simp] theorem modPort_link : (s.modPort n f).link = s.link := rfl
@[simp] theorem modPort_prompts : (s.modPort n f).prompts = s.prompts := rfl
@[simp] theorem modPort_path : (s.modPort n f).path = s.path := rfl
@[simp] theorem modPort_post : (s.modPort n f).post = s.post := rfl
end

section
variable (s : State) (n : CaptureId) (f : Capture → Capture)
@[simp] theorem modCapture_pending : (s.modCapture n f).pending = s.pending := rfl
@[simp] theorem modCapture_mem : (s.modCapture n f).mem = s.mem := rfl
@[simp] theorem modCapture_nests : (s.modCapture n f).nests = s.nests := rfl
@[simp] theorem modCapture_supplies : (s.modCapture n f).supplies = s.supplies := rfl
@[simp] theorem modCapture_rails : (s.modCapture n f).rails = s.rails := rfl
@[simp] theorem modCapture_tracks : (s.modCapture n f).tracks = s.tracks := rfl
@[simp] theorem modCapture_outputs : (s.modCapture n f).outputs = s.outputs := rfl
@[simp] theorem modCapture_claims : (s.modCapture n f).claims = s.claims := rfl
@[simp] theorem modCapture_frameHolders : (s.modCapture n f).frameHolders = s.frameHolders := rfl
@[simp] theorem modCapture_ports : (s.modCapture n f).ports = s.ports := rfl
@[simp] theorem modCapture_capture : (s.modCapture n f).capture = s.capture.set n (f s.capture[n]) := rfl
@[simp] theorem modCapture_inputs : (s.modCapture n f).inputs = s.inputs := rfl
@[simp] theorem modCapture_checks : (s.modCapture n f).checks = s.checks := rfl
@[simp] theorem modCapture_unposted : (s.modCapture n f).unposted = s.unposted := rfl
@[simp] theorem modCapture_nodes : (s.modCapture n f).nodes = s.nodes := rfl
@[simp] theorem modCapture_link : (s.modCapture n f).link = s.link := rfl
@[simp] theorem modCapture_prompts : (s.modCapture n f).prompts = s.prompts := rfl
@[simp] theorem modCapture_path : (s.modCapture n f).path = s.path := rfl
@[simp] theorem modCapture_post : (s.modCapture n f).post = s.post := rfl
end

section
variable (s : State) (n : InputId) (f : Input → Input)
@[simp] theorem modInput_pending : (s.modInput n f).pending = s.pending := rfl
@[simp] theorem modInput_mem : (s.modInput n f).mem = s.mem := rfl
@[simp] theorem modInput_nests : (s.modInput n f).nests = s.nests := rfl
@[simp] theorem modInput_supplies : (s.modInput n f).supplies = s.supplies := rfl
@[simp] theorem modInput_rails : (s.modInput n f).rails = s.rails := rfl
@[simp] theorem modInput_tracks : (s.modInput n f).tracks = s.tracks := rfl
@[simp] theorem modInput_outputs : (s.modInput n f).outputs = s.outputs := rfl
@[simp] theorem modInput_claims : (s.modInput n f).claims = s.claims := rfl
@[simp] theorem modInput_frameHolders : (s.modInput n f).frameHolders = s.frameHolders := rfl
@[simp] theorem modInput_ports : (s.modInput n f).ports = s.ports := rfl
@[simp] theorem modInput_capture : (s.modInput n f).capture = s.capture := rfl
@[simp] theorem modInput_inputs : (s.modInput n f).inputs = s.inputs.set n (f s.inputs[n]) := rfl
@[simp] theorem modInput_checks : (s.modInput n f).checks = s.checks := rfl
@[simp] theorem modInput_unposted : (s.modInput n f).unposted = s.unposted := rfl
@[simp] theorem modInput_nodes : (s.modInput n f).nodes = s.nodes := rfl
@[simp] theorem modInput_link : (s.modInput n f).link = s.link := rfl
@[simp] theorem modInput_prompts : (s.modInput n f).prompts = s.prompts := rfl
@[simp] theorem modInput_path : (s.modInput n f).path = s.path := rfl
@[simp] theorem modInput_post : (s.modInput n f).post = s.post := rfl
end

section
variable (s : State) (n : CheckId) (f : Check → Check)
@[simp] theorem modCheck_pending : (s.modCheck n f).pending = s.pending := rfl
@[simp] theorem modCheck_mem : (s.modCheck n f).mem = s.mem := rfl
@[simp] theorem modCheck_nests : (s.modCheck n f).nests = s.nests := rfl
@[simp] theorem modCheck_supplies : (s.modCheck n f).supplies = s.supplies := rfl
@[simp] theorem modCheck_rails : (s.modCheck n f).rails = s.rails := rfl
@[simp] theorem modCheck_tracks : (s.modCheck n f).tracks = s.tracks := rfl
@[simp] theorem modCheck_outputs : (s.modCheck n f).outputs = s.outputs := rfl
@[simp] theorem modCheck_claims : (s.modCheck n f).claims = s.claims := rfl
@[simp] theorem modCheck_frameHolders : (s.modCheck n f).frameHolders = s.frameHolders := rfl
@[simp] theorem modCheck_ports : (s.modCheck n f).ports = s.ports := rfl
@[simp] theorem modCheck_capture : (s.modCheck n f).capture = s.capture := rfl
@[simp] theorem modCheck_inputs : (s.modCheck n f).inputs = s.inputs := rfl
@[simp] theorem modCheck_checks : (s.modCheck n f).checks = s.checks.set n (f s.checks[n]) := rfl
@[simp] theorem modCheck_unposted : (s.modCheck n f).unposted = s.unposted := rfl
@[simp] theorem modCheck_nodes : (s.modCheck n f).nodes = s.nodes := rfl
@[simp] theorem modCheck_link : (s.modCheck n f).link = s.link := rfl
@[simp] theorem modCheck_prompts : (s.modCheck n f).prompts = s.prompts := rfl
@[simp] theorem modCheck_path : (s.modCheck n f).path = s.path := rfl
@[simp] theorem modCheck_post : (s.modCheck n f).post = s.post := rfl
end

section
variable (s : State) (l : List CheckId)
@[simp] theorem setUnposted_pending : (s.setUnposted l).pending = s.pending := rfl
@[simp] theorem setUnposted_mem : (s.setUnposted l).mem = s.mem := rfl
@[simp] theorem setUnposted_nests : (s.setUnposted l).nests = s.nests := rfl
@[simp] theorem setUnposted_supplies : (s.setUnposted l).supplies = s.supplies := rfl
@[simp] theorem setUnposted_rails : (s.setUnposted l).rails = s.rails := rfl
@[simp] theorem setUnposted_tracks : (s.setUnposted l).tracks = s.tracks := rfl
@[simp] theorem setUnposted_outputs : (s.setUnposted l).outputs = s.outputs := rfl
@[simp] theorem setUnposted_claims : (s.setUnposted l).claims = s.claims := rfl
@[simp] theorem setUnposted_frameHolders : (s.setUnposted l).frameHolders = s.frameHolders := rfl
@[simp] theorem setUnposted_ports : (s.setUnposted l).ports = s.ports := rfl
@[simp] theorem setUnposted_capture : (s.setUnposted l).capture = s.capture := rfl
@[simp] theorem setUnposted_inputs : (s.setUnposted l).inputs = s.inputs := rfl
@[simp] theorem setUnposted_checks : (s.setUnposted l).checks = s.checks := rfl
@[simp] theorem setUnposted_unposted : (s.setUnposted l).unposted = l := rfl
@[simp] theorem setUnposted_nodes : (s.setUnposted l).nodes = s.nodes := rfl
@[simp] theorem setUnposted_link : (s.setUnposted l).link = s.link := rfl
@[simp] theorem setUnposted_prompts : (s.setUnposted l).prompts = s.prompts := rfl
@[simp] theorem setUnposted_path : (s.setUnposted l).path = s.path := rfl
@[simp] theorem setUnposted_post : (s.setUnposted l).post = s.post := rfl
end

section
variable (s : State) (n : NodeId) (f : Node → Node)
@[simp] theorem modNode_pending : (s.modNode n f).pending = s.pending := rfl
@[simp] theorem modNode_mem : (s.modNode n f).mem = s.mem := rfl
@[simp] theorem modNode_nests : (s.modNode n f).nests = s.nests := rfl
@[simp] theorem modNode_supplies : (s.modNode n f).supplies = s.supplies := rfl
@[simp] theorem modNode_rails : (s.modNode n f).rails = s.rails := rfl
@[simp] theorem modNode_tracks : (s.modNode n f).tracks = s.tracks := rfl
@[simp] theorem modNode_outputs : (s.modNode n f).outputs = s.outputs := rfl
@[simp] theorem modNode_claims : (s.modNode n f).claims = s.claims := rfl
@[simp] theorem modNode_frameHolders : (s.modNode n f).frameHolders = s.frameHolders := rfl
@[simp] theorem modNode_ports : (s.modNode n f).ports = s.ports := rfl
@[simp] theorem modNode_capture : (s.modNode n f).capture = s.capture := rfl
@[simp] theorem modNode_inputs : (s.modNode n f).inputs = s.inputs := rfl
@[simp] theorem modNode_checks : (s.modNode n f).checks = s.checks := rfl
@[simp] theorem modNode_unposted : (s.modNode n f).unposted = s.unposted := rfl
@[simp] theorem modNode_nodes : (s.modNode n f).nodes = s.nodes.set n (f s.nodes[n]) := rfl
@[simp] theorem modNode_link : (s.modNode n f).link = s.link := rfl
@[simp] theorem modNode_prompts : (s.modNode n f).prompts = s.prompts := rfl
@[simp] theorem modNode_path : (s.modNode n f).path = s.path := rfl
@[simp] theorem modNode_post : (s.modNode n f).post = s.post := rfl
end

section
variable (s : State) (f : Link → Link)
@[simp] theorem modLink_pending : (s.modLink f).pending = s.pending := rfl
@[simp] theorem modLink_mem : (s.modLink f).mem = s.mem := rfl
@[simp] theorem modLink_nests : (s.modLink f).nests = s.nests := rfl
@[simp] theorem modLink_supplies : (s.modLink f).supplies = s.supplies := rfl
@[simp] theorem modLink_rails : (s.modLink f).rails = s.rails := rfl
@[simp] theorem modLink_tracks : (s.modLink f).tracks = s.tracks := rfl
@[simp] theorem modLink_outputs : (s.modLink f).outputs = s.outputs := rfl
@[simp] theorem modLink_claims : (s.modLink f).claims = s.claims := rfl
@[simp] theorem modLink_frameHolders : (s.modLink f).frameHolders = s.frameHolders := rfl
@[simp] theorem modLink_ports : (s.modLink f).ports = s.ports := rfl
@[simp] theorem modLink_capture : (s.modLink f).capture = s.capture := rfl
@[simp] theorem modLink_inputs : (s.modLink f).inputs = s.inputs := rfl
@[simp] theorem modLink_checks : (s.modLink f).checks = s.checks := rfl
@[simp] theorem modLink_unposted : (s.modLink f).unposted = s.unposted := rfl
@[simp] theorem modLink_nodes : (s.modLink f).nodes = s.nodes := rfl
@[simp] theorem modLink_link : (s.modLink f).link = f s.link := rfl
@[simp] theorem modLink_prompts : (s.modLink f).prompts = s.prompts := rfl
@[simp] theorem modLink_path : (s.modLink f).path = s.path := rfl
@[simp] theorem modLink_post : (s.modLink f).post = s.post := rfl
end

section
variable (s : State) (n : NestId) (f : Prompt → Prompt)
@[simp] theorem modPrompt_pending : (s.modPrompt n f).pending = s.pending := rfl
@[simp] theorem modPrompt_mem : (s.modPrompt n f).mem = s.mem := rfl
@[simp] theorem modPrompt_nests : (s.modPrompt n f).nests = s.nests := rfl
@[simp] theorem modPrompt_supplies : (s.modPrompt n f).supplies = s.supplies := rfl
@[simp] theorem modPrompt_rails : (s.modPrompt n f).rails = s.rails := rfl
@[simp] theorem modPrompt_tracks : (s.modPrompt n f).tracks = s.tracks := rfl
@[simp] theorem modPrompt_outputs : (s.modPrompt n f).outputs = s.outputs := rfl
@[simp] theorem modPrompt_claims : (s.modPrompt n f).claims = s.claims := rfl
@[simp] theorem modPrompt_frameHolders : (s.modPrompt n f).frameHolders = s.frameHolders := rfl
@[simp] theorem modPrompt_ports : (s.modPrompt n f).ports = s.ports := rfl
@[simp] theorem modPrompt_capture : (s.modPrompt n f).capture = s.capture := rfl
@[simp] theorem modPrompt_inputs : (s.modPrompt n f).inputs = s.inputs := rfl
@[simp] theorem modPrompt_checks : (s.modPrompt n f).checks = s.checks := rfl
@[simp] theorem modPrompt_unposted : (s.modPrompt n f).unposted = s.unposted := rfl
@[simp] theorem modPrompt_nodes : (s.modPrompt n f).nodes = s.nodes := rfl
@[simp] theorem modPrompt_link : (s.modPrompt n f).link = s.link := rfl
@[simp] theorem modPrompt_prompts : (s.modPrompt n f).prompts = s.prompts.set n (f s.prompts[n]) := rfl
@[simp] theorem modPrompt_path : (s.modPrompt n f).path = s.path := rfl
@[simp] theorem modPrompt_post : (s.modPrompt n f).post = s.post := rfl
end

section
variable (s : State) (f : Path → Path)
@[simp] theorem modPath_pending : (s.modPath f).pending = s.pending := rfl
@[simp] theorem modPath_mem : (s.modPath f).mem = s.mem := rfl
@[simp] theorem modPath_nests : (s.modPath f).nests = s.nests := rfl
@[simp] theorem modPath_supplies : (s.modPath f).supplies = s.supplies := rfl
@[simp] theorem modPath_rails : (s.modPath f).rails = s.rails := rfl
@[simp] theorem modPath_tracks : (s.modPath f).tracks = s.tracks := rfl
@[simp] theorem modPath_outputs : (s.modPath f).outputs = s.outputs := rfl
@[simp] theorem modPath_claims : (s.modPath f).claims = s.claims := rfl
@[simp] theorem modPath_frameHolders : (s.modPath f).frameHolders = s.frameHolders := rfl
@[simp] theorem modPath_ports : (s.modPath f).ports = s.ports := rfl
@[simp] theorem modPath_capture : (s.modPath f).capture = s.capture := rfl
@[simp] theorem modPath_inputs : (s.modPath f).inputs = s.inputs := rfl
@[simp] theorem modPath_checks : (s.modPath f).checks = s.checks := rfl
@[simp] theorem modPath_unposted : (s.modPath f).unposted = s.unposted := rfl
@[simp] theorem modPath_nodes : (s.modPath f).nodes = s.nodes := rfl
@[simp] theorem modPath_link : (s.modPath f).link = s.link := rfl
@[simp] theorem modPath_prompts : (s.modPath f).prompts = s.prompts := rfl
@[simp] theorem modPath_path : (s.modPath f).path = f s.path := rfl
@[simp] theorem modPath_post : (s.modPath f).post = s.post := rfl
end

section
variable (s : State) (f : Post → Post)
@[simp] theorem modPost_pending : (s.modPost f).pending = s.pending := rfl
@[simp] theorem modPost_mem : (s.modPost f).mem = s.mem := rfl
@[simp] theorem modPost_nests : (s.modPost f).nests = s.nests := rfl
@[simp] theorem modPost_supplies : (s.modPost f).supplies = s.supplies := rfl
@[simp] theorem modPost_rails : (s.modPost f).rails = s.rails := rfl
@[simp] theorem modPost_tracks : (s.modPost f).tracks = s.tracks := rfl
@[simp] theorem modPost_outputs : (s.modPost f).outputs = s.outputs := rfl
@[simp] theorem modPost_claims : (s.modPost f).claims = s.claims := rfl
@[simp] theorem modPost_frameHolders : (s.modPost f).frameHolders = s.frameHolders := rfl
@[simp] theorem modPost_ports : (s.modPost f).ports = s.ports := rfl
@[simp] theorem modPost_capture : (s.modPost f).capture = s.capture := rfl
@[simp] theorem modPost_inputs : (s.modPost f).inputs = s.inputs := rfl
@[simp] theorem modPost_checks : (s.modPost f).checks = s.checks := rfl
@[simp] theorem modPost_unposted : (s.modPost f).unposted = s.unposted := rfl
@[simp] theorem modPost_nodes : (s.modPost f).nodes = s.nodes := rfl
@[simp] theorem modPost_link : (s.modPost f).link = s.link := rfl
@[simp] theorem modPost_prompts : (s.modPost f).prompts = s.prompts := rfl
@[simp] theorem modPost_path : (s.modPost f).path = s.path := rfl
@[simp] theorem modPost_post : (s.modPost f).post = f s.post := rfl
end

/-- The part of the state that only the host bus, the memory port and power-on reset change. -/
def State.bus (s : State) := (s.pending, s.mem, s.path)

/-- The part that no internal step changes. -/
def State.bench (s : State) :=
  (s.bus, s.supplies, s.tracks, s.outputs, s.claims, s.frameHolders, s.ports, s.capture)

/-- The part that decisions, prompts and answers on the link do not change. -/
def State.plant (s : State) := (s.bench, s.nests, s.rails, s.inputs)

theorem bench_of_plant {s t : State} (h : s.plant = t.plant) : s.bench = t.bench := congrArg Prod.fst h

theorem bus_of_bench {s t : State} (h : s.bench = t.bench) : s.bus = t.bus := congrArg Prod.fst h

theorem bus_of_plant {s t : State} (h : s.plant = t.plant) : s.bus = t.bus := bus_of_bench (bench_of_plant h)

@[simp] theorem modCheck_plant (s : State) (n : CheckId) (f : Check → Check) : (s.modCheck n f).plant = s.plant := rfl
@[simp] theorem setUnposted_plant (s : State) (l : List CheckId) : (s.setUnposted l).plant = s.plant := rfl
@[simp] theorem modNode_plant (s : State) (n : NodeId) (f : Node → Node) : (s.modNode n f).plant = s.plant := rfl
@[simp] theorem modLink_plant (s : State) (f : Link → Link) : (s.modLink f).plant = s.plant := rfl
@[simp] theorem modPrompt_plant (s : State) (n : NestId) (f : Prompt → Prompt) : (s.modPrompt n f).plant = s.plant := rfl
@[simp] theorem modPost_plant (s : State) (f : Post → Post) : (s.modPost f).plant = s.plant := rfl

@[simp] theorem modNest_bench (s : State) (n : NestId) (f : Nest → Nest) : (s.modNest n f).bench = s.bench := rfl
@[simp] theorem modRail_bench (s : State) (n : RailId) (f : Rail → Rail) : (s.modRail n f).bench = s.bench := rfl
@[simp] theorem modInput_bench (s : State) (n : InputId) (f : Input → Input) : (s.modInput n f).bench = s.bench := rfl
@[simp] theorem modCheck_bench (s : State) (n : CheckId) (f : Check → Check) : (s.modCheck n f).bench = s.bench := rfl
@[simp] theorem setUnposted_bench (s : State) (l : List CheckId) : (s.setUnposted l).bench = s.bench := rfl
@[simp] theorem modNode_bench (s : State) (n : NodeId) (f : Node → Node) : (s.modNode n f).bench = s.bench := rfl
@[simp] theorem modLink_bench (s : State) (f : Link → Link) : (s.modLink f).bench = s.bench := rfl
@[simp] theorem modPrompt_bench (s : State) (n : NestId) (f : Prompt → Prompt) : (s.modPrompt n f).bench = s.bench := rfl
@[simp] theorem modPost_bench (s : State) (f : Post → Post) : (s.modPost f).bench = s.bench := rfl

@[simp] theorem modNest_bus (s : State) (n : NestId) (f : Nest → Nest) : (s.modNest n f).bus = s.bus := rfl
@[simp] theorem modSupply_bus (s : State) (n : NestId) (f : Supply → Supply) : (s.modSupply n f).bus = s.bus := rfl
@[simp] theorem modRail_bus (s : State) (n : RailId) (f : Rail → Rail) : (s.modRail n f).bus = s.bus := rfl
@[simp] theorem modTrack_bus (s : State) (n : TrackId) (f : Track → Track) : (s.modTrack n f).bus = s.bus := rfl
@[simp] theorem modOutputs_bus (s : State) (n : NestId) (f : Outputs → Outputs) : (s.modOutputs n f).bus = s.bus := rfl
@[simp] theorem setClaims_bus (s : State) (c : Vector (Option TrackId) 32) : (s.setClaims c).bus = s.bus := rfl
@[simp] theorem modHolders_bus (s : State) (n : NestId) (f : Vector Bool 8 → Vector Bool 8) : (s.modHolders n f).bus = s.bus := rfl
@[simp] theorem modPort_bus (s : State) (n : NestId) (f : Port → Port) : (s.modPort n f).bus = s.bus := rfl
@[simp] theorem modCapture_bus (s : State) (n : CaptureId) (f : Capture → Capture) : (s.modCapture n f).bus = s.bus := rfl
@[simp] theorem modInput_bus (s : State) (n : InputId) (f : Input → Input) : (s.modInput n f).bus = s.bus := rfl
@[simp] theorem modCheck_bus (s : State) (n : CheckId) (f : Check → Check) : (s.modCheck n f).bus = s.bus := rfl
@[simp] theorem setUnposted_bus (s : State) (l : List CheckId) : (s.setUnposted l).bus = s.bus := rfl
@[simp] theorem modNode_bus (s : State) (n : NodeId) (f : Node → Node) : (s.modNode n f).bus = s.bus := rfl
@[simp] theorem modLink_bus (s : State) (f : Link → Link) : (s.modLink f).bus = s.bus := rfl
@[simp] theorem modPrompt_bus (s : State) (n : NestId) (f : Prompt → Prompt) : (s.modPrompt n f).bus = s.bus := rfl
@[simp] theorem modPost_bus (s : State) (f : Post → Post) : (s.modPost f).bus = s.bus := rfl

/-- A step made for each element of a list keeps what each single step keeps. -/
theorem forEach_keeps {α β : Type} (p : State → β) (f : α → State → State)
    (h : ∀ a s, p (f a s) = p s) (l : List α) (s : State) : p (s.forEach l f) = p s := by
  induction l generalizing s with
  | nil => rfl
  | cons a l ih => exact (ih (f a s)).trans (h a s)

/-- A property that each single step keeps holds after the steps for a whole list. -/
theorem forEach_induct {α : Type} (P : State → Prop) (f : α → State → State)
    (h : ∀ a s, P s → P (f a s)) (l : List α) (s : State) (hs : P s) : P (s.forEach l f) := by
  induction l generalizing s with
  | nil => exact hs
  | cons a l ih => exact ih (f a s) (h a s hs)

@[simp] theorem forEach_nil {α : Type} (s : State) (f : α → State → State) : s.forEach [] f = s := rfl

@[simp] theorem forEach_cons {α : Type} (s : State) (a : α) (l : List α) (f : α → State → State) :
    s.forEach (a :: l) f = (f a s).forEach l f := rfl

end Sys2Proof.Machine
end

