-- ==== Sys2Proof/Laws/Actions.lean ====
section
/-!
SUPPORT. Posting and actions: what an event leaves, what an offer leaves, and what a granted action leaves.
-/
namespace Sys2Proof.Machine

/-- An offered place holds the value offered. -/
theorem mem_upsertPlace (p : Place) (v : List Word) (l : List (Place × List Word)) : (p, v) ∈ upsertPlace p v l := by
  induction l with
  | nil => simp [upsertPlace]
  | cons x l ih =>
    obtain ⟨q, w⟩ := x
    unfold upsertPlace
    split
    · rename_i h; simp [h]
    · simp [ih]

/-- An offer to another place leaves a place that holds a value. -/
theorem mem_upsertPlace_of_ne {p q : Place} (h : p ≠ q) (v w : List Word) (l : List (Place × List Word)) :
    (p, v) ∈ upsertPlace q w l ↔ (p, v) ∈ l := by
  induction l with
  | nil => simp [upsertPlace, h]
  | cons x l ih =>
    obtain ⟨r, u⟩ := x
    unfold upsertPlace
    split
    · rename_i hr; subst hr; simp [h]
    · simp [ih]

/-- R172: an event that finds room. -/
theorem postEvent_room {e : Event} {s : State} (h : (fifoFree s && decide (1 ≤ eventRoom s)) = true) :
    postEvent e s = s.modPost fun q =>
      { q with fifo := q.fifo ++ [.event q.eventReserve (e.words s)], eventReserve := q.eventReserve + 1 } := by
  unfold postEvent; rw [if_pos h]

/-- R172: an event that finds no room is counted as lost. -/
theorem postEvent_lost {e : Event} {s : State} (h : (fifoFree s && decide (1 ≤ eventRoom s)) = false) :
    postEvent e s = offerSummary (s.modPost fun q => { q with lost := satAdd max32 q.lost 1 }) := by
  unfold postEvent; rw [if_neg (by simp [h])]

section
variable (k : SlotId) (w : Word) (r : Option Reason) (s : State)
@[simp] theorem offerResult_pending : (offerResult k w r s).pending = s.pending := rfl
@[simp] theorem offerResult_mem : (offerResult k w r s).mem = s.mem := rfl
@[simp] theorem offerResult_nests : (offerResult k w r s).nests = s.nests := rfl
@[simp] theorem offerResult_supplies : (offerResult k w r s).supplies = s.supplies := rfl
@[simp] theorem offerResult_rails : (offerResult k w r s).rails = s.rails := rfl
@[simp] theorem offerResult_tracks : (offerResult k w r s).tracks = s.tracks := rfl
@[simp] theorem offerResult_outputs : (offerResult k w r s).outputs = s.outputs := rfl
@[simp] theorem offerResult_claims : (offerResult k w r s).claims = s.claims := rfl
@[simp] theorem offerResult_frameHolders : (offerResult k w r s).frameHolders = s.frameHolders := rfl
@[simp] theorem offerResult_ports : (offerResult k w r s).ports = s.ports := rfl
@[simp] theorem offerResult_capture : (offerResult k w r s).capture = s.capture := rfl
@[simp] theorem offerResult_inputs : (offerResult k w r s).inputs = s.inputs := rfl
@[simp] theorem offerResult_checks : (offerResult k w r s).checks = s.checks := rfl
@[simp] theorem offerResult_unposted : (offerResult k w r s).unposted = s.unposted := rfl
@[simp] theorem offerResult_nodes : (offerResult k w r s).nodes = s.nodes := rfl
@[simp] theorem offerResult_link : (offerResult k w r s).link = s.link := rfl
@[simp] theorem offerResult_prompts : (offerResult k w r s).prompts = s.prompts := rfl
@[simp] theorem offerResult_fifo : (offerResult k w r s).post.fifo = s.post.fifo := rfl
@[simp] theorem offerResult_lost : (offerResult k w r s).post.lost = s.post.lost := rfl
end

/-- R165: the result of an action stands in the place of its slot. -/
theorem offerResult_place (k : SlotId) (w : Word) (r : Option Reason) (s : State) :
    (Place.result k, [resultWord (wordCode w) (wordObject w) r (s.path.takes[k] + 1)])
      ∈ (offerResult k w r s).post.places := by
  simp [offerResult, offer, mem_upsertPlace]

/-- R164, R165: a granted action that its owner accepts. -/
theorem performAction_ok {x : Action} {act : Nat → Nat → State → Except Reason State} {k : SlotId} {a : HostAccess}
    {s u : State} (hg : grantedAction s x = some (k, a))
    (hu : act (wordObject a.data) (wordOperand a.data) (writeAction a (clearHost s)) = .ok u) :
    performAction x act s = settle (offerResult k a.data none u) := by
  unfold performAction; rw [hg]; dsimp only; unfold takeAction; dsimp only; rw [hu]

/-- R164, R165: a granted action that its owner refuses. -/
theorem performAction_error {x : Action} {act : Nat → Nat → State → Except Reason State} {k : SlotId}
    {a : HostAccess} {s : State} {r : Reason} (hg : grantedAction s x = some (k, a))
    (hr : act (wordObject a.data) (wordOperand a.data) (writeAction a (clearHost s)) = .error r) :
    performAction x act s = settle (offerResult k a.data (some r) (writeAction a (clearHost s))) := by
  unfold performAction; rw [hg]; dsimp only; unfold takeAction; dsimp only; rw [hr]

end Sys2Proof.Machine
end

