-- ==== Sys2Proof/Laws/Decisions.lean ====
section
/-!
SUPPORT. What posting, the link queue, checks and prompts leave unchanged: the plant (nests, rails, inputs, tracks,
outputs, ports, supplies, memory, path and the command queue).
-/
namespace Sys2Proof.Machine

/-! ### Posting -/

@[simp] theorem offer_plant (p : Place) (v : List Word) (s : State) : (offer p v s).plant = s.plant := rfl
@[simp] theorem offerSummary_plant (s : State) : (offerSummary s).plant = s.plant := rfl
@[simp] theorem offerNest_plant (n : NestId) (s : State) : (offerNest n s).plant = s.plant := rfl
@[simp] theorem offerTrack_plant (t : TrackId) (s : State) : (offerTrack t s).plant = s.plant := rfl
@[simp] theorem offerRail_plant (r : RailId) (s : State) : (offerRail r s).plant = s.plant := rfl
@[simp] theorem offerInput_plant (i : InputId) (s : State) : (offerInput i s).plant = s.plant := rfl

@[simp] theorem postEvent_plant (e : Event) (s : State) : (postEvent e s).plant = s.plant := by
  unfold postEvent; split <;> simp

theorem takeVerdict_plant {s t : State} (h : takeVerdict s = some t) : t.plant = s.plant := by
  unfold takeVerdict at h
  split at h
  · cases h
  · split at h
    · cases h
    · split at h
      · cases h; simp
      · cases h

@[simp] theorem takeVerdicts_plant (n : Nat) (s : State) : (takeVerdicts n s).plant = s.plant := by
  induction n generalizing s with
  | zero => rfl
  | succ n ih =>
    unfold takeVerdicts
    split
    · rfl
    · rename_i t h; rw [ih t, takeVerdict_plant h]

@[simp] theorem testVerdicts_plant (s : State) : (testVerdicts s).plant = s.plant := takeVerdicts_plant _ s
@[simp] theorem pushBlock_plant (b : BlockItem) (s : State) : (pushBlock b s).plant = s.plant := rfl
@[simp] theorem judgeAttention_plant (s : State) : (judgeAttention s).plant = s.plant := rfl

/-! ### The link queue -/

@[simp] theorem joinQueue_plant (q : Request) (s : State) : (joinQueue q s).plant = s.plant := rfl

@[simp] theorem offerPoll_plant (d : NodeId) (s : State) : (offerPoll d s).plant = s.plant := by
  unfold offerPoll; split <;> simp

@[simp] theorem offerQuery_plant (c : CheckId) (s : State) : (offerQuery c s).plant = s.plant := by
  unfold offerQuery; split <;> simp

@[simp] theorem offerStep_plant (n : NestId) (k : PromptStep) (s : State) : (offerStep n k s).plant = s.plant := by
  unfold offerStep; split <;> simp

/-! ### Checks -/

@[simp] theorem recordDecision_plant (c : CheckId) (d : Decision) (s : State) :
    (recordDecision c d s).plant = s.plant := by
  unfold recordDecision; simp

@[simp] theorem startQuery_plant (c : CheckId) (s : State) : (startQuery c s).plant = s.plant := by
  unfold startQuery; simp

@[simp] theorem takeProfileSample_plant (c : CheckId) (s : State) :
    (takeProfileSample c s).1.plant = s.plant := by
  unfold takeProfileSample
  dsimp only
  repeat' split
  all_goals simp

@[simp] theorem takeWindowSample_plant (c : CheckId) (s : State) : (takeWindowSample c s).1.plant = s.plant := by
  unfold takeWindowSample; split <;> simp

@[simp] theorem takeLevelSample_plant (c : CheckId) (s : State) : (takeLevelSample c s).1.plant = s.plant := by
  unfold takeLevelSample; split <;> simp

@[simp] theorem endDelay_plant (c : CheckId) (s : State) : (endDelay c s).1.plant = s.plant := by
  unfold endDelay; dsimp only; split <;> simp

@[simp] theorem joinWaiting_plant (c : CheckId) (s : State) : (joinWaiting c s).plant = s.plant := by
  unfold joinWaiting; simp

@[simp] theorem startDelay_plant (c : CheckId) (s : State) : (startDelay c s).1.plant = s.plant := by
  unfold startDelay; dsimp only; split <;> simp

@[simp] theorem startCharge_plant (c : CheckId) (s : State) : (startCharge c s).1.plant = s.plant := by
  unfold startCharge
  split
  · rfl
  · dsimp only; split <;> simp

@[simp] theorem startCheck_plant (c : CheckId) (s : State) : (startCheck c s).1.plant = s.plant := by
  unfold startCheck
  dsimp only
  repeat' split
  all_goals simp

/-! ### Waiting lists, for any way of deciding that keeps the plant -/

@[simp] theorem openPrompt_plant (n : NestId) (a : Arming) (d : NodeId) (s : State) :
    (openPrompt n a d s).plant = s.plant := by
  unfold openPrompt; simp

section
variable {decide : CheckId → Decision → State → State} (hd : ∀ c d s, (decide c d s).plant = s.plant)
include hd

theorem admitOutcome_plant (a : Arming) (d : Decision) (s : State) : (admitOutcome decide a d s).plant = s.plant := by
  unfold admitOutcome
  split
  · exact hd ..
  · rfl

theorem takeHead_plant {n : NestId} {s t : State} (h : takeHead decide n s = some t) : t.plant = s.plant := by
  unfold takeHead at h
  split at h
  · dsimp only at h
    split at h <;> cases h
    · rw [admitOutcome_plant hd, modPrompt_plant]
    · rw [openPrompt_plant, modPrompt_plant]
  · cases h

theorem takeHeads_plant (n : NestId) (s : State) : (takeHeads decide n s).plant = s.plant := by
  unfold takeHeads
  generalize s.prompts[n].waiting.length = k
  induction k generalizing s with
  | zero => rfl
  | succ k ih =>
    unfold takeHeadsFuel
    split
    · rfl
    · rename_i t h; exact (ih t).trans (takeHead_plant hd h)

theorem beginCheck_plant (c : CheckId) (s : State) : (beginCheck decide c s).plant = s.plant := by
  have h := startCheck_plant c s
  unfold beginCheck
  split <;> rename_i h' <;> rw [h'] at h
  · exact (hd ..).trans h
  · split
    · exact (takeHeads_plant hd ..).trans h
    · exact h
end

@[simp] theorem decideFuel_plant (f : Nat) (c : CheckId) (d : Decision) (s : State) :
    (decideFuel f c d s).plant = s.plant := by
  induction f generalizing c d s with
  | zero => simp [decideFuel]
  | succ f ih =>
    unfold decideFuel
    rw [forEach_keeps State.plant _ _ allChecks, recordDecision_plant]
    intro e s
    split
    · rfl
    · split
      · exact ih ..
      · exact beginCheck_plant ih e s

@[simp] theorem decideCheck_plant (c : CheckId) (d : Decision) (s : State) : (decideCheck c d s).plant = s.plant :=
  decideFuel_plant 64 c d s

theorem finishCheck_plant (c : CheckId) (x : State × Option Decision) : (finishCheck c x).plant = x.1.plant := by
  obtain ⟨s, d⟩ := x
  unfold finishCheck
  cases d <;> simp

@[simp] theorem triggerCheck_plant (c : CheckId) (s : State) : (triggerCheck c s).plant = s.plant := by
  unfold triggerCheck; split
  · exact beginCheck_plant decideCheck_plant c s
  · rfl

@[simp] theorem takeSampleMark_plant (c : CheckId) (s : State) : (takeSampleMark c s).plant = s.plant := by
  unfold takeSampleMark
  split
  · simp
  · split
    · rw [finishCheck_plant, takeProfileSample_plant]
    · simp

@[simp] theorem deliverMark_plant (n : NestId) (m : Nat) (s : State) : (deliverMark n m s).plant = s.plant := by
  unfold deliverMark
  exact forEach_keeps State.plant _ (fun c s => by repeat' split
                                                   all_goals simp) _ _

@[simp] theorem railTrigger_plant (r : RailId) (b : Bool) (s : State) : (railTrigger r b s).plant = s.plant := by
  unfold railTrigger
  exact forEach_keeps State.plant _ (fun c s => by split <;> simp) _ _

@[simp] theorem serviceTrigger_plant (d : NodeId) (w : Word) (s : State) :
    (serviceTrigger d w s).plant = s.plant := by
  unfold serviceTrigger
  exact forEach_keeps State.plant _ (fun c s => by split <;> simp) _ _

/-- A pass in which each element is taken only where the state then admits it, and no taking changes what is admitted. -/
theorem forEach_guarded {α : Type} (p : State → α → Bool) (f : α → State → State)
    (h : ∀ a s b, p (f a s) b = p s b) (l : List α) (s : State) :
    (s.forEach l fun a s => if p s a then f a s else s) = s.forEach (l.filter (p s)) f := by
  unfold State.forEach
  induction l generalizing s with
  | nil => rfl
  | cons a l ih =>
    cases hp : p s a
    · simp only [List.foldl_cons, List.filter_cons, hp, Bool.false_eq_true, if_false]; exact ih s
    · simp only [List.foldl_cons, List.filter_cons, hp, if_true]
      rw [ih, funext (h a s)]

/-- A word of a check's entry is read from the shadow. -/
theorem checkWord_congr {s t : State} (h : t.path = s.path) (c : CheckId) (k : Nat) :
    checkWord t c k = checkWord s c k := by
  unfold checkWord cfg; rw [h]

theorem checkNest_congr {s t : State} (h : t.path = s.path) (c : CheckId) : checkNest t c = checkNest s c := by
  unfold checkNest; rw [checkWord_congr h]

theorem checkTrigger_congr {s t : State} (h : t.path = s.path) (c : CheckId) : checkTrigger t c = checkTrigger s c := by
  unfold checkTrigger; rw [checkWord_congr h]

theorem matchMask_congr {s t : State} (h : t.path = s.path) (c : CheckId) : matchMask t c = matchMask s c :=
  checkWord_congr h c 2

@[simp] theorem triggerCheck_path (c : CheckId) (s : State) : (triggerCheck c s).path = s.path :=
  congrArg (fun b => b.2.2) (bus_of_plant (triggerCheck_plant c s))

/-- R104 RAIL: the checks whose trigger is this event, in check-number order. -/
theorem railTrigger_eq (r : RailId) (budget : Bool) (s : State) :
    railTrigger r budget s = s.forEach (allChecks.filter fun c =>
      decide (checkNest s c = nestOfRail r ∧ checkTrigger s c = some (.rail (kindOfRail r) budget))) triggerCheck := by
  rw [← forEach_guarded
    (fun s c => decide (checkNest s c = nestOfRail r ∧ checkTrigger s c = some (.rail (kindOfRail r) budget)))
    triggerCheck (fun a s b => by
      rw [checkNest_congr (triggerCheck_path a s), checkTrigger_congr (triggerCheck_path a s)])]
  unfold railTrigger
  simp only [decide_eq_true_eq]

/-- R104 SERVICE: the checks whose mask shares a set bit with the status word, in check-number order. -/
theorem serviceTrigger_eq (d : NodeId) (w : Word) (s : State) :
    serviceTrigger d w s = s.forEach (allChecks.filter fun c =>
      decide (checkTrigger s c = some (.service d) ∧ matchMask s c &&& w ≠ 0)) triggerCheck := by
  rw [← forEach_guarded (fun s c => decide (checkTrigger s c = some (.service d) ∧ matchMask s c &&& w ≠ 0))
    triggerCheck (fun a s b => by
      rw [matchMask_congr (triggerCheck_path a s), checkTrigger_congr (triggerCheck_path a s)])]
  unfold serviceTrigger
  simp only [decide_eq_true_eq]

@[simp] theorem armCheck_plant (c : CheckId) (s : State) : (armCheck c s).plant = s.plant := rfl

@[simp] theorem triggerAtArming_plant (c : CheckId) (s : State) : (triggerAtArming c s).plant = s.plant := by
  unfold triggerAtArming; split <;> simp

@[simp] theorem checksRailLost_plant (r : RailId) (s : State) : (checksRailLost r s).plant = s.plant := by
  unfold checksRailLost
  exact forEach_keeps State.plant _ (fun c s => by dsimp only; split <;> simp) _ _

@[simp] theorem checksChargeReset_plant (r : RailId) (s : State) : (checksChargeReset r s).plant = s.plant := by
  unfold checksChargeReset
  exact forEach_keeps State.plant _ (fun c s => by dsimp only; split <;> simp) _ _

@[simp] theorem queryResult_plant (c : CheckId) (a : BitVec 8) (q : BitVec 16) (r : LinkResult) (w : Word)
    (s : State) : (queryResult c a q r w s).plant = s.plant := by
  unfold queryResult; split <;> simp

@[simp] theorem promptOutcome_plant (a : Arming) (d : Decision) (s : State) :
    (promptOutcome a d s).plant = s.plant := admitOutcome_plant decideCheck_plant a d s

@[simp] theorem feedSignatures_plant (n : NestId) (j : Fin 16) (p : List Byte) (s : State) :
    (feedSignatures n j p s).plant = s.plant := by
  unfold feedSignatures
  exact forEach_keeps State.plant _ (fun c s => by split <;> simp) _ _

@[simp] theorem abortChecks_plant (n : NestId) (s : State) : (abortChecks n s).plant = s.plant := by
  unfold abortChecks
  exact forEach_keeps State.plant _ (fun c s => by split <;> simp) _ _

@[simp] theorem restartChecks_plant (s : State) : (restartChecks s).plant = s.plant := by
  unfold restartChecks
  exact forEach_keeps State.plant _ (fun c s => by split <;> simp) _ _

/-! ### Prompts -/

@[simp] theorem enterClearing_plant (n : NestId) (s : State) : (enterClearing n s).plant = s.plant := by
  unfold enterClearing; simp

@[simp] theorem returnOutcome_plant (n : NestId) (d : Decision) (s : State) :
    (returnOutcome n d s).plant = s.plant := by
  unfold returnOutcome; split <;> simp

theorem takePrompt_plant {n : NestId} {s t : State} (h : takePrompt n s = some t) : t.plant = s.plant :=
  takeHead_plant decideCheck_plant h

@[simp] theorem postStale_plant (n : NestId) (d : NodeId) (w : Word) (r : StaleReason) (s : State) :
    (postStale n d w r s).plant = s.plant := by
  unfold postStale; simp

@[simp] theorem takeAnswer_plant (n : NestId) (d : NodeId) (w : Word) (s : State) :
    (takeAnswer n d w s).plant = s.plant := by
  unfold takeAnswer; split <;> simp

@[simp] theorem panelWord_plant (d : NodeId) (w : Word) (s : State) : (panelWord d w s).plant = s.plant := by
  unfold panelWord
  dsimp only
  repeat' split
  all_goals simp

@[simp] theorem promptTimedOut_plant (n : NestId) (s : State) : (promptTimedOut n s).plant = s.plant := by
  unfold promptTimedOut; simp

@[simp] theorem offerRestartClear_plant (n : NestId) (s : State) : (offerRestartClear n s).plant = s.plant := by
  unfold offerRestartClear; dsimp only; split <;> simp

@[simp] theorem restartPrompt_plant (n : NestId) (s : State) : (restartPrompt n s).plant = s.plant := by
  unfold restartPrompt; dsimp only; split <;> simp

/-! ### Answers on the link -/

@[simp] theorem offerLinkSummary_plant (s : State) : (offerLinkSummary s).plant = s.plant := rfl

@[simp] theorem setPause_plant (v : Bool) (s : State) : (setPause v s).plant = s.plant := by
  unfold setPause; split <;> simp

@[simp] theorem clearPending_plant (q : Request) (s : State) : (clearPending q s).plant = s.plant := by
  unfold clearPending; split <;> simp

@[simp] theorem beginTransaction_plant (q : Request) (s : State) : (beginTransaction q s).plant = s.plant := rfl

@[simp] theorem takeStep_plant (n : NestId) (s : State) : (takeStep n s).plant = s.plant := by
  unfold takeStep; split <;> simp

theorem takeHeld_plant {s t : State} (h : takeHeld s = some t) : t.plant = s.plant := by
  unfold takeHeld at h
  split at h
  · split at h <;> cases h <;> simp
  · cases h

@[simp] theorem giveHeld_plant (s : State) : (giveHeld s).plant = s.plant := by
  unfold giveHeld
  generalize Config.linkPlaces = k
  induction k generalizing s with
  | zero => rfl
  | succ k ih =>
    unfold giveHeldFuel
    split
    · rfl
    · rename_i t h; exact (ih t).trans (takeHeld_plant h)

theorem takeRecord_plant {s t : State} (h : takeRecord s = some t) : t.plant = s.plant := by
  unfold takeRecord at h
  split at h
  · cases h
    dsimp only
    split <;> simp
  · cases h

@[simp] theorem lineChanged_plant (d : NodeId) (b : Bool) (s : State) : (lineChanged d b s).plant = s.plant := by
  unfold lineChanged; dsimp only; split <;> simp

@[simp] theorem flushRequest_plant (q : Request) (s : State) : (flushRequest q s).plant = s.plant := by
  unfold flushRequest; split
  · unfold answer; simp_all
  all_goals rfl

@[simp] theorem restartLink_plant (s : State) : (restartLink s).plant = s.plant := by
  unfold restartLink
  dsimp only
  rw [forEach_keeps State.plant _ (fun d s => by simp), forEach_keeps State.plant _ (fun q s => by simp),
    forEach_keeps State.plant _ (fun d s => by simp)]
  simp

end Sys2Proof.Machine
end

