-- ==== Sys2Proof/Laws/Loops.lean ====
section
/-!
SUPPORT. What an update made for each number of a list leaves at one number of the table.
-/
namespace Sys2Proof.Machine

/-- Updating each listed number of a table once, by a change that only looks at the record itself. -/
theorem forEach_table {ι α : Type} [DecidableEq ι] {t : State → ι → α} {u : ι → State → State} {f : ι → α → α}
    (h : ∀ i s j, t (u i s) j = if j = i then f i (t s i) else t s j) (l : List ι) (hl : l.Nodup) (s : State) (j : ι) :
    t (s.forEach l u) j = if j ∈ l then f j (t s j) else t s j := by
  induction l generalizing s with
  | nil => simp
  | cons i l ih =>
    obtain ⟨hi, hl⟩ := List.nodup_cons.1 hl
    rw [forEach_cons, ih hl, h]
    by_cases hj : j = i
    · subst hj; simp [hi]
    · simp [hj]

theorem modTrack_get (t : TrackId) (f : Track → Track) (s : State) (j : TrackId) :
    (s.modTrack t f).tracks[j] = if j = t then f s.tracks[t] else s.tracks[j] := by
  simp only [modTrack_tracks, Fin.getElem_fin, Vector.getElem_set, ← Fin.ext_iff, eq_comm]

theorem modRail_get (r : RailId) (f : Rail → Rail) (s : State) (j : RailId) :
    (s.modRail r f).rails[j] = if j = r then f s.rails[r] else s.rails[j] := by
  simp only [modRail_rails, Fin.getElem_fin, Vector.getElem_set, ← Fin.ext_iff, eq_comm]

theorem modNest_get (n : NestId) (f : Nest → Nest) (s : State) (j : NestId) :
    (s.modNest n f).nests[j] = if j = n then f s.nests[n] else s.nests[j] := by
  simp only [modNest_nests, Fin.getElem_fin, Vector.getElem_set, ← Fin.ext_iff, eq_comm]

theorem modPort_get (p : NestId) (f : Port → Port) (s : State) (j : NestId) :
    (s.modPort p f).ports[j] = if j = p then f s.ports[p] else s.ports[j] := by
  simp only [modPort_ports, Fin.getElem_fin, Vector.getElem_set, ← Fin.ext_iff, eq_comm]

theorem modCapture_get (c : CaptureId) (f : Capture → Capture) (s : State) (j : CaptureId) :
    (s.modCapture c f).capture[j] = if j = c then f s.capture[c] else s.capture[j] := by
  simp only [modCapture_capture, Fin.getElem_fin, Vector.getElem_set, ← Fin.ext_iff, eq_comm]

theorem modInput_get (i : InputId) (f : Input → Input) (s : State) (j : InputId) :
    (s.modInput i f).inputs[j] = if j = i then f s.inputs[i] else s.inputs[j] := by
  simp only [modInput_inputs, Fin.getElem_fin, Vector.getElem_set, ← Fin.ext_iff, eq_comm]

theorem modCheck_get (c : CheckId) (f : Check → Check) (s : State) (j : CheckId) :
    (s.modCheck c f).checks[j] = if j = c then f s.checks[c] else s.checks[j] := by
  simp only [modCheck_checks, Fin.getElem_fin, Vector.getElem_set, ← Fin.ext_iff, eq_comm]

theorem modNode_get (d : NodeId) (f : Node → Node) (s : State) (j : NodeId) :
    (s.modNode d f).nodes[j] = if j = d then f s.nodes[d] else s.nodes[j] := by
  simp only [modNode_nodes, Fin.getElem_fin, Vector.getElem_set, ← Fin.ext_iff, eq_comm]

theorem modPrompt_get (n : NestId) (f : Prompt → Prompt) (s : State) (j : NestId) :
    (s.modPrompt n f).prompts[j] = if j = n then f s.prompts[n] else s.prompts[j] := by
  simp only [modPrompt_prompts, Fin.getElem_fin, Vector.getElem_set, ← Fin.ext_iff, eq_comm]

end Sys2Proof.Machine
end

