-- ==== Sys2Proof/Laws/Drain.lean ====
section
/-!
SUPPORT. What prompts and answers on the link leave unchanged: the bench, and every nest but one whose drain ends as its
prompt context enters FREE (R13, R151).
-/
namespace Sys2Proof.Machine

open Stated

/-! ### The end of a drain keeps the bench -/

@[simp] theorem probeOn_bench (n : NestId) (s : State) : (probeOn n s).bench = s.bench := rfl
@[simp] theorem probeOff_bench (n : NestId) (s : State) : (probeOff n s).bench = s.bench := rfl
@[simp] theorem offerNest_bench (n : NestId) (s : State) : (offerNest n s).bench = s.bench := rfl
@[simp] theorem offerInput_bench (i : InputId) (s : State) : (offerInput i s).bench = s.bench := rfl
@[simp] theorem postEvent_bench (e : Event) (s : State) : (postEvent e s).bench = s.bench :=
  bench_of_plant (postEvent_plant e s)

@[simp] theorem offerInputs_bench (n : NestId) (s : State) : (offerInputs n s).bench = s.bench := by
  unfold offerInputs
  exact forEach_keeps State.bench _ (fun j s => by simp) _ _

@[simp] theorem closeInputs_bench (n : NestId) (s : State) : (closeInputs n s).bench = s.bench := by
  have h : (s.forEach (List.finRange 8) fun j s => s.modInput (inputOf n j) Input.stop).bench = s.bench :=
    forEach_keeps State.bench _ (fun j s => by simp) _ _
  unfold closeInputs
  dsimp only
  split
  · exact h
  · rw [offerInputs_bench, h]

/-- An evaluation in a nest that is not OPEN only sets the status and offers it. -/
theorem evaluateInterlock_shut {n : NestId} {s : State} (h : s.nests[n].state ≠ .opened) :
    evaluateInterlock n s
      = if s.nests[n].interlock = interlockOf s n then s
        else offerNest n (s.modNest n fun x => { x with interlock := interlockOf s n }) := by
  unfold evaluateInterlock
  dsimp only
  split
  · rfl
  · have : ∀ old, interlockEffect n old (s.modNest n fun x => { x with interlock := interlockOf s n })
        = s.modNest n fun x => { x with interlock := interlockOf s n } := by
      intro old
      unfold interlockEffect
      split
      · rfl
      · simp only [modNest_nests, Fin.getElem_fin, Vector.getElem_set_self]
        exact if_pos h
    rw [this]

theorem evaluateInterlock_shut_bench {n : NestId} {s : State} (h : s.nests[n].state ≠ .opened) :
    (evaluateInterlock n s).bench = s.bench := by
  rw [evaluateInterlock_shut h]; split <;> simp

@[simp] theorem enterWaiting_bench (n : NestId) (s : State) : (enterWaiting n s).bench = s.bench := by
  unfold enterWaiting
  dsimp only
  rw [offerNest_bench, evaluateInterlock_shut_bench (by simp), modNest_bench, probeOn_bench]

@[simp] theorem leaveHeld_bench (n : NestId) (s : State) : (leaveHeld n s).bench = s.bench := by
  unfold leaveHeld; split <;> simp

@[simp] theorem drainEnd_bench (n : NestId) (s : State) : (drainEnd n s).bench = s.bench := by
  unfold drainEnd; dsimp only; split <;> simp

@[simp] theorem testDrain_bench (n : NestId) (s : State) : (testDrain n s).bench = s.bench := by
  unfold testDrain; split <;> simp

/-! ### The other nest -/

/-- The record, rails and inputs of one nest. -/
def State.ofNest (s : State) (n : NestId) :=
  (s.nests[n], (List.finRange 3).map (fun k => s.rails[railOf n k]), (List.finRange 8).map fun j => s.inputs[inputOf n j])

theorem ofNest_of_plant {s t : State} (h : s.plant = t.plant) (n : NestId) : s.ofNest n = t.ofNest n := by
  have hn : s.nests = t.nests := congrArg (fun p => p.2.1) h
  have hr : s.rails = t.rails := congrArg (fun p => p.2.2.1) h
  have hi : s.inputs = t.inputs := congrArg (fun p => p.2.2.2) h
  unfold State.ofNest
  rw [hn, hr, hi]

/-- Operation keeps all of nest n. -/
theorem forEach_ofNest {α : Type} (n : NestId) (f : α → State → State)
    (h : ∀ a s, (f a s).ofNest n = s.ofNest n) (l : List α) (s : State) :
    (s.forEach l f).ofNest n = s.ofNest n :=
  forEach_keeps (fun s => s.ofNest n) f h l s

theorem modNest_ofNest {m n : NestId} (h : m ≠ n) (f : Nest → Nest) (s : State) :
    (s.modNest m f).ofNest n = s.ofNest n := by
  unfold State.ofNest
  have : m.val ≠ n.val := fun e => h (Fin.ext e)
  simp [Vector.getElem_set_ne, this]

theorem modRail_ofNest {m n : NestId} (h : m ≠ n) (k : Fin 3) (f : Rail → Rail) (s : State) :
    (s.modRail (railOf m k) f).ofNest n = s.ofNest n := by
  unfold State.ofNest
  refine Prod.ext rfl (Prod.ext ?_ rfl)
  dsimp only
  refine List.map_congr_left fun j _ => ?_
  have hm : m.val ≠ n.val := fun e => h (Fin.ext e)
  have : (railOf m k).val ≠ (railOf n j).val := by unfold railOf; simp only; omega
  simp [Vector.getElem_set_ne, this]

theorem modInput_ofNest {m n : NestId} (h : m ≠ n) (k : Fin 8) (f : Input → Input) (s : State) :
    (s.modInput (inputOf m k) f).ofNest n = s.ofNest n := by
  unfold State.ofNest
  refine Prod.ext rfl (Prod.ext rfl ?_)
  dsimp only
  refine List.map_congr_left fun j _ => ?_
  have hm : m.val ≠ n.val := fun e => h (Fin.ext e)
  have : (inputOf m k).val ≠ (inputOf n j).val := by unfold inputOf; simp only; omega
  simp [Vector.getElem_set_ne, this]

theorem probeOn_ofNest {m n : NestId} (h : m ≠ n) (s : State) : (probeOn m s).ofNest n = s.ofNest n :=
  modRail_ofNest h 0 _ s

theorem offerNest_ofNest (m n : NestId) (s : State) : (offerNest m s).ofNest n = s.ofNest n := rfl

theorem postEvent_ofNest (e : Event) (n : NestId) (s : State) : (postEvent e s).ofNest n = s.ofNest n :=
  ofNest_of_plant (postEvent_plant e s) n

theorem offerInputs_ofNest (m n : NestId) (s : State) : (offerInputs m s).ofNest n = s.ofNest n :=
  forEach_ofNest n (fun j s => offerInput (inputOf m j) s) (fun _ _ => rfl) (List.finRange 8) s

theorem closeInputs_ofNest {m n : NestId} (h : m ≠ n) (s : State) :
    (closeInputs m s).ofNest n = s.ofNest n := by
  have hs : (s.forEach (List.finRange 8) fun j s => s.modInput (inputOf m j) Input.stop).ofNest n = s.ofNest n :=
    forEach_ofNest n _ (fun j s => modInput_ofNest h j _ s) _ _
  unfold closeInputs
  dsimp only
  split
  · exact hs
  · rw [offerInputs_ofNest, hs]

theorem enterWaiting_ofNest {m n : NestId} (h : m ≠ n) (s : State) :
    (enterWaiting m s).ofNest n = s.ofNest n := by
  unfold enterWaiting
  dsimp only
  rw [offerNest_ofNest, evaluateInterlock_shut (by simp)]
  split
  · rw [modNest_ofNest h, probeOn_ofNest h]
  · rw [offerNest_ofNest, modNest_ofNest h, modNest_ofNest h, probeOn_ofNest h]

theorem leaveHeld_ofNest {m n : NestId} (h : m ≠ n) (s : State) : (leaveHeld m s).ofNest n = s.ofNest n := by
  unfold leaveHeld
  split
  · exact enterWaiting_ofNest h s
  · rw [offerNest_ofNest, modNest_ofNest h]

theorem drainEnd_ofNest {m n : NestId} (h : m ≠ n) (s : State) : (drainEnd m s).ofNest n = s.ofNest n := by
  unfold drainEnd
  dsimp only
  split
  · rw [offerNest_ofNest, modNest_ofNest h, closeInputs_ofNest h, postEvent_ofNest]
  · rw [leaveHeld_ofNest h, closeInputs_ofNest h, postEvent_ofNest]


/-! ### The nest whose drain ends -/

/-- The other nest, its rails and its inputs are kept. -/
theorem nestKept_of_ofNest {n : NestId} {s t : State} (h : t.ofNest n = s.ofNest n) : NestKept n s t := by
  unfold State.ofNest at h
  simp only [Prod.mk.injEq, List.map_inj_left, List.mem_finRange, forall_const] at h
  exact ⟨h.1, fun k => h.2.1 k, fun j => h.2.2 j⟩

theorem stopInputs_get (n : NestId) (s : State) (j : Fin 8) :
    (s.forEach (List.finRange 8) fun j s => s.modInput (inputOf n j) Input.stop).inputs[inputOf n j]
      = s.inputs[inputOf n j].stop := by
  have h := forEach_table (t := fun s (j : Fin 8) => s.inputs[inputOf n j])
    (u := fun j s => s.modInput (inputOf n j) Input.stop) (f := fun _ x => x.stop)
    (fun i s j => by
      simp only [modInput_get]
      have : inputOf n j = inputOf n i ↔ j = i := by
        unfold inputOf; simp only [Fin.ext_iff]; omega
      simp only [this])
    (List.finRange 8) (List.nodup_finRange 8) s j
  simpa using h

theorem stopInputs_rest (n : NestId) (s : State) :
    ((s.forEach (List.finRange 8) fun j s => s.modInput (inputOf n j) Input.stop).nests = s.nests)
      ∧ (s.forEach (List.finRange 8) fun j s => s.modInput (inputOf n j) Input.stop).rails = s.rails :=
  ⟨forEach_keeps State.nests (fun j s => s.modInput (inputOf n j) Input.stop) (fun _ _ => rfl) _ _,
    forEach_keeps State.rails (fun j s => s.modInput (inputOf n j) Input.stop) (fun _ _ => rfl) _ _⟩

@[simp] theorem offerInputs_nests (n : NestId) (s : State) : (offerInputs n s).nests = s.nests :=
  forEach_keeps State.nests (fun j s => offerInput (inputOf n j) s) (fun _ _ => rfl) (List.finRange 8) s

@[simp] theorem offerInputs_rails (n : NestId) (s : State) : (offerInputs n s).rails = s.rails :=
  forEach_keeps State.rails (fun j s => offerInput (inputOf n j) s) (fun _ _ => rfl) (List.finRange 8) s

@[simp] theorem offerInputs_inputs (n : NestId) (s : State) : (offerInputs n s).inputs = s.inputs :=
  forEach_keeps State.inputs (fun j s => offerInput (inputOf n j) s) (fun _ _ => rfl) (List.finRange 8) s

@[simp] theorem closeInputs_nests (n : NestId) (s : State) : (closeInputs n s).nests = s.nests := by
  unfold closeInputs
  dsimp only
  split <;> simp [stopInputs_rest]

@[simp] theorem closeInputs_rails (n : NestId) (s : State) : (closeInputs n s).rails = s.rails := by
  unfold closeInputs
  dsimp only
  split <;> simp [stopInputs_rest]

theorem closeInputs_inputs (n : NestId) (s : State) (j : Fin 8) :
    (closeInputs n s).inputs[inputOf n j] = s.inputs[inputOf n j].stop := by
  unfold closeInputs
  dsimp only
  split
  · exact stopInputs_get n s j
  · simp only [offerInputs_inputs]; exact stopInputs_get n s j

@[simp] theorem postEvent_nests (e : Event) (s : State) : (postEvent e s).nests = s.nests :=
  congrArg (fun p => p.2.1) (postEvent_plant e s)

@[simp] theorem postEvent_rails (e : Event) (s : State) : (postEvent e s).rails = s.rails :=
  congrArg (fun p => p.2.2.1) (postEvent_plant e s)

@[simp] theorem postEvent_inputs (e : Event) (s : State) : (postEvent e s).inputs = s.inputs :=
  congrArg (fun p => p.2.2.2) (postEvent_plant e s)

theorem someRail_congr {s t : State} {n : NestId} (h : ∀ k : Fin 3, t.rails[railOf n k] = s.rails[railOf n k])
    (x : RailState) : someRail t n x = someRail s n x := by
  unfold someRail; simp only [h]

theorem restState_congr {s t : State} {n : NestId} (hp : t.path = s.path)
    (h : ∀ k : Fin 3, t.rails[railOf n k] = s.rails[railOf n k]) : restState t n = restState s n := by
  have h1 : autoArm t n = autoArm s n := by unfold autoArm nestWord cfg; rw [hp]
  have h2 : nestRecordInRange t n = nestRecordInRange s n := by
    unfold nestRecordInRange snapshotPeriod nestWord cfg; rw [hp]
  unfold restState; rw [h1, h2, someRail_congr h]

theorem path_of_bench {s t : State} (h : s.bench = t.bench) : s.path = t.path :=
  congrArg (fun b => b.2.2) (bus_of_bench h)

/-- What a nest becomes in WAITING, but for the interlock status. -/
theorem enterWaiting_nest (n : NestId) (s : State) :
    let y := (enterWaiting n s).nests[n]
    let x := s.nests[n]
    y.state = .waiting ∧ y.session = x.session ∧ y.clock = x.clock ∧ y.cause = x.cause ∧ y.seat = x.seat
      ∧ y.trip = x.trip := by
  unfold enterWaiting
  dsimp only
  rw [evaluateInterlock_shut (by simp)]
  split <;> simp [offerNest, offer, probeOn]

@[simp] theorem enterWaiting_inputs (n : NestId) (s : State) : (enterWaiting n s).inputs = s.inputs := by
  unfold enterWaiting
  dsimp only
  rw [evaluateInterlock_shut (by simp)]
  split <;> simp [offerNest, offer, probeOn]

theorem enterWaiting_rails (n : NestId) (s : State) : (enterWaiting n s).rails = (probeOn n s).rails := by
  unfold enterWaiting
  dsimp only
  rw [evaluateInterlock_shut (by simp)]
  split <;> simp [offerNest, offer]

theorem probeOn_get (n : NestId) (s : State) (k : Fin 3) :
    (probeOn n s).rails[railOf n k]
      = if k = 0 ∧ s.rails[railOf n k].state = .off then { s.rails[railOf n k] with state := .probe }
        else s.rails[railOf n k] := by
  unfold probeOn
  rw [modRail_get]
  have : railOf n k = railOf n 0 ↔ k = 0 := by unfold railOf; simp only [Fin.ext_iff]; omega
  by_cases h : k = 0
  · subst h; simp
  · simp [this, h]

/-- R14: what becomes of a nest that leaves HELD. -/
theorem leaveHeld_nest (n : NestId) (s : State) :
    let y := (leaveHeld n s).nests[n]
    let x := s.nests[n]
    y.state = restState s n ∧ y.session = x.session ∧ y.clock = x.clock ∧ y.cause = x.cause ∧ y.seat = x.seat
      ∧ y.trip = x.trip := by
  unfold leaveHeld restState
  split
  · exact enterWaiting_nest n s
  · simp [offerNest, offer]

@[simp] theorem leaveHeld_inputs (n : NestId) (s : State) : (leaveHeld n s).inputs = s.inputs := by
  unfold leaveHeld; split
  · simp
  · simp [offerNest, offer]

theorem leaveHeld_rails (n : NestId) (s : State) (k : Fin 3) :
    (leaveHeld n s).rails[railOf n k] =
      if restState s n = .waiting ∧ k = 0 ∧ s.rails[railOf n k].state = .off then
        { s.rails[railOf n k] with state := .probe }
      else s.rails[railOf n k] := by
  unfold leaveHeld restState
  split
  · simp only [enterWaiting_rails, probeOn_get, true_and]
  · simp [offerNest, offer]

/-- R13: the completion test, in words. -/
theorem drainComplete_iff (s : State) (n : NestId) :
    drainComplete s n = true ↔ s.nests[n].state = .draining ∧ s.prompts[n].state = .free
      ∧ ∀ k : Fin 3, s.rails[railOf n k].state = .off ∨ s.rails[railOf n k].state = .latched := by
  unfold drainComplete
  simp [and_assoc, allKinds, Fin.forall_fin_succ]

/-- R13, R14: the end of a drain. -/
theorem drainEnd_ended {n : NestId} {s : State} (h : drainComplete s n = true) : DrainEnded n s (drainEnd n s) := by
  obtain ⟨hd, _, hr⟩ := (drainComplete_iff s n).1 h
  unfold drainEnd
  dsimp only
  generalize hs1 : closeInputs n (postEvent (evSessionClose n s.nests[n].cause) s) = s1
  have hn : s1.nests = s.nests := by subst hs1; simp
  have hk : s1.rails = s.rails := by subst hs1; simp
  have hp : s1.path = s.path := by subst hs1; exact path_of_bench (by simp)
  have hi : ∀ j : Fin 8, s1.inputs[inputOf n j] = s.inputs[inputOf n j].stop := by
    subst hs1; intro j; rw [closeInputs_inputs]; simp
  refine ⟨hd, hr, ?_⟩
  rw [hn]
  split
  · simp only [offerNest, offer, modPost_nests, modNest_nests, modPost_rails, modNest_rails, modPost_inputs,
      modNest_inputs, Fin.getElem_fin, Vector.getElem_set_self, hn, hk]
    exact ⟨trivial, trivial, trivial, trivial, trivial, trivial, fun _ => by simp, hi⟩
  · have hl := leaveHeld_nest n s1
    have hrest : restState s1 n = restState s n := restState_congr hp fun k => by rw [hk]
    rw [hrest, hn] at hl
    refine ⟨hl.1, hl.2.1, hl.2.2.1, hl.2.2.2.1, hl.2.2.2.2.1, hl.2.2.2.2.2, fun k => ?_, fun j => ?_⟩
    · simp only [leaveHeld_rails, hrest, hk, hl.1]
    · simp only [leaveHeld_inputs, hi, Input.stop]

/-! ### Steps that leave the bench and all nests but a drain that ends -/

/-- The bench is as it was, and of the nests only drains have ended. -/
def Kept (s t : State) : Prop := t.bench = s.bench ∧ DrainsMayEnd s t

theorem nestKept_refl (n : NestId) (s : State) : NestKept n s s := ⟨rfl, fun _ => rfl, fun _ => rfl⟩

theorem kept_of_plant {s t : State} (h : t.plant = s.plant) : Kept s t :=
  ⟨bench_of_plant h, fun n => .inl (nestKept_of_ofNest (ofNest_of_plant h n))⟩

theorem kept_refl (s : State) : Kept s s := kept_of_plant rfl

theorem Kept.bus {s t : State} (h : Kept s t) : t.bus = s.bus := bus_of_bench h.1

theorem restState_ne_draining (s : State) (n : NestId) : restState s n ≠ .draining := by
  unfold restState; split <;> simp

theorem not_draining_of_ended {n : NestId} {s t : State} (h : DrainEnded n s t) : t.nests[n].state ≠ .draining := by
  rw [h.2.2.1]
  split
  · simp
  · exact restState_ne_draining s n

theorem Kept.trans {s t u : State} (h : Kept s t) (g : Kept t u) : Kept s u := by
  refine ⟨g.1.trans h.1, fun n => ?_⟩
  rcases h.2 n with ⟨a1, a2, a3⟩ | a <;> rcases g.2 n with ⟨b1, b2, b3⟩ | b
  · exact .inl ⟨b1.trans a1, fun k => (b2 k).trans (a2 k), fun j => (b3 j).trans (a3 j)⟩
  · right
    unfold DrainEnded at b ⊢
    simp only [a1, a2, a3, restState_congr (path_of_bench h.1) a2] at b
    exact b
  · right
    unfold DrainEnded at a ⊢
    simp only [b1, b2, b3]
    exact a
  · exact absurd b.1 (not_draining_of_ended a)

/-- R13: the completion test succeeds. -/
theorem testDrain_of_complete {n : NestId} {s : State} (h : drainComplete s n = true) : testDrain n s = drainEnd n s :=
  if_pos h

/-- R13: the completion test fails. -/
theorem testDrain_of_incomplete {n : NestId} {s : State} (h : drainComplete s n = false) : testDrain n s = s := by
  unfold testDrain; rw [h]; rfl

theorem testDrain_kept (n : NestId) (s : State) : Kept s (testDrain n s) := by
  refine ⟨testDrain_bench n s, fun m => ?_⟩
  unfold testDrain
  split
  · rename_i h
    by_cases e : n = m
    · subst e; exact .inr (drainEnd_ended h)
    · exact .inl (nestKept_of_ofNest (drainEnd_ofNest e s))
  · exact .inl (nestKept_refl m s)

theorem freeContext_kept (n : NestId) (s : State) : Kept s (freeContext n s) :=
  ((kept_of_plant (modPrompt_plant s n Prompt.free)).trans (testDrain_kept n _)).trans
    (kept_of_plant (takeHeads_plant decideCheck_plant n _))

theorem loadShowResult_kept (n : NestId) (k : PromptStep) (r : LinkResult) (s : State) :
    Kept s (loadShowResult n k r s) := by
  unfold loadShowResult
  split
  · apply kept_of_plant; split <;> simp
  · dsimp only
    refine (kept_of_plant (returnOutcome_plant n { verdict := .sourceFault, detail := detailLink r } s)).trans ?_
    split
    · exact kept_of_plant (enterClearing_plant n _)
    · exact freeContext_kept n _

theorem stepResult_kept (n : NestId) (q : BitVec 8) (k : PromptStep) (r : LinkResult) (s : State) :
    Kept s (stepResult n q k r s) := by
  unfold stepResult
  dsimp only
  repeat' split
  all_goals first
    | exact freeContext_kept n s
    | exact kept_of_plant (enterClearing_plant n s)
    | exact loadShowResult_kept n k r s
    | exact kept_refl s

theorem withdrawPrompt_kept (n : NestId) (s : State) : Kept s (withdrawPrompt n s) := by
  unfold withdrawPrompt
  split
  all_goals first
    | exact freeContext_kept n s
    | exact kept_of_plant (enterClearing_plant n s)
    | exact kept_of_plant (modPrompt_plant s n _)
    | exact kept_refl s

theorem drainPrompt_kept (n : NestId) (s : State) : Kept s (drainPrompt n s) :=
  (kept_of_plant (modPrompt_plant s n _)).trans (withdrawPrompt_kept n _)

theorem panelLost_kept (n : NestId) (d : NodeId) (s : State) : Kept s (panelLost n d s) := by
  unfold panelLost
  split
  · exact (kept_of_plant (by simp)).trans (freeContext_kept n _)
  · exact kept_refl s

theorem cancelPrompt_kept (c : CheckId) (x : CheckState) (s : State) : Kept s (cancelPrompt c x s) := by
  unfold cancelPrompt
  dsimp only
  split
  · exact kept_of_plant (modPrompt_plant ..)
  · exact withdrawPrompt_kept ..
  · exact kept_refl s

theorem answer_kept (q : Request) (r : LinkResult) (w : Word) (s : State) : Kept s (answer q r w s) := by
  unfold answer
  split
  · exact kept_refl s
  · exact kept_of_plant (postEvent_plant ..)
  · exact kept_of_plant (queryResult_plant ..)
  · exact stepResult_kept ..

theorem answerFlight_kept (t : Transaction) (r : LinkResult) (w : Word) (s : State) :
    Kept s (answerFlight t r w s) := by
  unfold answerFlight
  split
  · split
    · exact answer_kept ..
    · exact kept_refl s
    · exact kept_refl s
    · exact kept_refl s
  · exact answer_kept ..

theorem startTransaction_kept {s t : State} (h : startTransaction s = some t) : Kept s t := by
  unfold startTransaction at h
  split at h
  · cases h
  · split at h
    · dsimp only at h
      split at h <;> cases h
      · exact kept_of_plant (by simp)
      · exact ((kept_of_plant (by simp)).trans (answer_kept ..)).trans (kept_of_plant (clearPending_plant ..))
    · cases h

end Sys2Proof.Machine
end

