-- ==== Sys2Proof/Laws/Settle.lean ====
section
/-!
SUPPORT. The internal steps: induction over `settle`, what they leave unchanged, and that a nest that is not DRAINING
keeps its record, rails and inputs through them.
-/
namespace Sys2Proof.Machine

open Stated

/-! ### Induction over the internal steps -/

/-- What each test keeps, an internal step keeps. -/
theorem internalStep_induct {P : State → Prop}
    (h : ∀ f ∈ internalTests, ∀ s t, P s → f s = some t → P t) {s t : State} (hs : P s)
    (ht : internalStep s = some t) : P t := by
  unfold internalStep at ht
  obtain ⟨f, hf, hft⟩ := List.exists_of_findSome?_eq_some ht
  exact h f hf s t hs hft

theorem settleFuel_induct {P : State → Prop}
    (h : ∀ f ∈ internalTests, ∀ s t, P s → f s = some t → P t) (n : Nat) {s : State} (hs : P s) :
    P (settleFuel n s) := by
  induction n generalizing s with
  | zero => exact hs
  | succ n ih =>
    unfold settleFuel
    split
    · exact hs
    · rename_i t ht
      exact ih (internalStep_induct h hs ht)

/-- A property that every test keeps holds after the part has settled. -/
theorem settle_induct {P : State → Prop} (h : ∀ f ∈ internalTests, ∀ s t, P s → f s = some t → P t) {s : State}
    (hs : P s) : P (settle s) := settleFuel_induct h 512 hs

/-- A state in which no test succeeds is settled. -/
theorem settle_of_none {s : State} (h : internalStep s = none) : settle s = s := by
  unfold settle settleFuel
  rw [h]

theorem takeDrainEnd_kept {n : NestId} {s t : State} (h : takeDrainEnd n s = some t) : Kept s t := by
  have ht := testDrain_kept n s
  unfold takeDrainEnd at h
  unfold testDrain at ht
  split at h
  · rename_i hc; rw [if_pos hc] at ht; cases h; exact ht
  · cases h

theorem internalTest_kept {f : State → Option State} (hf : f ∈ internalTests) {s t : State}
    (h : f s = some t) : Kept s t := by
  simp only [internalTests, List.mem_cons, List.not_mem_nil, or_false] at hf
  rcases hf with rfl | rfl | rfl | rfl | rfl | rfl | rfl
  · exact takeDrainEnd_kept h
  · exact takeDrainEnd_kept h
  · exact kept_of_plant (takePrompt_plant h)
  · exact kept_of_plant (takePrompt_plant h)
  · exact startTransaction_kept h
  · exact kept_of_plant (takeHeld_plant h)
  · exact kept_of_plant (takeRecord_plant h)

/-- Settling keeps the bench, and of the nests only drains end. -/
theorem settle_kept (s : State) : Kept s (settle s) :=
  settle_induct (P := Kept s) (fun _ hf _ _ hs ht => hs.trans (internalTest_kept hf ht)) (kept_refl s)

/-- Settling changes neither the queue, memory and path nor supplies, tracks, outputs, claims and ports. -/
@[simp] theorem settle_bench (s : State) : (settle s).bench = s.bench := (settle_kept s).1

@[simp] theorem settle_bus (s : State) : (settle s).bus = s.bus := bus_of_bench (settle_bench s)
@[simp] theorem settle_pending (s : State) : (settle s).pending = s.pending := congrArg Prod.fst (settle_bus s)
@[simp] theorem settle_mem (s : State) : (settle s).mem = s.mem := congrArg (fun b => b.2.1) (settle_bus s)
@[simp] theorem settle_path (s : State) : (settle s).path = s.path := congrArg (fun b => b.2.2) (settle_bus s)
@[simp] theorem settle_supplies (s : State) : (settle s).supplies = s.supplies :=
  congrArg (fun b => b.2.1) (settle_bench s)
@[simp] theorem settle_tracks (s : State) : (settle s).tracks = s.tracks :=
  congrArg (fun b => b.2.2.1) (settle_bench s)
@[simp] theorem settle_outputs (s : State) : (settle s).outputs = s.outputs :=
  congrArg (fun b => b.2.2.2.1) (settle_bench s)
@[simp] theorem settle_claims (s : State) : (settle s).claims = s.claims :=
  congrArg (fun b => b.2.2.2.2.1) (settle_bench s)
@[simp] theorem settle_frameHolders (s : State) : (settle s).frameHolders = s.frameHolders :=
  congrArg (fun b => b.2.2.2.2.2.1) (settle_bench s)
@[simp] theorem settle_ports (s : State) : (settle s).ports = s.ports :=
  congrArg (fun b => b.2.2.2.2.2.2.1) (settle_bench s)
@[simp] theorem settle_capture (s : State) : (settle s).capture = s.capture :=
  congrArg (fun b => b.2.2.2.2.2.2.2) (settle_bench s)

/-! ### A nest that does not drain -/

/-- Settling changes nothing of a nest that is not DRAINING. -/
theorem settle_nestKept {n : NestId} {s : State} (hn : s.nests[n].state ≠ .draining) : NestKept n s (settle s) :=
  ((settle_kept s).2 n).resolve_right fun h => hn h.1

end Sys2Proof.Machine
end

