-- ==== Sys2Proof/Laws/Bus.lean ====
section
/-!
SUPPORT. Every operation but host stores, bursts and power-on reset leaves the command queue, memory and path as they
were.
-/
namespace Sys2Proof.Machine

theorem forEach_bus {α : Type} {f : α → State → State} (h : ∀ a s, (f a s).bus = s.bus) (l : List α) (s : State) :
    (s.forEach l f).bus = s.bus := forEach_keeps State.bus f h l s

@[simp] theorem offer_bus (p : Place) (v : List Word) (s : State) : (offer p v s).bus = s.bus := rfl
@[simp] theorem offerSummary_bus (s : State) : (offerSummary s).bus = s.bus := rfl
@[simp] theorem offerNest_bus (n : NestId) (s : State) : (offerNest n s).bus = s.bus := rfl
@[simp] theorem offerTrack_bus (t : TrackId) (s : State) : (offerTrack t s).bus = s.bus := rfl
@[simp] theorem offerRail_bus (r : RailId) (s : State) : (offerRail r s).bus = s.bus := rfl
@[simp] theorem offerInput_bus (i : InputId) (s : State) : (offerInput i s).bus = s.bus := rfl
@[simp] theorem postEvent_bus (e : Event) (s : State) : (postEvent e s).bus = s.bus :=
  bus_of_plant (postEvent_plant e s)

/-! ### Tracks -/

@[simp] theorem changeTrack_bus (t : TrackId) (f : Track → Track) (s : State) :
    (changeTrack t f s).bus = s.bus := rfl

@[simp] theorem idleOutput_bus (n : NestId) (o : Fin 16) (s : State) : (idleOutput n o s).bus = s.bus := rfl

@[simp] theorem idleClaimed_bus (t : TrackId) (s : State) : (idleClaimed t s).bus = s.bus :=
  forEach_bus (fun n s => forEach_bus (fun o s => by split <;> simp) _ _) _ _

@[simp] theorem releaseClaims_bus (t : TrackId) (s : State) : (releaseClaims t s).bus = s.bus :=
  forEach_bus (fun n s => by simp) _ _

@[simp] theorem idleNest_bus (n : NestId) (s : State) : (idleNest n s).bus = s.bus := rfl

@[simp] theorem unstall_bus (t : TrackId) (s : State) : (unstall t s).bus = s.bus :=
  forEach_bus (fun n s => by simp) _ _

@[simp] theorem applyTarget_bus (n : NestId) (e : Entry) (s : State) : (applyTarget n e s).bus = s.bus := by
  unfold applyTarget; split <;> simp

@[simp] theorem completeTrack_bus (t : TrackId) (s : State) : (completeTrack t s).bus = s.bus := by
  unfold completeTrack; simp

@[simp] theorem haltTrack_bus (c : TrackCause) (t : TrackId) (s : State) : (haltTrack c t s).bus = s.bus := by
  unfold haltTrack; simp

@[simp] theorem faultTrack_bus (c : TrackCause) (d : EntryDetail) (i g : Nat) (b : Bool) (t : TrackId) (s : State) :
    (faultTrack c d i g b t s).bus = s.bus := by
  unfold faultTrack; dsimp only; split <;> simp

@[simp] theorem deliverMark_bus (n : NestId) (m : Nat) (s : State) : (deliverMark n m s).bus = s.bus :=
  bus_of_plant (deliverMark_plant n m s)

@[simp] theorem afterPlay_bus (t : TrackId) (s : State) : (afterPlay t s).bus = s.bus := by
  unfold afterPlay
  dsimp only
  repeat' split
  all_goals simp

@[simp] theorem playHead_bus (t : TrackId) (s : State) : (playHead t s).bus = s.bus := by
  unfold playHead
  split
  · rfl
  · dsimp only; split <;> simp

@[simp] theorem countDrop_bus (t : TrackId) (s : State) : (countDrop t s).bus = s.bus := by
  unfold countDrop; simp

@[simp] theorem reportDrop_bus (f : Frame) (s : State) : (reportDrop f s).bus = s.bus := by
  unfold reportDrop; split <;> simp

@[simp] theorem queueAndPlay_bus (p : NestId) (t : TrackId) (e : Entry) (s : State) :
    (queueAndPlay p t e s).bus = s.bus := by
  unfold queueAndPlay; simp

@[simp] theorem submitFrame_bus (t : TrackId) (e : Entry) (s : State) : (submitFrame t e s).bus = s.bus := by
  unfold submitFrame
  dsimp only
  repeat' split
  all_goals simp

@[simp] theorem dropStalled_bus (t : TrackId) (s : State) : (dropStalled t s).bus = s.bus := by
  unfold dropStalled; simp

@[simp] theorem handleDue_bus (t : TrackId) (s : State) : (handleDue t s).bus = s.bus := by
  unfold handleDue
  repeat' split
  all_goals simp

@[simp] theorem underrunTest_bus (t : TrackId) (s : State) : (underrunTest t s).bus = s.bus := by
  unfold underrunTest
  dsimp only
  repeat' split
  all_goals simp

@[simp] theorem fetchEntry_bus (t : TrackId) (s : State) : (fetchEntry t s).bus = s.bus := by
  unfold fetchEntry
  dsimp only
  repeat' split
  all_goals simp

@[simp] theorem invalidateTrack_bus (w : Nat) (t : TrackId) (s : State) : (invalidateTrack w t s).bus = s.bus := by
  unfold invalidateTrack
  dsimp only
  repeat' split
  all_goals simp

@[simp] theorem invalidateEntries_bus (w : Nat) (s : State) : (invalidateEntries w s).bus = s.bus :=
  forEach_bus (fun t s => by simp) _ _

@[simp] theorem takeClaims_bus (t : TrackId) (s : State) : (takeClaims t s).bus = s.bus := by
  have h : (s.forEach (List.finRange 16) fun o s =>
      if claimsOutput s t o then s.setClaims (s.claims.set (claimOf (trackNest s t) o) (some t)) else s).bus
      = s.bus := forEach_bus (fun o s => by split <;> simp) _ _
  unfold takeClaims
  dsimp only
  have h' (n : NestId) : (s.forEach (List.finRange 16) fun o s =>
      if claimsOutput s t o then s.setClaims (s.claims.set (claimOf n o) (some t)) else s).bus
      = s.bus := forEach_bus (fun o s => by split <;> simp) _ _
  split
  · rw [modHolders_bus, h']
  · exact h' _

@[simp] theorem launchTrack_bus (t : TrackId) (s : State) : (launchTrack t s).bus = s.bus := by
  unfold launchTrack; simp

@[simp] theorem resumeTrack_bus (t : TrackId) (s : State) : (resumeTrack t s).bus = s.bus := by
  unfold resumeTrack; dsimp only; split <;> simp

@[simp] theorem haltForRail_bus (r : RailId) (s : State) : (haltForRail r s).bus = s.bus :=
  forEach_bus (fun t s => by split <;> simp) _ _

@[simp] theorem drainTracks_bus (n : NestId) (s : State) : (drainTracks n s).bus = s.bus := by
  unfold drainTracks
  rw [idleNest_bus]
  exact forEach_bus (fun t s => by split <;> simp) _ _

@[simp] theorem restartTrack_bus (t : TrackId) (s : State) : (restartTrack t s).bus = s.bus := by
  unfold restartTrack; split <;> simp

@[simp] theorem restartTracks_bus (s : State) : (restartTracks s).bus = s.bus := by
  unfold restartTracks
  rw [forEach_bus (fun n s => by simp), forEach_bus (fun t s => by simp)]

/-! ### Ports and inputs -/

@[simp] theorem dropQueue_bus (p : NestId) (s : State) : (dropQueue p s).bus = s.bus := by
  unfold dropQueue; rw [forEach_bus (fun f s => by simp), modPort_bus]

@[simp] theorem dropStallList_bus (p : NestId) (s : State) : (dropStallList p s).bus = s.bus := by
  unfold dropStallList; rw [forEach_bus (fun f s => by simp), modPort_bus]

@[simp] theorem offerPlace_bus (p : NestId) (s : State) : (offerPlace p s).bus = s.bus := by
  unfold offerPlace
  dsimp only
  repeat' split
  all_goals simp

@[simp] theorem dropBases_bus (n : NestId) (s : State) : (dropBases n s).bus = s.bus :=
  forEach_bus (fun j s => by simp) _ _

@[simp] theorem startPort_bus (p : NestId) (s : State) : (startPort p s).bus = s.bus := by
  unfold startPort; dsimp only; split <;> simp

@[simp] theorem stopPort_bus (p : NestId) (s : State) : (stopPort p s).bus = s.bus := by
  unfold stopPort; split <;> simp

@[simp] theorem frameAcked_bus (p : NestId) (i : Nat) (s : State) : (frameAcked p i s).bus = s.bus := by
  unfold frameAcked; simp

@[simp] theorem silencePort_bus (p : NestId) (f : Frame) (s : State) : (silencePort p f s).bus = s.bus := by
  unfold silencePort; simp

@[simp] theorem frameFails_bus (p : NestId) (i : Nat) (f : Frame) (s : State) :
    (frameFails p i f s).bus = s.bus := by
  unfold frameFails; dsimp only; split <;> simp

@[simp] theorem frameNotAcked_bus (p : NestId) (i : Nat) (f : Frame) (s : State) :
    (frameNotAcked p i f s).bus = s.bus := by
  unfold frameNotAcked; split <;> simp

@[simp] theorem captureFrame_bus (n : NestId) (f : DutFrame) (s : State) : (captureFrame n f s).bus = s.bus := by
  unfold captureFrame
  split
  · rfl
  · rw [bus_of_plant (feedSignatures_plant ..), modCapture_bus]

@[simp] theorem receiveFrame_bus (p : NestId) (f : DutFrame) (s : State) : (receiveFrame p f s).bus = s.bus := by
  unfold receiveFrame; dsimp only; split <;> simp

@[simp] theorem clearCapture_bus (n : NestId) (s : State) : (clearCapture n s).bus = s.bus :=
  forEach_bus (fun j s => by simp) _ _

@[simp] theorem drainPort_bus (p : NestId) (s : State) : (drainPort p s).bus = s.bus := by
  unfold drainPort; split <;> simp

@[simp] theorem restartPort_bus (p : NestId) (s : State) : (restartPort p s).bus = s.bus := by
  unfold restartPort; split <;> simp

@[simp] theorem restartInput_bus (i : InputId) (v : Int) (b : Bool) (s : State) :
    (restartInput i v b s).bus = s.bus := rfl

@[simp] theorem readInputs_bus (n : NestId) (v : Vector Int 8) (s : State) : (readInputs n v s).bus = s.bus :=
  forEach_bus (fun j s => by simp) _ _

@[simp] theorem openInputs_bus (n : NestId) (v : Vector Int 8) (s : State) : (openInputs n v s).bus = s.bus :=
  forEach_bus (fun j s => by simp) _ _

@[simp] theorem closeInputs_bus (n : NestId) (s : State) : (closeInputs n s).bus = s.bus :=
  bus_of_bench (closeInputs_bench n s)

@[simp] theorem offerInputs_bus (n : NestId) (s : State) : (offerInputs n s).bus = s.bus :=
  bus_of_bench (offerInputs_bench n s)

/-! ### Rails -/

@[simp] theorem railLost_bus (r : RailId) (s : State) : (railLost r s).bus = s.bus := by
  unfold railLost; rw [bus_of_plant (checksRailLost_plant ..), haltForRail_bus]

@[simp] theorem forceDependants_bus (n : NestId) (p : RailState → Bool) (s : State) :
    (forceDependants n p s).bus = s.bus :=
  forEach_bus (fun k s => by dsimp only; repeat' split
                             all_goals simp) _ _

@[simp] theorem faultDependants_bus (r : RailId) (x : RailState) (s : State) :
    (faultDependants r x s).bus = s.bus := by
  unfold faultDependants
  repeat' split
  all_goals simp

@[simp] theorem railFault_bus (c : RailCause) (b : Bool) (r : RailId) (s : State) :
    (railFault c b r s).bus = s.bus := by
  unfold railFault
  dsimp only
  repeat' split
  all_goals simp

@[simp] theorem forceOff_bus (n : NestId) (c : RailCause) (b : Bool) (s : State) :
    (forceOff n c b s).bus = s.bus :=
  forEach_bus (fun k s => by dsimp only; split <;> simp) _ _

@[simp] theorem railTrigger_bus (r : RailId) (b : Bool) (s : State) : (railTrigger r b s).bus = s.bus :=
  bus_of_plant (railTrigger_plant r b s)

@[simp] theorem railOffEffect_bus (r : RailId) (s : State) : (railOffEffect r s).bus = s.bus := by
  unfold railOffEffect
  dsimp only
  repeat' split
  all_goals simp

@[simp] theorem probeOn_bus (n : NestId) (s : State) : (probeOn n s).bus = s.bus := rfl
@[simp] theorem probeOff_bus (n : NestId) (s : State) : (probeOff n s).bus = s.bus := rfl

@[simp] theorem openRails_bus (n : NestId) (s : State) : (openRails n s).bus = s.bus := by
  unfold openRails; rw [forEach_bus (fun k s => by simp), probeOff_bus]

@[simp] theorem measureNest_bus (n : NestId) (m : NestReading) (s : State) : (measureNest n m s).bus = s.bus := by
  unfold measureNest; dsimp only; rw [modSupply_bus, forEach_bus (fun k s => by simp), modSupply_bus]

@[simp] theorem chargeRail_bus (r : RailId) (s : State) : (chargeRail r s).bus = s.bus := by
  unfold chargeRail
  dsimp only
  repeat' split
  all_goals simp

@[simp] theorem chargeNest_bus (n : NestId) (s : State) : (chargeNest n s).bus = s.bus :=
  forEach_bus (fun k s => by simp) _ _

@[simp] theorem superviseSupply_bus (n : NestId) (a b : Bool) (s : State) :
    (superviseSupply n a b s).bus = s.bus := by
  unfold superviseSupply
  dsimp only
  repeat' split
  · rw [forEach_bus (fun k s => by split <;> simp)]; simp
  · simp
  · simp

@[simp] theorem endFaultWait_bus (r : RailId) (s : State) : (endFaultWait r s).bus = s.bus := by
  unfold endFaultWait; split <;> simp

@[simp] theorem endRetryTest_bus (r : RailId) (s : State) : (endRetryTest r s).bus = s.bus := by
  unfold endRetryTest; dsimp only; split <;> simp

@[simp] theorem endDischarge_bus (r : RailId) (s : State) : (endDischarge r s).bus = s.bus := by
  unfold endDischarge; dsimp only; split <;> simp

@[simp] theorem applyRailAct_bus (r : RailId) (a : RailAct) (s : State) : (applyRailAct r a s).bus = s.bus := by
  unfold applyRailAct; split <;> simp

@[simp] theorem offerRails_bus (n : NestId) (s : State) : (offerRails n s).bus = s.bus :=
  forEach_bus (fun k s => by simp) _ _

/-! ### Nests -/

@[simp] theorem interlockTrip_bus (n : NestId) (d : NodeId) (s : State) : (interlockTrip n d s).bus = s.bus := by
  unfold interlockTrip; simp

@[simp] theorem interlockRestored_bus (n : NestId) (d : NodeId) (s : State) :
    (interlockRestored n d s).bus = s.bus := by
  unfold interlockRestored; simp

@[simp] theorem interlockEffect_bus (n : NestId) (x : Interlock) (s : State) :
    (interlockEffect n x s).bus = s.bus := by
  unfold interlockEffect
  dsimp only
  repeat' split
  all_goals simp

@[simp] theorem evaluateInterlock_bus (n : NestId) (s : State) : (evaluateInterlock n s).bus = s.bus := by
  unfold evaluateInterlock; dsimp only; split <;> simp

@[simp] theorem evaluateNode_bus (d : NodeId) (s : State) : (evaluateNode d s).bus = s.bus :=
  forEach_bus (fun n s => by split <;> simp) _ _

@[simp] theorem enterWaiting_bus (n : NestId) (s : State) : (enterWaiting n s).bus = s.bus :=
  bus_of_bench (enterWaiting_bench n s)

@[simp] theorem leaveHeld_bus (n : NestId) (s : State) : (leaveHeld n s).bus = s.bus :=
  bus_of_bench (leaveHeld_bench n s)

@[simp] theorem drainEnd_bus (n : NestId) (s : State) : (drainEnd n s).bus = s.bus :=
  bus_of_bench (drainEnd_bench n s)

@[simp] theorem testDrain_bus (n : NestId) (s : State) : (testDrain n s).bus = s.bus := (testDrain_kept n s).bus

@[simp] theorem enterDrain_bus (n : NestId) (c : DrainCause) (s : State) : (enterDrain n c s).bus = s.bus := by
  unfold enterDrain
  dsimp only
  rw [offerNest_bus, modNest_bus, forceOff_bus, (drainPrompt_kept ..).bus,
    bus_of_plant (abortChecks_plant ..), drainPort_bus, drainTracks_bus, modNest_bus]

@[simp] theorem drainEntry_bus (n : NestId) (c : DrainCause) (s : State) : (drainEntry n c s).bus = s.bus := by
  unfold drainEntry; simp

@[simp] theorem seatOpened_bus (n : NestId) (s : State) : (seatOpened n s).bus = s.bus := by
  unfold seatOpened; split <;> simp

@[simp] theorem seatStep_bus (n : NestId) (b : Bool) (s : State) : (seatStep n b s).bus = s.bus := by
  unfold seatStep
  dsimp only
  repeat' split
  all_goals simp

@[simp] theorem attachNest_bus (n : NestId) (m : NestReading) (s : State) : (attachNest n m s).bus = s.bus := by
  unfold attachNest; simp

@[simp] theorem attachStep_bus (n : NestId) (m : NestReading) (b : Bool) (s : State) :
    (attachStep n m b s).bus = s.bus := by
  unfold attachStep
  dsimp only
  repeat' split
  all_goals simp

@[simp] theorem snapshotExpiry_bus (n : NestId) (s : State) : (snapshotExpiry n s).bus = s.bus := by
  unfold snapshotExpiry; simp

@[simp] theorem restartNest_bus (n : NestId) (s : State) : (restartNest n s).bus = s.bus := by
  unfold restartNest; dsimp only; split <;> simp

/-! ### Link -/

@[simp] theorem offerLinkSummary_bus (s : State) : (offerLinkSummary s).bus = s.bus := rfl

@[simp] theorem handOn_bus (d : NodeId) (s : State) : (handOn d s).bus = s.bus := by
  unfold handOn
  rw [forEach_bus (fun n s => (panelLost_kept n d s).bus), evaluateNode_bus]

@[simp] theorem bringIntoService_bus (d : NodeId) (s : State) : (bringIntoService d s).bus = s.bus := by
  unfold bringIntoService; rw [bus_of_plant (offerPoll_plant ..), modNode_bus]

@[simp] theorem disableNode_bus (d : NodeId) (s : State) : (disableNode d s).bus = s.bus := by
  unfold disableNode; dsimp only; split <;> simp

@[simp] theorem restoreNode_bus (d : NodeId) (s : State) : (restoreNode d s).bus = s.bus := by
  unfold restoreNode; simp

@[simp] theorem answerFlight_bus (t : Transaction) (r : LinkResult) (w : Word) (s : State) :
    (answerFlight t r w s).bus = s.bus := (answerFlight_kept t r w s).bus

@[simp] theorem takeStatus_bus (q : Request) (w : Word) (s : State) : (takeStatus q w s).bus = s.bus := by
  unfold takeStatus
  dsimp only
  rw [bus_of_plant (panelWord_plant ..), bus_of_plant (serviceTrigger_plant ..), evaluateNode_bus]
  split <;> simp

@[simp] theorem finishTransaction_bus (t : Transaction) (r : LinkResult) (l : List Word) (s : State) :
    (finishTransaction t r l s).bus = s.bus := by
  unfold finishTransaction
  dsimp only
  rw [modLink_bus, bus_of_plant (clearPending_plant ..), answerFlight_bus]
  split <;> simp

theorem takeBlock_bus {s t : State} (h : takeBlock s = some t) : t.bus = s.bus := by
  unfold takeBlock at h
  split at h
  · split at h
    · cases h; rw [finishTransaction_bus, modLink_bus, bus_of_plant (pushBlock_plant ..)]
    · cases h
  · cases h

@[simp] theorem testBlock_bus (s : State) : (testBlock s).bus = s.bus := by
  unfold testBlock
  cases h : takeBlock s with
  | none => rfl
  | some t => exact takeBlock_bus h

@[simp] theorem completeAttempt_bus (t : Transaction) (c : ReplyCode) (l : List Word) (s : State) :
    (completeAttempt t c l s).bus = s.bus := by
  unfold completeAttempt
  split
  · unfold handOff; simp
  · simp

@[simp] theorem linkErrorTaken_bus (t : Transaction) (e : LinkError) (s : State) :
    (linkErrorTaken t e s).bus = s.bus := by
  unfold linkErrorTaken
  split
  · unfold loseNode; simp
  · simp

/-! ### Samples -/

@[simp] theorem beforeRails_bus (n : NestId) (m : NestReading) (s : State) :
    (beforeRails n m s).bus = s.bus := by
  unfold beforeRails; simp

@[simp] theorem railTurn_bus (n : NestId) (m : NestReading) (s0 : State) (k : Fin 3) (s : State) :
    (railTurn n m s0 k s).bus = s.bus := by
  unfold railTurn; dsimp only; split <;> simp

@[simp] theorem afterRails_bus (n : NestId) (m : NestReading) (s : State) : (afterRails n m s).bus = s.bus := by
  unfold afterRails atTurn; rw [forEach_bus (fun k s => by simp), beforeRails_bus]

@[simp] theorem sampleNest_bus (n : NestId) (m : NestReading) (s : State) : (sampleNest n m s).bus = s.bus := by
  unfold sampleNest handSeat; simp

@[simp] theorem sampleIf_bus (b : Bool) (n : NestId) (m : NestReading) (s : State) :
    (sampleIf b n m s).bus = s.bus := by
  unfold sampleIf; split <;> simp

end Sys2Proof.Machine
end

