-- ==== Sys2Proof/Laws/Fetch.lean ====
section
/-!
SUPPORT. The memory port with a fetch on it: what a grant, a completion and a microsecond leave.
-/
namespace Sys2Proof.Machine

/-- R167: while a burst is on the port nothing is granted. -/
theorem grant_of_burst {s : State} {t : TrackId} (h : s.path.burst = some t) : grant s = none := by
  unfold grant; rw [h]; rfl

/-- R167: the port is free where it is granted. -/
theorem burst_of_grant {s : State} {c : Client} (h : grant s = some c) : s.path.burst = none := by
  cases hb : s.path.burst with
  | none => rfl
  | some t => rw [grant_of_burst hb] at h; cases h

theorem grantFetch_of_urgentFetch {s : State} {t : TrackId} (h : grant s = some (.urgentFetch t)) :
    grantFetch s = s.modPath fun p => { p with urgentTurn := t, burst := some t } := by
  unfold grantFetch; rw [h]

theorem grantFetch_of_fetch {s : State} {t : TrackId} (h : grant s = some (.fetch t)) :
    grantFetch s = s.modPath fun p => { p with backTurn := t.castSucc, burst := some t } := by
  unfold grantFetch; rw [h]

theorem grantFetch_of_burst {s : State} {t : TrackId} (h : s.path.burst = some t) : grantFetch s = s := by
  unfold grantFetch; rw [grant_of_burst h]

/-- A grant of a fetch touches the path alone. -/
theorem grantFetch_eq (s : State) : grantFetch s = { s with path := (grantFetch s).path } := by
  unfold grantFetch; split <;> rfl

/-- A grant of a fetch leaves the words that the shadow holds. -/
@[simp] theorem grantFetch_shadow (s : State) : (grantFetch s).path.shadow = s.path.shadow := by
  unfold grantFetch; split <;> rfl

@[simp] theorem grantFetch_mem (s : State) : (grantFetch s).mem = s.mem := by rw [grantFetch_eq]

@[simp] theorem grantFetch_pending (s : State) : (grantFetch s).pending = s.pending := by rw [grantFetch_eq]

/-- R52: the fetch of an active track takes the entry in memory. -/
theorem completeFetch_of_active {s : State} {t : TrackId} (h : s.tracks[t].state.active = true) :
    completeFetch t s = fetchEntry t (s.modPath fun p => { p with burst := none }) := by
  unfold completeFetch; exact if_pos h

/-- R169: the entry of a track that is no longer active is dropped. -/
theorem completeFetch_of_inactive {s : State} {t : TrackId} (h : s.tracks[t].state.active = false) :
    completeFetch t s = s.modPath fun p => { p with burst := none } := by
  unfold completeFetch
  exact if_neg (by rw [show (s.modPath fun p => { p with burst := none }).tracks = s.tracks from rfl, h]; decide)

/-- The counts of time touch neither the queue nor memory nor the path. -/
@[simp] theorem tick_bus (s : State) : (tick s).bus = s.bus := by
  unfold tick
  rw [modLink_bus, forEach_bus (fun n s => by simp), forEach_bus (fun t s => by simp),
    forEach_bus (fun n s => by simp)]

/-- The counts of time touch neither the queue nor memory nor the path. -/
theorem microsecond_bus (s : State) : (microsecond s).bus = (grantFetch s).bus := tick_bus _

end Sys2Proof.Machine
end

