-- ==== Sys2Proof/Laws/Memory.lean ====
section
/-!
SUPPORT. What the memory and shadow operations do: the canonical form is kept, a read after a write, and whole words.
-/
namespace Sys2Proof.Machine

/-! ### Canonical form -/

theorem Sparse.wf_weaken {w hi lo lo' : Nat} {m : List (Nat × BitVec w)} (h : lo' ≤ lo)
    (hm : Sparse.wf hi lo m = true) : Sparse.wf hi lo' m = true := by
  cases m with
  | nil => rfl
  | cons c r =>
    simp only [Sparse.wf, Bool.and_eq_true, decide_eq_true_eq] at hm ⊢
    exact ⟨⟨⟨Nat.le_trans h hm.1.1.1, hm.1.1.2⟩, hm.1.2⟩, hm.2⟩

theorem Sparse.wf_write {w hi lo : Nat} {m : List (Nat × BitVec w)} {a : Nat} {v : BitVec w}
    (hm : Sparse.wf hi lo m = true) (hlo : lo ≤ a) (hhi : a < hi) :
    Sparse.wf hi lo (Sparse.write m a v) = true := by
  induction m generalizing lo with
  | nil =>
    unfold Sparse.write
    split
    · rfl
    · simp only [Sparse.wf, Bool.and_eq_true, decide_eq_true_eq]
      exact ⟨⟨⟨hlo, hhi⟩, by assumption⟩, trivial⟩
  | cons c r ih =>
    obtain ⟨k, x⟩ := c
    simp only [Sparse.wf, Bool.and_eq_true, decide_eq_true_eq] at hm
    obtain ⟨⟨⟨h1, h2⟩, h3⟩, h4⟩ := hm
    unfold Sparse.write
    split
    · split
      · simp only [Sparse.wf, Bool.and_eq_true, decide_eq_true_eq]
        exact ⟨⟨⟨h1, h2⟩, h3⟩, h4⟩
      · simp only [Sparse.wf, Bool.and_eq_true, decide_eq_true_eq]
        refine ⟨⟨⟨hlo, hhi⟩, by assumption⟩, ⟨⟨by omega, h2⟩, h3⟩, h4⟩
    · split
      · split
        · exact Sparse.wf_weaken (by omega) h4
        · simp only [Sparse.wf, Bool.and_eq_true, decide_eq_true_eq]
          subst_vars
          exact ⟨⟨⟨h1, h2⟩, by assumption⟩, h4⟩
      · simp only [Sparse.wf, Bool.and_eq_true, decide_eq_true_eq]
        exact ⟨⟨⟨h1, h2⟩, h3⟩, ih h4 (by omega)⟩

/-! ### Reads -/

theorem Sparse.read_below {w hi lo : Nat} {m : List (Nat × BitVec w)} {b : Nat}
    (hm : Sparse.wf hi lo m = true) (h : b < lo) : Sparse.read m b = 0 := by
  induction m generalizing lo with
  | nil => rfl
  | cons c r ih =>
    obtain ⟨k, x⟩ := c
    simp only [Sparse.wf, Bool.and_eq_true, decide_eq_true_eq] at hm
    obtain ⟨⟨⟨h1, h2⟩, h3⟩, h4⟩ := hm
    have : k ≠ b := by omega
    simp only [Sparse.read, this, if_false]
    exact ih h4 (by omega)

/-- A read of another key is not changed, whatever the form of the list. -/
theorem Sparse.read_write_ne {w : Nat} (m : List (Nat × BitVec w)) (a b : Nat) (v : BitVec w) (h : b ≠ a) :
    Sparse.read (Sparse.write m a v) b = Sparse.read m b := by
  induction m with
  | nil =>
    unfold Sparse.write
    split
    · rfl
    · simp only [Sparse.read, h.symm, if_false]
  | cons c r ih =>
    obtain ⟨k, x⟩ := c
    unfold Sparse.write
    split
    · split
      · rfl
      · simp [Sparse.read, h.symm]
    · split
      · subst_vars
        split <;> simp [Sparse.read, h.symm]
      · simp only [Sparse.read]
        split
        · rfl
        · exact ih

/-- A read of the written key gives the value written. -/
theorem Sparse.read_write_eq {w hi lo : Nat} {m : List (Nat × BitVec w)} {a : Nat} {v : BitVec w}
    (hm : Sparse.wf hi lo m = true) : Sparse.read (Sparse.write m a v) a = v := by
  induction m generalizing lo with
  | nil =>
    unfold Sparse.write
    split
    · rename_i hv
      exact hv.symm
    · simp only [Sparse.read, if_true]
  | cons c r ih =>
    obtain ⟨k, x⟩ := c
    have hw := hm
    simp only [Sparse.wf, Bool.and_eq_true, decide_eq_true_eq] at hm
    obtain ⟨⟨⟨h1, h2⟩, h3⟩, h4⟩ := hm
    unfold Sparse.write
    split
    · rename_i hlt
      split
      · rename_i hv
        subst hv
        have hne : k ≠ a := by omega
        simp only [Sparse.read, hne, if_false]
        exact Sparse.read_below h4 (by omega)
      · simp [Sparse.read]
    · split
      · rename_i hak
        subst hak
        split
        · rename_i hv
          subst hv
          exact Sparse.read_below h4 (by omega)
        · simp [Sparse.read]
      · rename_i hne
        have : k ≠ a := fun e => hne e.symm
        simp only [Sparse.read, this, if_false]
        exact ih h4

/-! ### Bytes and words of memory -/

theorem byteAddress_lt (w i : Nat) (h : i < 4) : byteAddress w i < memorySize := by
  unfold byteAddress memorySize
  have := Nat.mod_lt w (show 4194304 > 0 by omega)
  omega

theorem writeLane_wf {m : List Host.Cell} (lanes : BitVec 4) (v : Word) (w i : Nat) (h : i < 4)
    (hm : Memory.wf m = true) : Memory.wf (writeLane lanes v w i m) = true := by
  unfold writeLane
  split
  · exact Sparse.wf_write hm (Nat.zero_le _) (byteAddress_lt w i h)
  · exact hm

theorem writeLanes_wf {m : List Host.Cell} (w : Nat) (lanes : BitVec 4) (v : Word) (hm : Memory.wf m = true) :
    Memory.wf (writeLanes m w lanes v) = true := by
  unfold writeLanes
  exact writeLane_wf _ _ _ _ (by omega) (writeLane_wf _ _ _ _ (by omega)
    (writeLane_wf _ _ _ _ (by omega) (writeLane_wf _ _ _ _ (by omega) hm)))

theorem writeWord_wf {m : List Host.Cell} (w : Nat) (v : Word) (hm : Memory.wf m = true) :
    Memory.wf (writeWord m w v) = true := writeLanes_wf w _ v hm

theorem writeWords_wf {m : List Host.Cell} (w : Nat) (l : List Word) (hm : Memory.wf m = true) :
    Memory.wf (writeWords m w l) = true := by
  induction l generalizing m w with
  | nil => exact hm
  | cons v r ih => exact ih (w + 1) (writeWord_wf w v hm)

/-- One lane: a byte that is not the lane's reads as before. -/
theorem readByte_writeLane_ne (m : List Host.Cell) (lanes : BitVec 4) (v : Word) (w i a : Nat)
    (h : a ≠ byteAddress w i) : readByte (writeLane lanes v w i m) a = readByte m a := by
  unfold writeLane readByte
  split
  · exact Sparse.read_write_ne m _ _ _ h
  · rfl

/-- One lane: the lane's byte reads as the value's byte if it is enabled, and as before otherwise. -/
theorem readByte_writeLane_eq {m : List Host.Cell} (lanes : BitVec 4) (v : Word) (w i : Nat)
    (hm : Memory.wf m = true) :
    readByte (writeLane lanes v w i m) (byteAddress w i)
      = if lanes.getLsbD i then byteOf v i else readByte m (byteAddress w i) := by
  unfold writeLane readByte
  split
  · exact Sparse.read_write_eq hm
  · rfl

/-- A byte outside the word reads as before. -/
theorem readByte_writeLanes_ne (m : List Host.Cell) (w : Nat) (lanes : BitVec 4) (v : Word) (a : Nat)
    (h : ∀ i, i < 4 → a ≠ byteAddress w i) : readByte (writeLanes m w lanes v) a = readByte m a := by
  unfold writeLanes
  rw [readByte_writeLane_ne _ _ _ _ _ _ (h 3 (by omega)), readByte_writeLane_ne _ _ _ _ _ _ (h 2 (by omega)),
    readByte_writeLane_ne _ _ _ _ _ _ (h 1 (by omega)), readByte_writeLane_ne _ _ _ _ _ _ (h 0 (by omega))]

theorem byteAddress_ne (w : Nat) {i j : Nat} (h : i ≠ j) : byteAddress w i ≠ byteAddress w j := by
  unfold byteAddress; omega

/-- Each byte of the word takes its enabled lane and keeps the others. -/
theorem readByte_writeLanes {m : List Host.Cell} (w : Nat) (lanes : BitVec 4) (v : Word) (i : Nat) (h : i < 4)
    (hm : Memory.wf m = true) :
    readByte (writeLanes m w lanes v) (byteAddress w i)
      = if lanes.getLsbD i then byteOf v i else readByte m (byteAddress w i) := by
  have h0 := writeLane_wf lanes v w 0 (by omega) hm
  have h1 := writeLane_wf lanes v w 1 (by omega) h0
  have h2 := writeLane_wf lanes v w 2 (by omega) h1
  have ne (j : Nat) (hj : i ≠ j) (x : List Host.Cell) :
      readByte (writeLane lanes v w j x) (byteAddress w i) = readByte x (byteAddress w i) :=
    readByte_writeLane_ne x lanes v w j _ (byteAddress_ne w hj)
  unfold writeLanes
  match i, h with
  | 0, _ => rw [ne 3 (by omega), ne 2 (by omega), ne 1 (by omega), readByte_writeLane_eq _ _ _ _ hm]
  | 1, _ => rw [ne 3 (by omega), ne 2 (by omega), readByte_writeLane_eq _ _ _ _ h0, ne 0 (by omega)]
  | 2, _ =>
    rw [ne 3 (by omega), readByte_writeLane_eq _ _ _ _ h1, ne 1 (by omega), ne 0 (by omega)]
  | 3, _ =>
    rw [readByte_writeLane_eq _ _ _ _ h2, ne 2 (by omega), ne 1 (by omega), ne 0 (by omega)]

/-- The four bytes of a word make the word. -/
theorem bytes_word (v : Word) : byteOf v 3 ++ byteOf v 2 ++ byteOf v 1 ++ byteOf v 0 = v := by
  ext i hi
  simp only [byteOf, BitVec.getElem_append, BitVec.getElem_extractLsb', BitVec.getLsbD]
  split
  · simp only [BitVec.getElem_eq_testBit_toNat]; congr 1; omega
  · split
    · simp only [BitVec.getElem_eq_testBit_toNat]; congr 1; omega
    · split <;> simp only [BitVec.getElem_eq_testBit_toNat] <;> congr 1 <;> omega

/-- A whole word reads back. -/
theorem readWord_writeWord {m : List Host.Cell} (w : Nat) (v : Word) (hm : Memory.wf m = true) :
    readWord (writeWord m w v) w = v := by
  have b (i : Nat) (h : i < 4) : readByte (writeLanes m w 0xF#4 v) (byteAddress w i) = byteOf v i := by
    rw [readByte_writeLanes w _ v i h hm]
    match i, h with
    | 0, _ | 1, _ | 2, _ | 3, _ => rfl
  unfold readWord writeWord
  rw [b 0 (by omega), b 1 (by omega), b 2 (by omega), b 3 (by omega)]
  exact bytes_word v

/-- Words with other numbers of the space read as before. -/
theorem readByte_writeWord_ne (m : List Host.Cell) (w : Nat) (v : Word) (a : Nat)
    (h : ∀ i, i < 4 → a ≠ byteAddress w i) : readByte (writeWord m w v) a = readByte m a :=
  readByte_writeLanes_ne m w _ v a h

/-- Bytes outside a run of words read as before. -/
theorem readByte_writeWords_ne (m : List Host.Cell) (w : Nat) (l : List Word) (a : Nat)
    (h : ∀ k, k < l.length → ∀ i, i < 4 → a ≠ byteAddress (w + k) i) :
    readByte (writeWords m w l) a = readByte m a := by
  induction l generalizing m w with
  | nil => rfl
  | cons v r ih =>
    unfold writeWords
    rw [ih (writeWord m w v) (w + 1) fun k hk i hi => by
      have := h (k + 1) (by simp only [List.length_cons]; omega) i hi
      rwa [show w + 1 + k = w + (k + 1) by omega]]
    exact readByte_writeWord_ne m w v a fun i hi => h 0 (by simp) i hi

/-- A word beside a run of words reads as before. -/
theorem readWord_writeWord_ne (m : List Host.Cell) (w x : Nat) (v : Word) (h : x % 4194304 ≠ w % 4194304) :
    readWord (writeWord m w v) x = readWord m x := by
  have ne (j i : Nat) (hj : j < 4) (hi : i < 4) : byteAddress x j ≠ byteAddress w i := by
    unfold byteAddress; omega
  unfold readWord
  rw [readByte_writeWord_ne m w v _ fun i hi => ne 0 i (by omega) hi,
    readByte_writeWord_ne m w v _ fun i hi => ne 1 i (by omega) hi,
    readByte_writeWord_ne m w v _ fun i hi => ne 2 i (by omega) hi,
    readByte_writeWord_ne m w v _ fun i hi => ne 3 i (by omega) hi]

theorem readWord_writeWords_ne (m : List Host.Cell) (w x : Nat) (l : List Word)
    (h : ∀ k, k < l.length → x % 4194304 ≠ (w + k) % 4194304) :
    readWord (writeWords m w l) x = readWord m x := by
  induction l generalizing m w with
  | nil => rfl
  | cons v r ih =>
    unfold writeWords
    rw [ih (writeWord m w v) (w + 1) fun k hk => by
      have := h (k + 1) (by simp only [List.length_cons]; omega)
      rwa [show w + 1 + k = w + (k + 1) by omega]]
    exact readWord_writeWord_ne m w x v (h 0 (by simp))

/-- A run of words reads back, word by word. -/
theorem readWord_writeWords {m : List Host.Cell} (w : Nat) (l : List Word) (k : Nat) (hk : k < l.length)
    (hl : l.length ≤ 4194304) (hm : Memory.wf m = true) : readWord (writeWords m w l) (w + k) = l[k] := by
  induction l generalizing m w k with
  | nil => exact absurd hk (Nat.not_lt_zero k)
  | cons v r ih =>
    simp only [List.length_cons] at hk hl
    unfold writeWords
    cases k with
    | zero =>
      rw [readWord_writeWords_ne _ _ _ _ fun j hj => by omega]
      exact readWord_writeWord w v hm
    | succ k =>
      rw [show w + (k + 1) = w + 1 + k by omega,
        ih (w + 1) k (by omega) (by omega) (writeWord_wf w v hm)]
      rfl

end Sys2Proof.Machine
end

