-- ==== Sys2Proof/Laws/Verdicts.lean ====
section
/-!
SUPPORT. A decided check has its verdict held or posted, whatever the AFTER chain decides besides.
-/
namespace Sys2Proof.Machine

/-- The verdict a decision of check c makes in state s (R117). -/
def verdictOf (s : State) (c : CheckId) (d : Decision) : Verdict :=
  ⟨c, checkNest s c, s.checks[c].arming, s.checks[c].session, d, s.checks[c].trigger, checkClock s c⟩

/-- The verdict v of check c waits to be taken, or stands in the post FIFO with its check IDLE. -/
def VerdictStands (c : CheckId) (v : Verdict) (t : State) : Prop :=
  (t.checks[c].state = .decided ∧ t.checks[c].held = some v ∧ c ∈ t.unposted)
    ∨ (t.checks[c].state = .idle ∧ ∃ slot, Item.verdict slot v.words ∈ t.post.fifo)

theorem verdictStands_of_eq {c v} {s t : State} (h : VerdictStands c v s) (h1 : t.checks[c] = s.checks[c])
    (h2 : t.unposted = s.unposted)
    (h3 : t.post.fifo = s.post.fifo) : VerdictStands c v t := by
  unfold VerdictStands; rw [h1, h2, h3]; exact h

theorem verdictStands_takeVerdict {c v} {s t : State} (h : VerdictStands c v s)
    (ht : takeVerdict s = some t) : VerdictStands c v t := by
  unfold takeVerdict at ht
  split at ht
  · cases ht
  rename_i e rest hu
  split at ht
  · cases ht
  rename_i w hw
  split at ht
  · cases ht
    unfold VerdictStands
    simp only [setUnposted_checks, modCheck_checks, modPost_checks, setUnposted_unposted, setUnposted_post,
      modCheck_post, modPost_post]
    by_cases hec : e = c
    · subst hec
      right
      simp only [Fin.getElem_fin, Vector.getElem_set_self, true_and]
      rcases h with ⟨_, hh, _⟩ | ⟨_, slot, hm⟩
      · rw [hh] at hw; cases hw
        exact ⟨s.post.verdictReserve, by simp⟩
      · exact ⟨slot, by simp [hm]⟩
    · have hv : (e : Nat) ≠ c := fun h => hec (Fin.ext h)
      simp only [Fin.getElem_fin, Vector.getElem_set_ne _ _ hv]
      rcases h with ⟨a, b, m⟩ | ⟨a, slot, hm⟩
      · left; refine ⟨a, b, ?_⟩
        rw [hu] at m
        rcases List.mem_cons.1 m with rfl | m
        · exact absurd rfl hec
        · exact m
      · right; exact ⟨a, slot, by simp [hm]⟩
  · cases ht

theorem verdictStands_takeVerdicts {c v} (n : Nat) {s : State} (h : VerdictStands c v s) : VerdictStands c v
    (takeVerdicts n s) := by
  induction n generalizing s with
  | zero => exact h
  | succ n ih =>
    unfold takeVerdicts; split
    · exact h
    · rename_i t ht; exact ih (verdictStands_takeVerdict h ht)

theorem verdictStands_recordDecision {c v e d} {s : State} (h : VerdictStands c v s) (hne : e ≠ c) :
    VerdictStands c v (recordDecision e d s) := by
  unfold recordDecision
  apply verdictStands_takeVerdicts
  have hv : (e : Nat) ≠ c := fun h => hne (Fin.ext h)
  unfold VerdictStands
  simp only [setUnposted_checks, modCheck_checks, setUnposted_unposted, setUnposted_post, modCheck_post,
    Fin.getElem_fin, Vector.getElem_set_ne _ _ hv]
  rcases h with ⟨a, b, m⟩ | h
  · exact Or.inl ⟨a, b, by simp [m]⟩
  · exact Or.inr h

/-- Check c, the unposted verdicts and the post FIFO are the same in s and t. -/
def SameCheck (c : CheckId) (s t : State) : Prop := t.checks[c] = s.checks[c] ∧ t.unposted = s.unposted
    ∧ t.post.fifo = s.post.fifo

theorem SameCheck.trans {c} {s t u : State} (h : SameCheck c s t) (g : SameCheck c t u) : SameCheck c s u :=
  ⟨g.1.trans h.1, g.2.1.trans h.2.1, g.2.2.trans h.2.2⟩

theorem modCheck_sameCheck {c e : CheckId} (hne : e ≠ c) (f) (s : State) : SameCheck c s (s.modCheck e f) := by
  have hv : (e : Nat) ≠ c := fun h => hne (Fin.ext h)
  simp [SameCheck, Vector.getElem_set_ne _ _ hv]

theorem joinWaiting_sameCheck (c e : CheckId) (s : State) : SameCheck c s (joinWaiting e s) := ⟨rfl, rfl, rfl⟩

theorem offerQuery_sameCheck {c e : CheckId} (hne : e ≠ c) (s : State) : SameCheck c s (offerQuery e s) := by
  unfold offerQuery; split
  · exact modCheck_sameCheck hne _ (joinQueue _ s)
  · exact modCheck_sameCheck hne _ s

theorem endDelay_sameCheck {c e : CheckId} (hne : e ≠ c) (s : State) : SameCheck c s (endDelay e s).1 := by
  have hm := fun f s => modCheck_sameCheck hne f s
  unfold endDelay
  dsimp only
  split
  · unfold takeLevelSample; split
    · exact ⟨rfl, rfl, rfl⟩
    · exact hm _ _
  · unfold takeWindowSample; split
    · exact hm _ _
    · exact (hm _ _).trans (hm _ _)
  · unfold takeProfileSample; dsimp only
    repeat' split
    all_goals first
      | exact (hm _ _).trans (hm _ _)
      | exact ((hm _ _).trans (hm _ _)).trans (hm _ _)
  · exact hm _ _
  · exact (hm _ _).trans (offerQuery_sameCheck hne _)
  all_goals exact ⟨rfl, rfl, rfl⟩

theorem startDelay_sameCheck {c e : CheckId} (hne : e ≠ c) (s : State) : SameCheck c s (startDelay e s).1 := by
  have hm := fun f s => modCheck_sameCheck hne f s
  unfold startDelay
  dsimp only
  split
  · exact (hm _ _).trans (endDelay_sameCheck hne _)
  · exact hm _ _

theorem startCheck_sameCheck {c e : CheckId} (hne : e ≠ c) (s : State) : SameCheck c s (startCheck e s).1 := by
  have hm := fun f s => modCheck_sameCheck hne f s
  unfold startCheck
  dsimp only
  split
  · exact (hm _ _).trans (startDelay_sameCheck hne _)
  · exact (hm _ _).trans (startDelay_sameCheck hne _)
  · exact (hm _ _).trans (startDelay_sameCheck hne _)
  · split
    · exact (hm _ _).trans (hm _ _)
    · exact (hm _ _).trans (startDelay_sameCheck hne _)
  · refine SameCheck.trans (hm (fun k => { k with trigger := some (checkClock s e) }) s) ?_
    unfold startCharge; split
    · exact ⟨rfl, rfl, rfl⟩
    · dsimp only; split
      · exact hm _ _
      · exact ⟨rfl, rfl, rfl⟩
  · exact ((hm _ _).trans (hm _ _)).trans (startDelay_sameCheck hne _)
  · exact ((hm _ _).trans (hm _ _)).trans (joinWaiting_sameCheck c e _)
  · exact hm _ _

/-! ### Prompt waiting lists -/

/-- The check of a standing verdict waits for nothing. -/
theorem VerdictStands.settled {c v} {s : State} (h : VerdictStands c v s) :
    s.checks[c].state = .decided ∨ s.checks[c].state = .idle := by
  rcases h with h | h
  · exact .inl h.1
  · exact .inr h.1

section
variable (n : NestId) (a : Arming) (d : NodeId) (s : State)

theorem offerStep_checks (k : PromptStep) : (offerStep n k s).checks = s.checks := by
  unfold offerStep; split <;> rfl

theorem offerStep_unposted (k : PromptStep) : (offerStep n k s).unposted = s.unposted := by
  unfold offerStep; split <;> rfl

theorem offerStep_post (k : PromptStep) : (offerStep n k s).post = s.post := by
  unfold offerStep; split <;> rfl

theorem openPrompt_checks : (openPrompt n a d s).checks = s.checks.set a.check (s.checks[a.check].taken a) := by
  unfold openPrompt; rw [offerStep_checks]; rfl

theorem openPrompt_unposted : (openPrompt n a d s).unposted = s.unposted := by
  unfold openPrompt; rw [offerStep_unposted]; rfl

theorem openPrompt_post : (openPrompt n a d s).post = s.post := by
  unfold openPrompt; rw [offerStep_post]; rfl
end

section
variable {c : CheckId} {v : Verdict} {decide : CheckId → Decision → State → State}
  (hd : ∀ e d s, VerdictStands c v s → e ≠ c → VerdictStands c v (decide e d s))
include hd

theorem verdictStands_admitOutcome {a : Arming} {d : Decision} {s : State} (h : VerdictStands c v s) :
    VerdictStands c v (admitOutcome decide a d s) := by
  unfold admitOutcome
  split
  · rename_i hw
    refine hd _ _ _ h ?_
    rintro rfl
    rcases h.settled with g | g <;> rw [g] at hw <;> simp at hw
  · exact h

theorem verdictStands_takeHead {n : NestId} {s t : State} (h : VerdictStands c v s)
    (ht : takeHead decide n s = some t) : VerdictStands c v t := by
  unfold takeHead at ht
  split at ht
  · rename_i a rest _ _
    dsimp only at ht
    split at ht <;> cases ht
    · exact verdictStands_admitOutcome hd (verdictStands_of_eq h rfl rfl rfl)
    · refine verdictStands_of_eq h ?_ (openPrompt_unposted ..) (congrArg Post.fifo (openPrompt_post ..))
      rw [openPrompt_checks]
      by_cases e : a.check = c
      · subst e
        have : s.checks[a.check].state ≠ .promptWait := by rcases h.settled with g | g <;> rw [g] <;> simp
        have : s.checks[a.check].taken a = s.checks[a.check] := if_neg fun g => this g.1
        simpa using this
      · have hv : (a.check : Nat) ≠ c := fun g => e (Fin.ext g)
        simp [Vector.getElem_set_ne _ _ hv]
  · cases ht

theorem verdictStands_takeHeads {n : NestId} {s : State} (h : VerdictStands c v s) :
    VerdictStands c v (takeHeads decide n s) := by
  unfold takeHeads
  generalize s.prompts[n].waiting.length = k
  induction k generalizing s with
  | zero => exact h
  | succ k ih =>
    unfold takeHeadsFuel
    split
    · exact h
    · rename_i t ht; exact ih (verdictStands_takeHead hd h ht)

theorem verdictStands_beginCheck {e : CheckId} {s : State} (h : VerdictStands c v s) (hne : e ≠ c) :
    VerdictStands c v (beginCheck decide e s) := by
  have hs := startCheck_sameCheck hne s
  unfold beginCheck
  split <;> rename_i hst <;> rw [hst] at hs
  · exact hd _ _ _ (verdictStands_of_eq h hs.1 hs.2.1 hs.2.2) hne
  · split
    · exact verdictStands_takeHeads hd (verdictStands_of_eq h hs.1 hs.2.1 hs.2.2)
    · exact verdictStands_of_eq h hs.1 hs.2.1 hs.2.2
end

/-- The check of a standing verdict waits for no other check. -/
theorem ne_of_waitsAfter {c v} {a e : CheckId} {p : Bool} {s : State} (h : VerdictStands c v s)
    (hw : waitsAfter s e a = some p) : a ≠ c := by
  rintro rfl
  unfold waitsAfter at hw
  split at hw
  · rename_i hh
    rcases h.settled with g | g <;> rw [g] at hh <;> simp at hh
  · cases hw

/-- The decisions of other checks, with their AFTER chains, leave a verdict standing. -/
theorem verdictStands_decideFuel {c v} (f : Nat) {e d} {s : State} (h : VerdictStands c v s) (hne : e ≠ c) :
    VerdictStands c v (decideFuel f e d s) := by
  induction f generalizing e d s with
  | zero => exact verdictStands_recordDecision h hne
  | succ f ih =>
    unfold decideFuel
    refine forEach_induct _ _ ?_ _ _ (verdictStands_recordDecision h hne)
    intro a s hs
    split
    · exact hs
    · rename_i po hw
      have hac := ne_of_waitsAfter hs hw
      split
      · exact ih hs hac
      · exact verdictStands_beginCheck (fun _ _ _ h hne => ih h hne) hs hac

theorem recordDecision_stands (c : CheckId) (d : Decision) (s : State) : VerdictStands c (verdictOf s c d)
    (recordDecision c d s) := by
  unfold recordDecision
  apply verdictStands_takeVerdicts
  left; simp [verdictOf]

theorem decideFuel_stands (f : Nat) (c : CheckId) (d : Decision) (s : State) : VerdictStands c
    (verdictOf s c d) (decideFuel f c d s) := by
  cases f with
  | zero => exact recordDecision_stands c d s
  | succ f =>
    unfold decideFuel
    refine forEach_induct (P := VerdictStands c _) _ ?_ _ _ (recordDecision_stands c d s)
    intro a s hs
    split
    · exact hs
    · rename_i po hw
      have hac := ne_of_waitsAfter hs hw
      split
      · exact verdictStands_decideFuel f hs hac
      · exact verdictStands_beginCheck (fun _ _ _ h hne => verdictStands_decideFuel f h hne) hs hac

/-- R117: a decided check has its verdict held or posted. -/
theorem decideCheck_stands (c : CheckId) (d : Decision) (s : State) : VerdictStands c (verdictOf s c d)
    (decideCheck c d s) :=
  decideFuel_stands 64 c d s
end Sys2Proof.Machine
end

