-- ==== Sys2Proof/WellFormed.lean ====
section
/-!
DEFINITION. Which commands carry operands inside the ranges the spec gives them.
-/
namespace Sys2Proof

/-- R20: instant current 0-6,000,000 µA, voltage 0-20,000 mV. -/
def RailReading.wellFormed (r : RailReading) : Bool :=
  decide (r.current ≤ 6000000) && decide (r.voltage ≤ 20000)

/-- R20: the probe current is 0-25,000 µA; every rail reading is in range. -/
def NestReading.wellFormed (m : NestReading) : Bool :=
  m.rails.toList.all RailReading.wellFormed && decide (m.probe ≤ 25000)

/-- R81: a frame that is intact has a length of 0-8, and a standard frame an identifier of 11 bits. -/
def DutFrame.wellFormed (f : DutFrame) : Bool :=
  (!f.intact || decide (f.length ≤ 8)) && (f.extended || decide (f.identifier.toNat ≤ 2047))

/-- R124: nothing follows a part of a reply that did not arrive whole. -/
def LinkReply.wellFormed (r : LinkReply) : Bool :=
  (r.opener.isSome || r.echo.isNone) && (r.echo.isSome || (r.words.isEmpty && !r.further))

/-- A command is well formed when its operands are values the outside can present. -/
def Instr.wellFormed : Instr → Bool
  | .nestSample _ m | .seatOpen _ m | .attach _ m | .seatWithoutLoad _ m => m.wellFormed
  | .limitingDwellExpiry _ m | .faultWaitExpiry _ m | .retryTestExpiry _ m => m.wellFormed
  | .dischargeExpiry _ m | .budgetCrossing _ m | .gateEnd _ m => m.wellFormed
  | .dutFrameReceived _ f => f.wellFormed
  | .lostArbitration _ i e => e || decide (i.toNat ≤ 2047)
  | .powerOnReset _ _ _ | .startUpFillBurst | .hostLoad | .hostStore _ => true
  | .eventConsumerStore | .verdictConsumerStore | .requestProducerStore => true
  | .partialActionStore | .unknownAction => true
  | .nestArm | .nestDisarm | .nestRelease | .nestAbort => true
  | .railOn | .railOff | .railClear | .railChargeReset => true
  | .trackLaunch | .trackSuspend | .trackResume | .trackStop | .trackExtend => true
  | .portStart | .portStop | .checkArm | .checkArmRun | .checkCancel => true
  | .nodeEnable | .nodeDisable | .nodeRestore | .linkPause | .linkResume | .restart => true
  | .risingEdge _ | .fallingEdge _ | .snapshotTimerExpiry _ | .drainEnd _ => true
  | .entryFetch | .entryDue _ | .pulsePeriodEnd _ _ | .frameGapEnd _ => true
  | .stallPlaceOffered _ | .attemptStart _ | .acked _ | .notAcked _ => true
  | .timeTrigger _ | .delayEnd _ | .windowSample _ | .profileSample _ => true
  | .pendingSampleDue _ | .windowEnd _ | .verdictTaken | .heldRequestTaken => true
  | .requestRecordTaken | .serviceRequest _ _ | .transactionStart | .blockSourceRead => true
  | .linkError r | .linkReplyComplete r => r.wellFormed
  | .requestFrameEnd | .noReply | .blockItemTaken => true
  | .takePrompt _ | .promptTimeout _ | .postFifoBurst | .slotWrite => true
  | .replyOpenerBegins | .hostAccess _ => true

end Sys2Proof
end

