-- ==== Sys2Proof/Tests/Slice0.lean ====
section
/-!
SUPPORT. The model's own tests: ill-formed commands that the check refuses, a state and operands that meet the hypotheses
of each statement, and single commands on small states.
-/
namespace Sys2Proof.Tests

open Machine Stated

set_option Elab.async false

/-! ### Small states -/

/-- The part after its fill. -/
def ready : State :=
  { State.reset with
    path := { State.reset.path with ready := true }
    post := { State.reset.post with ready := true, identity := Config.identity } }

/-- A host access waits. -/
def hosting (a : HostAccess) (s : State) : State := { s with path := { s.path with host := some a } }

/-- A store of a whole word of the control block. -/
def storeAt (off v : Nat) : HostAccess := ⟨true, BitVec.ofNat 22 (off / 4), 0xF#4, BitVec.ofNat 32 v⟩

/-- The action word of a slot. -/
def actionAt (slot code obj opd : Nat) : HostAccess := storeAt (0x40 + 8 * slot) (code + 256 * obj + 65536 * opd)

/-- An action word of slot 15 waits. -/
def asking (x : Action) (obj opd : Nat) (s : State) : State := hosting (actionAt 15 x.code obj opd) s

/-- A captured word. -/
def holding (off v : Nat) (s : State) : State := setShadow off (BitVec.ofNat 32 v) s

/-- A nest in a state. -/
def inNest (n : NestId) (x : NestState) (s : State) : State := s.modNest n fun y => { y with state := x }

/-- A rail in a state. -/
def inRail (r : RailId) (x : RailState) (s : State) : State := s.modRail r fun y => { y with state := x }

/-- A nest sample in which nothing flows. -/
def quiet (seat : Bool) : NestReading :=
  ⟨Vector.replicate 3 ⟨0, false, 0⟩, 0, false, false, seat, Vector.replicate 8 0⟩

/-- The state a command leaves. -/
def afterCommand (c : Instr) (s : State) : State := match exec c s with | .next t => t | _ => s

/-- An entry with a delay, a target code and a value word. -/
def entry (delay target mark length w1 w2 : Nat) : Entry :=
  ⟨0, BitVec.ofNat 32 (delay + target * 2 ^ 17 + mark * 2 ^ 22 + length * 2 ^ 28), BitVec.ofNat 32 w1,
    BitVec.ofNat 32 w2, 0⟩

/-- Track 0, RUNNING in an OPEN nest A with one entry held and due, which claims every output and the frame flag. -/
def playing (e : Entry) (total : Nat) : State :=
  { (inNest 0 .opened ready).modTrack 0 fun x =>
      { x with state := .running, total := total, fetched := 1, held := [e], interval := 100 } with
    claims := Vector.replicate 32 (some 0)
    frameHolders := Vector.replicate 2 (Vector.replicate 8 true) }

/-- The frame used on a port. -/
def someFrame : Frame := ⟨0x100, false, [1, 2], 0, 0, 0, 0⟩

/-- Port A is ON with a frame in flight. -/
def sending : State :=
  ready.modPort 0 fun x => { x with state := .on, queue := [someFrame], inFlight := some 0 }

/-- A transaction of a host's GET of node 3. -/
def getting (kind : LinkKind) (phase : Phase) (second : Bool) (wait : Nat) : Transaction :=
  ⟨⟨kind, 3, 7, 0, .host 0 0x8000#32 9⟩, second, phase, none, [], [], wait, false⟩

/-- Node 3 is IN_SERVICE with address code 000011b and a transaction is in flight. -/
def linked (t : Transaction) : State :=
  (((holding (0x6C0 + 0x30) 3 ready).modNode 3 fun x => { x with state := .inService }).modLink fun l =>
    { l with flight := some t })

/-- Check 63 of nest A is in a state, armed once in session 1. -/
def checking (x : CheckState) (s : State) : State :=
  (inNest 0 .opened s).modCheck 63 fun y => { y with state := x, arming := 1, session := 1 }

/-! ### Well-formedness -/

theorem test_wellFormed_refuses_current :
    (Instr.nestSample 0 { quiet true with rails := #v[⟨6000001, false, 0⟩, ⟨0, false, 0⟩, ⟨0, false, 0⟩] }).wellFormed
      = false := by decide

theorem test_wellFormed_refuses_voltage :
    (Instr.seatOpen 0 { quiet true with rails := #v[⟨0, false, 20001⟩, ⟨0, false, 0⟩, ⟨0, false, 0⟩] }).wellFormed
      = false := by decide

theorem test_wellFormed_refuses_probe :
    (Instr.attach 1 { quiet true with probe := 25001 }).wellFormed = false := by decide

theorem test_wellFormed_refuses_frame_length :
    (Instr.dutFrameReceived 0 ⟨0x100, false, 9, Vector.replicate 8 0, true, false⟩).wellFormed = false := by decide

theorem test_wellFormed_refuses_frame_identifier :
    (Instr.dutFrameReceived 0 ⟨0x800, false, 8, Vector.replicate 8 0, true, false⟩).wellFormed = false := by decide

theorem test_wellFormed_refuses_arbitration_identifier :
    (Instr.lostArbitration 0 0x800 false).wellFormed = false := by decide

theorem test_wellFormed_refuses_echo_without_opener :
    (Instr.linkError ⟨none, some 3, [], false⟩).wellFormed = false := by decide

theorem test_wellFormed_refuses_words_without_echo :
    (Instr.linkReplyComplete ⟨some 0xCA, none, [(0, 0)], false⟩).wellFormed = false
      ∧ (Instr.linkReplyComplete ⟨some 0xCA, none, [], true⟩).wellFormed = false := by decide

theorem test_wellFormed_takes_limits :
    (Instr.nestSample 0
        { quiet true with
          rails := #v[⟨6000000, true, 20000⟩, ⟨0, false, 0⟩, ⟨0, false, 0⟩], probe := 25000 }).wellFormed = true
      ∧ (Instr.dutFrameReceived 0 ⟨0x7FF, false, 8, Vector.replicate 8 0, true, false⟩).wellFormed = true
      ∧ (Instr.lostArbitration 0 0x1FFFFFFF true).wellFormed = true := by decide

theorem test_no_word_spells_a_command : decodeTableWord 32 1 = none := rfl

/-! ### The machine: hypotheses met -/

theorem test_witness_StepRunsTheFrontCommand :
    ({ ready with pending := [.hostLoad] } : State).pending = Instr.hostLoad :: [] := rfl

theorem test_witness_EmptyQueueLetsOneMicrosecondPass : State.reset.pending = [] := rfl

theorem test_witness_EveryStepKeepsTheInvariant :
    Inv State.reset ∧ step State.reset = .next (microsecond State.reset) := by
  exact ⟨by unfold Inv; decide +kernel, rfl⟩

theorem test_witness_WhatFollowsAtOnceKeepsTheRest : ∀ n : NestId, State.reset.nests[n].state ≠ .draining := by
  decide +kernel

theorem test_witness_FillBurstZeroesFourWords :
    Memory.wf State.reset.mem = true ∧ grant State.reset = some .fill
      ∧ State.reset.path.fill.toNat + 4 < 4096
      ∧ (let s : State := { State.reset with path := { State.reset.path with fill := 4092 } }
         Memory.wf s.mem = true ∧ grant s = some .fill ∧ 4096 ≤ s.path.fill.toNat + 4) := by
  decide +kernel

theorem test_witness_HostLoadReadsTheWordInMemory :
    ready.path.host = none
      ∧ grantedHost (hosting ⟨false, 0x3FFFFF, 0xF, 0⟩ ready) .load = some ⟨false, 0x3FFFFF, 0xF, 0⟩ := by
  decide +kernel

theorem test_witness_StoreOutsideTheBlockWritesItsLanes :
    (∀ a ∈ [(⟨true, 4096#22, 1#4, 0x12345678#32⟩ : HostAccess), ⟨true, 0x3FFFFF#22, 15#4, 0x12345678#32⟩],
      grantedHost (hosting a ready) .store = some a ∧ a.lanes ≠ 0 ∧ inBlock (hosting a ready) a.word = false)
    ∧ Memory.wf ready.mem = true
    ∧ (playing (entry 0 0 0 0 0 0) 2).tracks[(0 : TrackId)].state.active = true := by
  decide +kernel

/-- Track 0 in a state, with the three entries from a buffer index on held of a buffer at byte 65,536. -/
def streaming (x : TrackState) (first : Nat) : State :=
  (holding 0x204 0x10000 ready).modTrack 0 fun y =>
    { y with
      state := x, total := 100, fetched := 3, fetchIndex := first + 3
      held := [first, first + 1, first + 2].map fun i => { entry 0 0 0 0 0 0 with index := i } }

theorem test_witness_Invalidated :
    ∀ x ∈ [TrackState.priming, .running, .suspending, .suspended],
      (let s := streaming x 0
       s.tracks[(0 : TrackId)].state.active = true
         ∧ s.tracks[(0 : TrackId)].held.map (touchesEntry s 0 16388) = [false, true, false])
      ∧ (streaming x 1).tracks[(0 : TrackId)].held.map (touchesEntry (streaming x 1) 0 16388) = [true, false, false]
      ∧ (streaming x 2).tracks[(0 : TrackId)].held.map (touchesEntry (streaming x 2) 0 16388)
          = [false, false, false] := by
  decide +kernel

theorem test_HOST_STORE_invalidates :
    (let s (x : TrackState) (first : Nat) :=
        (afterCommand (.hostStore 0) (hosting ⟨true, 16388#22, 15#4, 0#32⟩ (streaming x first))).tracks[(0 : TrackId)]
     (s .running 0).held.length = 1 ∧ (s .running 0).fetchIndex = 1 ∧ (s .running 0).fetched = 1
       ∧ (s .running 1).starved = true ∧ (s .running 1).held = []
       ∧ (s .suspending 1).state = .suspended ∧ (s .running 2).held.length = 3) := by decide +kernel

theorem test_witness_CapturedStoreReachesMemoryAndShadow :
    Inv (hosting (storeAt 0xFC 1) ready) ∧
    (∀ off ∈ [0xD8, 0xFC, 0x7B0, 0x7FC, 0x2200, 0x27FC],
      let s := hosting (storeAt off 1) ready
      grantedHost s .store = some (storeAt off 1) ∧ inBlock s (storeAt off 1).word = true
        ∧ wordClass (blockOffset (storeAt off 1).word) = .free)
    ∧ (∀ off ∈ [0x100, 0x7AC, 0x800, 0x20FC],
      let s := hosting (storeAt off 1) ready
      grantedHost s .store = some (storeAt off 1) ∧ inBlock s (storeAt off 1).word = true
        ∧ wordClass (blockOffset (storeAt off 1).word) = .config
        ∧ wordLocked s (blockOffset (storeAt off 1).word) = false) := by
  exact ⟨by unfold Inv; decide +kernel, by decide +kernel, by decide +kernel⟩

/-- Nest A runs a session and a store to the threshold of its first response input, in mode EDGES, waits. -/
def rearming : State := hosting (storeAt 0x644 5000) (holding 0x640 4 (inNest 0 .opened ready))

theorem test_witness_input_restart :
    grantedHost rearming .store = some (storeAt 0x644 5000) ∧ inBlock rearming (storeAt 0x644 5000).word = true
      ∧ wordClass (blockOffset (storeAt 0x644 5000).word) = .config
      ∧ wordLocked rearming (blockOffset (storeAt 0x644 5000).word) = false
      ∧ blockOffset (storeAt 0x644 5000).word = 0x644 + 8 * 0 ∧ rearming.nests[nestOfInput 0].state = .opened := by
  decide +kernel

theorem test_HOST_STORE_restarts_its_input :
    (afterCommand (.hostStore 5000) rearming).inputs[(0 : InputId)].high = true
    ∧ (afterCommand (.hostStore 4999) rearming).inputs[(0 : InputId)].high = false
    ∧ (afterCommand (.hostStore 4999) rearming).inputs[(0 : InputId)].mode = .edges := by decide +kernel

theorem test_witness_GuardedStoresChangeNothingButTheirReport :
    (let s := hosting (storeAt 0x100 1) (inNest 0 .waiting ready)
     grantedHost s .store = some (storeAt 0x100 1) ∧ inBlock s (storeAt 0x100 1).word = true
       ∧ wordClass (blockOffset (storeAt 0x100 1).word) = .config
       ∧ wordLocked s (blockOffset (storeAt 0x100 1).word) = true)
    ∧ (∀ off ∈ [0, 0x3C, 0x44, 0xBC, 0xC0, 0xC8, 0xD4, 0x2100, 0x2800, 0x3FFC],
      let s := hosting (storeAt off 1) ready
      grantedHost s .store = some (storeAt off 1) ∧ inBlock s (storeAt off 1).word = true
        ∧ wordClass (blockOffset (storeAt off 1).word) = .report)
    ∧ grantedHost (hosting { storeAt 0x40 1 with lanes := 0 } ready) .store = some { storeAt 0x40 1 with lanes := 0 }
    ∧ (let s := hosting (storeAt 0xC4 1) ready
       grantedHost s .eventIndex = some (storeAt 0xC4 1)
         ∧ consumerLegal (mergedWord s (storeAt 0xC4 1)) (eventConsumer s) s.post.eventProducer = false)
    ∧ (let s := hosting (storeAt 0xCC 128) ready
       grantedHost s .verdictIndex = some (storeAt 0xCC 128)
         ∧ consumerLegal (mergedWord s (storeAt 0xCC 128)) (verdictConsumer s) s.post.verdictProducer = false)
    ∧ (let s := hosting (storeAt 0xD0 16) ready
       grantedHost s .requestIndex = some (storeAt 0xD0 16)
         ∧ producerLegal (mergedWord s (storeAt 0xD0 16)) (requestProducer s) s.link.consumer = false)
    ∧ grantedHost (hosting { storeAt 0xB8 1 with lanes := 7 } ready) .partialAction
        = some { storeAt 0xB8 1 with lanes := 7 } := by
  decide +kernel

theorem test_witness_LegalIndexStoreIsCaptured :
    (∀ off ∈ [0xC4, 0xCC, 0xD0], Inv (hosting (storeAt off 0) ready))
    ∧ (let s := hosting (storeAt 0xC4 1) { ready with post := { ready.post with eventProducer := 1 } }
       grantedHost s .eventIndex = some (storeAt 0xC4 1)
         ∧ consumerLegal (mergedWord s (storeAt 0xC4 1)) (eventConsumer s) s.post.eventProducer = true)
    ∧ (let s := hosting (storeAt 0xCC 0) ready
       grantedHost s .verdictIndex = some (storeAt 0xCC 0)
         ∧ consumerLegal (mergedWord s (storeAt 0xCC 0)) (verdictConsumer s) s.post.verdictProducer = true)
    ∧ (let s := hosting (storeAt 0xD0 15) ready
       grantedHost s .requestIndex = some (storeAt 0xD0 15)
         ∧ producerLegal (mergedWord s (storeAt 0xD0 15)) (requestProducer s) s.link.consumer = true) := by
  exact ⟨by unfold Inv; decide +kernel, by decide +kernel, by decide +kernel, by decide +kernel⟩

theorem test_witness_UnknownActionsAndObjectsAreRefused :
    grantedUnknown (hosting (actionAt 0 0x3E 0 0) ready) = some (0, actionAt 0 0x3E 0 0)
    ∧ (∀ row ∈ actionRows, ∀ bound ∈ objectBound row.action,
        grantedAction (asking row.action bound 0 ready) row.action
          = some (15, actionAt 15 row.action.code bound 0)
        ∧ bound ≤ wordObject (actionAt 15 row.action.code bound 0).data) := by
  decide +kernel

theorem test_witness_EveryActionIsTakenAndAnswered :
    ∀ row ∈ actionRows, Memory.wf (asking row.action 0 0 ready).mem = true
      ∧ grantedAction (asking row.action 0 0 ready) row.action = some (15, actionAt 15 row.action.code 0 0) := by
  decide +kernel

/-- A state in which track t asks for a fetch with `held` entries. -/
def fetching (t : TrackId) (held : Nat) (s : State) : State :=
  s.modTrack t fun x =>
    { x with state := .running, total := 100, fetched := held, held := List.replicate held (entry 0 0 0 0 0 0),
             request := true }

/-- The fetch of a track is on the memory port. -/
def bursting (t : TrackId) (s : State) : State := { s with path := { s.path with burst := some t } }

theorem test_witness_ArbiterGrantsByClassAndRotation :
    ready.path.ready = true ∧ State.reset.path.ready = false
    ∧ ready.path.burst = none ∧ State.reset.path.burst = none ∧ (bursting 7 ready).path.burst = some 7
    ∧ fetchUrgent (fetching 7 2 ready) 7 = true
    ∧ (∀ t : TrackId, fetchUrgent (fetching 7 3 ready) t = false)
    ∧ backWaits (fetching 7 3 ready) 7 = true ∧ backWaits (linked (getting .putBlock .reading false 0)) 8 = true
    ∧ (List.replicate 24 (Item.event 0 [])).length = 24 ∧ ready.post.fifo.length < 24
    ∧ (hosting (storeAt 0 0) ready).path.host ≠ none ∧ ready.path.host = none
    ∧ (∀ i : Fin 9, backWaits ready i = false) := by
  decide +kernel

/-- A post FIFO with one item. -/
def posting (i : Item) (progress : Nat) : State :=
  { ready with post := { ready.post with fifo := [i], progress := progress } }

theorem test_witness_RingRecordsPrecedeTheirProducer :
    Memory.wf ready.mem = true
    ∧ grant (posting (.event 127 [1, 2, 3, 4]) 0) = some .fifo
    ∧ grant (posting (.event 127 [1, 2, 3, 4]) 4) = some .fifo
    ∧ grant (posting (.verdict 127 [1, 2, 3, 4, 5, 6, 7, 8]) 0) = some .fifo
    ∧ grant (posting (.verdict 127 [1, 2, 3, 4, 5, 6, 7, 8]) 4) = some .fifo
    ∧ grant (posting (.verdict 127 [1, 2, 3, 4, 5, 6, 7, 8]) 8) = some .fifo := by
  decide +kernel

theorem test_witness_BlocksAndPlacesAreWritten :
    (∀ k ∈ [0, 15], Memory.wf ready.mem = true
      ∧ grant (posting (.block 0x10000C#32 (List.replicate 16 1)) k) = some .fifo
      ∧ (List.replicate 16 (1 : Word)).length = 16 ∧ k < 16)
    ∧ grant (offerSummary ready) = some .slot ∧ (offerSummary ready).post.places = [(.summary, [])]
    ∧ grant (offerNest 1 ready) = some .slot
    ∧ (offerNest 1 ready).post.places = [(.nest 1, nestStatus ready.nests[(1 : NestId)])]
    ∧ (nestStatus ready.nests[(1 : NestId)]).length ≤ 4 := by
  decide +kernel

/-! ### Nests: hypotheses met -/

theorem test_witness_actions_on_nests :
    ∀ n : NestId, ∀ x ∈ [Action.nestArm, .nestDisarm, .nestRelease, .nestAbort, .portStart, .portStop],
      Commands (asking x n.val 0 ready) x 15 (actionAt 15 x.code n.val 0) n.val := by
  unfold Commands; decide +kernel

/-- Nest A is OPEN with nothing that holds a drain, and snapshots are on. -/
def resting : State := holding 0x100 (10 * 65536) (inNest 0 .opened ready)

theorem test_NEST_RELEASE_ends_the_drain :
    (let t := afterCommand .nestRelease (asking .nestRelease 0 0 resting)
     t.nests[(0 : NestId)].state = .idle ∧ t.nests[(0 : NestId)].cause = .released ∧ t.post.fifo.length = 1
       ∧ t.post.places.map (fun p => p.1)
          = .nest 0 :: (List.finRange 8).map (fun j => Place.input (inputOf 0 j)) ++ [.result 15]) := by
  decide +kernel

theorem test_NEST_RELEASE_waits_for_a_rail :
    (afterCommand .nestRelease (asking .nestRelease 0 0 (inRail 1 .on resting))).nests[(0 : NestId)].state
      = .draining := by decide +kernel

/-- Nest A waits with its seat closed and the run one short of an attach, or of a report. -/
def almost (run closure : Nat) : State :=
  (inRail 0 .probe ready).modNest 0 fun x =>
    { x with state := .waiting, seat := true, attachRun := run, closureTime := closure }

theorem test_witness_AttachOpensASession :
    sampleAttaches 0 { quiet true with probe := 500 } (almost 49 0) = true
    ∧ (almost 49 0).supplies[(0 : NestId)].range = false := by decide +kernel

theorem test_ATTACH_in_a_supply_alarm :
    sampleAttaches 0 { quiet true with probe := 500, range := true } (almost 49 0) = false := by decide +kernel

/-- R37: the probe reads 0 from the sample that sets the flag, and drives again at the sample after the one that clears
it. -/
theorem test_NEST_SAMPLE_supply_alarm :
    (let a := afterCommand (.nestSample 0 { quiet true with probe := 500, range := true }) (almost 0 0)
     let b := afterCommand (.nestSample 0 { quiet true with probe := 500 }) a
     let c := afterCommand (.nestSample 0 { quiet true with probe := 500 }) b
     a.supplies[(0 : NestId)] = ⟨true, false, 0, false⟩ ∧ b.supplies[(0 : NestId)] = ⟨false, false, 0, true⟩
       ∧ probeDrive b 0 = none ∧ c.supplies[(0 : NestId)] = ⟨false, false, 500, false⟩
       ∧ probeDrive c 0 = some (2500, 20000)) := by decide +kernel

theorem test_ATTACH :
    (afterCommand (.attach 0 { quiet true with probe := 500 }) (almost 49 0)).nests[(0 : NestId)].session = 1
    ∧ (afterCommand (.attach 0 { quiet true with probe := 499 }) (almost 49 0)).nests[(0 : NestId)].state
        = .waiting := by decide +kernel

/-- Nest A is in a state with nineteen open readings behind it and a rail still discharging. -/
def lifting (x : NestState) : State :=
  (inRail 1 .discharging ready).modNest 0 fun y => { y with state := x, seat := true, openRun := 19 }

theorem test_witness_SeatReadingsMoveANest :
    (∀ x ∈ [NestState.idle, .waiting, .opened, .draining, .held],
      sampleOpensSeat 0 (quiet false) (lifting x) = true
        ∧ (afterRails 0 (quiet false) (lifting x)).nests[(0 : NestId)].state = x)
    ∧ sampleReports 0 (quiet true) (almost 0 1999) = true := by decide +kernel

theorem test_SEAT_OPEN :
    (afterCommand (.seatOpen 0 (quiet false)) (lifting .opened)).nests[(0 : NestId)].cause = .removed
    ∧ (afterCommand (.seatOpen 0 (quiet false)) (lifting .opened)).nests[(0 : NestId)].state = .draining
    ∧ (afterCommand (.seatOpen 0 (quiet false)) (inRail 1 .off (lifting .opened))).nests[(0 : NestId)].state
      = .idle := by decide +kernel

theorem test_SEAT_WITHOUT_LOAD :
    (afterCommand (.seatWithoutLoad 0 (quiet true)) (almost 0 1999)).post.fifo.length = 1 := by decide +kernel

theorem test_witness_DrainEndClosesTheSession :
    drainComplete (inNest 0 .draining ready) 0 = true ∧ drainComplete (inNest 1 .draining ready) 1 = true := by
  decide +kernel

theorem test_DRAIN_END :
    (afterCommand (.drainEnd 0) (inNest 0 .draining ready)).nests[(0 : NestId)].state = .idle := by decide +kernel

/-- The nest record asks for a snapshot every 10 ms, which have passed. -/
def snapping : State :=
  (holding 0x100 (10 * 65536) ready).modNest 0 fun x => { x with state := .waiting, snapTimer := some 10000 }

theorem test_witness_SnapshotsAndPulsePeriodsEnd : snapshotDue snapping 0 = true := by decide +kernel

theorem test_SNAPSHOT_TIMER_EXPIRY : (afterCommand (.snapshotTimerExpiry 0) snapping).post.places.length = 12 := by
  decide +kernel

/-! ### Rails: hypotheses met -/

theorem test_witness_actions_on_rails :
    ∀ r : RailId, ∀ x ∈ [Action.railOn, .railOff, .railClear, .railChargeReset],
      Commands (asking x r.val 0 ready) x 15 (actionAt 15 x.code r.val 0) r.val := by
  unfold Commands; decide +kernel

/-- Rail BATT of nest A in a state, with setpoint 12,000 mV, dwell 1 ms, limit 1,000 mA, the policy, and a timer. -/
def railed (x : RailState) (retry : Bool) (timer budget : Nat) : State :=
  ((inRail 0 x (holding 0x14C budget (holding 0x144 1000
    (holding 0x140 (12000 + 65536 + (if retry then 0x11000000 else 0)) (inNest 0 .opened ready))))).modRail 0 fun y =>
    { y with timer := some timer })

/-- A reading of BATT. -/
def reading (current : Nat) (limiter : Bool) (voltage : Nat) : NestReading :=
  { quiet true with rails := #v[⟨current, limiter, voltage⟩, ⟨0, false, 0⟩, ⟨0, false, 0⟩] }

theorem test_RAIL_ON :
    (afterCommand .railOn (asking .railOn 0 0 (railed .off true 0 0))).rails[(0 : RailId)].state = .on := by
  decide +kernel

theorem test_RAIL_CLEAR :
    railClearRefusal (railed .latched true 0 0) 0 = none
    ∧ (afterCommand .railClear (asking .railClear 0 0 (railed .latched true 0 0))).rails[(0 : RailId)].state
      = .retryTest := by decide +kernel

/-- The entry of check 63: kind, trigger word, times and fields word 4. -/
def entered (kind trigger times fields : Nat) (s : State) : State :=
  holding 0xFF0 fields (holding 0xFEC times (holding 0xFE4 trigger (holding 0xFE0 (2 * kind) s)))

theorem test_witness_ChargeIsResetAndCrossesItsBudget :
    budgetCrosses 0 (reading 1000 false 12000) (railed .on true 0 1) = true
    ∧ (let s := checking .sampling (entered 3 0 0 0 (railed .on true 0 1))
       s.checks[(63 : CheckId)].state = .sampling ∧ checkNest s 63 = nestOfRail 0
         ∧ checkKind s 63 = some .charge ∧ sourceRail s 63 = some (kindOfRail 0)) := by decide +kernel

theorem test_RAIL_CHARGE_RESET :
    (afterCommand .railChargeReset (asking .railChargeReset 0 0
      (checking .sampling (entered 3 0 0 0 (railed .on true 0 1))))).checks[(63 : CheckId)].state = .idle := by
  decide +kernel

theorem test_witness_ServiceLost :
    (let s := checking .sampling (entered 3 0 0 0 (inRail 1 .on (railed .on true 0 0)))
     s.checks[(63 : CheckId)].state = .sampling ∧ checkNest s 63 = 0 ∧ usesRail s 63 0 = true
       ∧ s.rails[(1 : RailId)].state.serving = true)
    ∧ (let s := holding 0x200 0x1000 (playing (entry 0 0 0 0 0 0) 2)
       s.tracks[(0 : TrackId)].state.active = true ∧ trackNest s 0 = 0 ∧ requiresRail s 0 0 = true) := by
  decide +kernel

/-- R33, R35, R116: IGN is forced off and reported, and the check that ran on BATT is decided. -/
theorem test_RAIL_OFF_takes_dependants :
    (let t := afterCommand .railOff (asking .railOff 0 0
       (checking .sampling (entered 3 0 0 0 (inRail 1 .on (railed .on true 0 0)))))
     t.checks[(63 : CheckId)].state = .idle ∧ t.rails[(1 : RailId)].cause = .battLost ∧ t.post.fifo.length = 2) := by
  decide +kernel

theorem test_witness_triggers_of_rails_and_nodes :
    railFires 0 false (holding 0xFE4 2 ready) 63 = true ∧ railFires 0 true (holding 0xFE4 0x1002 ready) 63 = true
    ∧ serviceFires 3 1 (holding 0xFE8 1 (holding 0xFE4 0x303 ready)) 63 = true := by decide +kernel

/-- Rail BATT of nest A in a state, with a limiting dwell of 2 ms and one limiting sample behind it. -/
def limited (x : RailState) : State :=
  (holding 0x140 (12000 + 2 * 65536 + 0x11000000) (railed x true 0 0)).modRail 0 fun y => { y with dwell := 1 }

theorem test_witness_NestSampleTakesItsReadings :
    (∀ x ∈ [RailState.on, .limiting, .retryTest],
      (atTurn 0 (reading 0 true 12301) (limited x) 0).rails[(0 : RailId)].state = (limited x).rails[(0 : RailId)].state
        ∧ setpoint (limited x) 0 + 300 < (atTurn 0 (reading 0 true 12301) (limited x) 0).rails[(0 : RailId)].voltage)
    ∧ (∀ x ∈ [RailState.on, .limiting], (atTurn 0 (reading 0 true 12300) (limited x) 0).rails[(0 : RailId)].voltage
        = setpoint (limited x) 0 + 300)
    ∧ limitingDwell (limited .on) 0 = 2 ∧ limitingDwell (railed .on true 0 0) 0 ≤ 1
    ∧ limitingDwell (limited .limiting) 0 ≤ (limited .limiting).rails[(0 : RailId)].dwell + 1
    ∧ (railed .on true 0 0).supplies[(0 : NestId)].range = false
    ∧ ((railed .on true 0 0).modSupply 0 fun x => { x with range := true }).supplies[(0 : NestId)].range = true
    ∧ sampleAttaches 0 { quiet true with probe := 500 } (almost 48 0) = false
    ∧ sampleReports 0 { quiet true with probe := 500 } (almost 48 0) = false
    ∧ (seatStep 0 true (afterRails 0 { quiet true with probe := 500 } (almost 48 0))).nests[(0 : NestId)].state
        = .waiting := by decide +kernel

theorem test_NEST_SAMPLE_takes_a_fault :
    (afterCommand (.nestSample 0 { reading 0 false 5000 with range := true }) (limited .on)).rails[
      (0 : RailId)].cause = .supply
    ∧ (afterCommand (.nestSample 0 (reading 0 false 12301)) (limited .on)).rails[(0 : RailId)].cause = .backfeed := by
  decide +kernel

theorem test_NEST_SAMPLE_limits :
    (afterCommand (.nestSample 0 (reading 0 true 5000)) (limited .on)).rails[(0 : RailId)].state = .limiting
    ∧ (afterCommand (.nestSample 0 { quiet true with probe := 500 }) (almost 48 0)).nests[(0 : NestId)].attachRun
      = 49 := by decide +kernel

theorem test_BUDGET_CROSSING :
    (afterCommand (.budgetCrossing 0 (reading 1000 false 12000)) (railed .on true 0 1)).rails[(0 : RailId)].crossed
      = true := by decide +kernel

theorem test_witness_FaultsFollowThePolicyOfTheRail :
    actAtTurn 0 (reading 0 true 5000) (railed .on false 0 0) = .overcurrent
    ∧ actAtTurn 0 (reading 0 false 2999) (railed .retryTest true 9 0) = .retryExpiry
    ∧ (100 * (atTurn 0 (reading 0 false 2999) (railed .retryTest true 9 0) 0).rails[(0 : RailId)].voltage
        < setpoint (railed .retryTest true 9 0) 0 * passPercent (railed .retryTest true 9 0) 0)
    ∧ actAtTurn 0 (reading 0 false 3000) (railed .retryTest true 9 0) = .retryExpiry
    ∧ (setpoint (railed .retryTest true 9 0) 0 * passPercent (railed .retryTest true 9 0) 0
        ≤ 100 * (atTurn 0 (reading 0 false 3000) (railed .retryTest true 9 0) 0).rails[(0 : RailId)].voltage) := by
  decide +kernel

theorem test_LIMITING_DWELL_EXPIRY :
    (afterCommand (.limitingDwellExpiry 0 (reading 0 true 5000)) (railed .on false 0 0)).rails[(0 : RailId)].state
      = .latched
    ∧ (afterCommand (.limitingDwellExpiry 0 (reading 0 true 5000)) (railed .on true 0 0)).rails[(0 : RailId)].state
      = .faultWait := by decide +kernel

theorem test_RETRY_TEST_EXPIRY :
    (afterCommand (.retryTestExpiry 0 (reading 0 false 3000)) (railed .retryTest true 9 0)).rails[(0 : RailId)].state
      = .on
    ∧ (afterCommand (.retryTestExpiry 0 (reading 0 false 2999)) (railed .retryTest true 9 0)).rails[(0 : RailId)].cause
      = .short := by decide +kernel

theorem test_witness_WaitsAndDischargesExpire :
    actAtTurn 0 (quiet true) (railed .faultWait true 9 0) = .waitExpiry
    ∧ actAtTurn 0 (reading 0 false 500) (railed .discharging true 49 0) = .dischargeExpiry
    ∧ actAtTurn 0 (reading 0 false 501) (railed .discharging true 49 0) = .dischargeExpiry := by decide +kernel

theorem test_FAULT_WAIT_EXPIRY :
    (afterCommand (.faultWaitExpiry 0 (quiet true)) (railed .faultWait true 9 0)).rails[(0 : RailId)].state
      = .retryTest := by decide +kernel

theorem test_DISCHARGE_EXPIRY :
    (afterCommand (.dischargeExpiry 0 (reading 0 false 500)) (railed .discharging true 49 0)).rails[(0 : RailId)].state
      = .off
    ∧ (afterCommand (.dischargeExpiry 0 (reading 0 false 501)) (railed .discharging true 49 0)).rails[(0 : RailId)].state
      = .latched := by decide +kernel

/-! ### Tracks: hypotheses met -/

theorem test_witness_actions_on_tracks :
    ∀ t : TrackId, ∀ x ∈ [Action.trackLaunch, .trackSuspend, .trackResume, .trackStop, .trackExtend],
      Commands (asking x t.val 0 ready) x 15 (actionAt 15 x.code t.val 0) t.val := by
  unfold Commands; decide +kernel

theorem test_witness_SuspendAndResumeFollowTheState :
    (let s := (playing (entry 0 1 0 0 0 0) 2).modTrack 0 fun x => { x with state := .suspended, starved := true }
     s.tracks[(0 : TrackId)].state = .suspended ∧ s.tracks[(0 : TrackId)].starved = true
       ∧ s.tracks[(0 : TrackId)].held = [entry 0 1 0 0 0 0]
       ∧ (entry 0 1 0 0 0 0).required < s.tracks[(0 : TrackId)].interval)
    ∧ (entry 100 1 0 0 0 0).required = (playing (entry 100 1 0 0 0 0) 2).tracks[(0 : TrackId)].interval := by
  decide +kernel

theorem test_TRACK_RESUME :
    (let s := (playing (entry 0 1 0 0 100 0) 2).modTrack 0 fun x => { x with state := .suspended, starved := true }
     (afterCommand .trackResume (asking .trackResume 0 0 s)).tracks[(0 : TrackId)].underruns) = 1 := by decide +kernel

theorem test_witness_FetchTakesTheEntryInMemory :
    grant (fetching 7 2 ready) = some (.urgentFetch 7) ∧ grant (fetching 0 7 ready) = some (.fetch 0)
    ∧ (fetching 7 2 ready).tracks[(7 : TrackId)].state.active = true
    ∧ (bursting 7 (fetching 7 2 ready)).path.burst = some 7
    ∧ (bursting 7 ready).path.burst = some 7 ∧ (bursting 7 ready).tracks[(7 : TrackId)].state.active = false := by
  decide +kernel

theorem test_ENTRY_FETCH :
    (afterCommand .entryFetch (fetching 7 2 ready)).tracks[(7 : TrackId)].held.length = 3
    ∧ (afterCommand .entryFetch (fetching 0 7 ready)).tracks[(0 : TrackId)].request = false := by decide +kernel

theorem test_ENTRY_FETCH_after_halt :
    (let s := microsecond (fetching 7 2 ready)
     let u := afterCommand .entryFetch (haltTrack .stop 7 s)
     s.path.burst = some 7 ∧ u.path.burst = none ∧ u.path.urgentTurn = 7
       ∧ u.tracks[(7 : TrackId)].held = []) := by decide +kernel

theorem test_witness_DueEntryIsPlayedOnItsTarget :
    ∀ e ∈ [entry 100 0 0 0 0 0, entry 0 1 0 0 100 99, entry 0 4 0 0 20000000 0, entry 0 5 0 0 5000 0,
        entry 0 8 0 0 0 0, entry 0 9 63 0 0xFFFF 0],
      headDue (playing e 1) 0 = true ∧ (playing e 1).tracks[(0 : TrackId)].held = [e]
        ∧ entryFault (playing e 1) 0 e = .none ∧ e.target ≠ some .frame := by decide +kernel

theorem test_ENTRY_DUE :
    (afterCommand (.entryDue 0) (playing (entry 0 5 0 0 5000 0) 1)).tracks[(0 : TrackId)].state = .done
    ∧ (afterCommand (.entryDue 0) (playing (entry 0 5 0 0 5000 0) 1)).outputs[(0 : NestId)].level[(0 : Fin 4)]
      = 5000 := by decide +kernel

/-- Check 63 has trigger MARK 5, and is ARMED or a marked PROFILE of sample mark 5 that is SAMPLING. -/
def marked (kind : Nat) (x : CheckState) (delay : Nat) (due : Option Clock) : State :=
  (checking x (entered kind (1 + 256 * 5) (delay + 65536) (5 * 65536) (playing (entry 0 5 5 0 5000 0) 1))).modCheck 63
    fun y => { y with due := due }

theorem test_witness_MarkDelivered :
    (marked 0 .armed 0 none).checks.toList.countP (fun x => x.state != .idle) = 1
    ∧ checkTrigger (marked 0 .armed 0 none) 63 = some (.mark 5) ∧ checkNest (marked 0 .armed 0 none) 63 = 0
    ∧ (∀ delay ∈ [0, 1],
      let s := marked 2 .sampling delay none
      s.checks[(63 : CheckId)].state = .sampling ∧ markedProfile s 63 = true ∧ sampleMark s 63 = 5
        ∧ s.checks[(63 : CheckId)].due = none ∧ settleDelay s 63 = delay)
    ∧ (marked 2 .sampling 1 (some 1000)).checks[(63 : CheckId)].due = some 1000 := by decide +kernel

theorem test_ENTRY_DUE_delivers_its_mark :
    (afterCommand (.entryDue 0) (marked 0 .armed 0 none)).checks[(63 : CheckId)].state = .idle
    ∧ (afterCommand (.entryDue 0) (marked 2 .sampling 1 none)).checks[(63 : CheckId)].due = some 1000 := by
  decide +kernel

theorem test_witness_BadEntryFaultsItsTrack :
    ∀ e ∈ [entry 0 11 0 0 0 0, entry 0 31 0 0 0 0, entry 0 10 0 9 0 0, entry 0 1 0 0 1 0, entry 0 4 0 0 20000001 0,
        entry 0 1 0 0 0 100, entry 0 5 0 0 5001 0, entry 0 10 0 8 2048 0],
      headDue (playing e 1) 0 = true ∧ (playing e 1).tracks[(0 : TrackId)].held = [e]
        ∧ entryFault (playing e 1) 0 e ≠ .none := by decide +kernel

/-- Port A is ON with `n` frames queued and the gap of track 0 is `gap`. -/
def framing (n : Nat) (gap : Option Nat) (stalled : Bool) : State :=
  (((holding 0x20C 50 (playing (entry 0 10 0 8 0x7FF 0) 1)).modPort 0 fun x =>
    { x with state := .on, queue := List.replicate n someFrame, stall := if stalled then [0] else [] })).modTrack 0
    fun x => { x with gap := gap, stalled := stalled }

theorem test_witness_FramesAreQueuedStalledOrDropped :
    (∀ n ∈ [3, 4], headDue (framing n none false) 0 = true ∧ gapEnded (framing n (some 50) false) 0 = true
      ∧ entryFault (framing n none false) 0 (entry 0 10 0 8 0x7FF 0) = .none
      ∧ (entry 0 10 0 8 0x7FF 0).target = some .frame ∧ gapOpen (framing n (some 50) false) 0 = false)
    ∧ gapOpen (framing 3 (some 49) false) 0 = true ∧ headDue (framing 3 (some 49) false) 0 = true
    ∧ (framing 3 none true).ports[(0 : NestId)].stall = [0] ∧ ready.ports[(0 : NestId)].state ≠ .on := by
  decide +kernel

theorem test_FRAME_GAP_END :
    (afterCommand (.frameGapEnd 0) (framing 3 (some 50) false)).ports[(0 : NestId)].queue.length = 4 := by
  decide +kernel

theorem test_STALL_PLACE_OFFERED :
    (afterCommand (.stallPlaceOffered 0) (framing 3 none true)).ports[(0 : NestId)].queue.length = 4 := by
  decide +kernel

/-! ### Ports and inputs: hypotheses met -/

theorem test_witness_PortsStartAndStop :
    (framing 4 none true).ports[(0 : NestId)].stall.count 0 = 1
    ∧ (framing 4 none true).tracks[(0 : TrackId)].held = [entry 0 10 0 8 0x7FF 0] := by decide +kernel

theorem test_PORT_STOP :
    (let t := afterCommand .portStop (asking .portStop 0 0 (framing 4 none true))
     t.tracks[(0 : TrackId)].stalled = false ∧ t.tracks[(0 : TrackId)].dropped = 5
       ∧ t.tracks[(0 : TrackId)].played = 1) := by decide +kernel

theorem test_witness_AttemptsBeginAndEnd :
    sending.ports[(0 : NestId)].inFlight = some 0 ∧ sending.ports[(0 : NestId)].queue[0]? = some someFrame
    ∧ arbitrationKey 0x100 false ≤ someFrame.key
    ∧ (let s := sending.modPort 0 fun x => { x with inFlight := none }
       s.ports[(0 : NestId)].state = .on ∧ s.ports[(0 : NestId)].inFlight = none
         ∧ s.ports[(0 : NestId)].queue ≠ []) := by decide +kernel

theorem test_ACKED : (afterCommand (.acked 0) sending).ports[(0 : NestId)].queue = [] := by decide +kernel

theorem test_witness_UnacknowledgedFramesRetryFailAndSilence :
    retryLimit sending 0 ≤ someFrame.attempts ∧ sending.ports[(0 : NestId)].failures < 7
    ∧ someFrame.attempts < retryLimit (holding 0x400 16 sending) 0
    ∧ 7 ≤ (sending.modPort 0 fun x => { x with failures := 7 }).ports[(0 : NestId)].failures := by decide +kernel

theorem test_NOT_ACKED_silences :
    (let t := afterCommand (.notAcked 0)
       (sending.modPort 0 fun x => { x with failures := 7, queue := [someFrame, someFrame] })
     t.tracks[(0 : TrackId)].dropped = 2 ∧ t.post.fifo.length = 1) := by decide +kernel

theorem test_NOT_ACKED :
    (afterCommand (.notAcked 0) (sending.modPort 0 fun x => { x with failures := 7 })).ports[(0 : NestId)].state
      = .silent := by decide +kernel

/-- Port A is ON and its last filter takes standard frames of identifier 123h. -/
def listening : State :=
  (holding 0x538 0x7FF (holding 0x534 0x123 (holding 0x530 1 ready))).modPort 0 fun x => { x with state := .on }

theorem test_witness_FirstMatchingFilterCapturesTheFrame :
    filterMatches listening 0 ⟨0x123, false, 8, Vector.replicate 8 0xAB, true, false⟩ 15 = true
    ∧ (∀ i : Fin 16, i < 15 → filterMatches listening 0 ⟨0x123, false, 8, Vector.replicate 8 0xAB, true, false⟩ i = false)
    ∧ (∀ j : Fin 16, filterMatches listening 0 ⟨0x124, false, 8, Vector.replicate 8 0xAB, true, false⟩ j = false) := by
  decide +kernel

theorem test_DUT_FRAME_RECEIVED :
    (afterCommand (.dutFrameReceived 0 ⟨0x123, false, 8, Vector.replicate 8 0xAB, true, false⟩) listening).capture[
      (15 : CaptureId)].count = 1
    ∧ (afterCommand (.dutFrameReceived 0 ⟨0x123, false, 8, Vector.replicate 8 0xAB, true, true⟩) listening).capture[
      (15 : CaptureId)].count = 0 := by decide +kernel

/-- Input 15 of nest B, whose threshold is 5,000 mV, measures in a mode. -/
def measuring (x : InputMode) (position : Option Nat) (high : Bool) (g : Gate) : State :=
  (inNest 1 .opened (holding 0x6BC 5000 ready)).modInput 15 fun y =>
    { y with measuring := true, mode := x, position := position, high := high, gate := g, taken := 15,
             history := List.replicate 15 0 }

theorem test_witness_EdgesReachTheGateRecord :
    (measuring .edges (some 0) false Gate.clear).inputs[(15 : InputId)].measuring = true
    ∧ (measuring .edges (some 0) false Gate.clear).inputs[(15 : InputId)].high = false
    ∧ edgeThreshold (measuring .edges (some 0) false Gate.clear) 15 ≠ 0
    ∧ edgeThreshold (holding 0x6BC 0 (measuring .edges (some 0) false Gate.clear)) 15 = 0
    ∧ (measuring .edges (some 0) false Gate.clear).inputs[(15 : InputId)].lastEdge = none
    ∧ (measuring .edges (some 0) false Gate.clear).nests[nestOfInput 15].clock = (⟨0, Gate.clear, 0⟩ : EdgeMark).clock
    ∧ (measuring .duty (some 9) true ⟨1, some 1, some 1, 0, 0⟩).inputs[(15 : InputId)].high = true := by
  decide +kernel

theorem test_RISING_EDGE :
    (afterCommand (.risingEdge 15) (measuring .edges (some 0) false Gate.clear)).inputs[(15 : InputId)].edges = 1 := by
  decide +kernel

/-- R88: a pulse shorter than 1 µs is not seen. -/
theorem test_edges_of_one_microsecond :
    (let s := measuring .edges (some 0) false Gate.clear
     (afterCommand (.fallingEdge 15) (afterCommand (.risingEdge 15) s)).inputs = s.inputs) := by decide +kernel

theorem test_FALLING_EDGE :
    (afterCommand (.fallingEdge 15) (measuring .duty (some 9) true ⟨1, some 0, some 0, 0, 0⟩)).inputs[
      (15 : InputId)].high = false := by decide +kernel

theorem test_witness_GateEndGivesTheValueOfTheMode :
    ∀ x ∈ [InputMode.level, .frequency, .duty, .edges], ∀ g ∈ [⟨1, some 0, some 0, 0, 0⟩, ⟨2, some 0, some 2, 1, 1⟩],
      gateEnds (measuring x (some 9) false g) 15 = true
        ∧ (measuring x (some 9) false g).nests[nestOfInput 15].state = .opened
        ∧ (seatStep 1 true (afterRails 1 (quiet true) (measuring x (some 9) false g))).nests[(1 : NestId)].state
          = .opened := by decide +kernel

/-- The input of a gate that ends with the twentieth open reading, and a rail of its nest. -/
def opening (x : RailState) : State :=
  (inRail 3 x (measuring .edges (some 9) false Gate.clear)).modNest 1 fun y => { y with seat := true, openRun := 19 }

/-- R11 to R13, R95: both outcomes of a gate that ends as the seat opens. -/
theorem test_witness_gate_end_as_the_seat_opens :
    (gateEnds (opening .on) 15 = true ∧ (opening .on).nests[(1 : NestId)].state = .opened
      ∧ (seatStep 1 false (afterRails 1 (quiet false) (opening .on))).nests[(1 : NestId)].state = .draining)
    ∧ (gateEnds (opening .off) 15 = true ∧ (opening .off).nests[(1 : NestId)].state = .opened
      ∧ (seatStep 1 false (afterRails 1 (quiet false) (opening .off))).nests[(1 : NestId)].state = .idle) := by
  decide +kernel

theorem test_GATE_END_as_the_seat_opens :
    (afterCommand (.gateEnd 15 (quiet false)) (opening .on)).inputs[(15 : InputId)].position = some 0
    ∧ (afterCommand (.gateEnd 15 (quiet false)) (opening .off)).inputs[(15 : InputId)].position = none := by
  decide +kernel

theorem test_GATE_END :
    (afterCommand (.gateEnd 15 (quiet true)) (measuring .frequency (some 9) false ⟨2, some 0, some 2, 1, 1⟩)).inputs[
      (15 : InputId)].value = some 500000000
    ∧ (afterCommand (.gateEnd 15 (quiet true)) (measuring .duty (some 9) false ⟨2, some 0, some 2, 1, 1⟩)).inputs[
      (15 : InputId)].value = some 500 := by decide +kernel

/-- R90: an edge stamped with the clock value of the boundary opens the next gate. -/
theorem test_edge_on_a_gate_boundary :
    (let s := (measuring .frequency (some 9) true ⟨3, some 7, some 0, 3, 3⟩).modInput 15 fun x =>
        { x with edges := 3, lastEdge := some ⟨0, ⟨2, some 0, some 2, 1, 1⟩, 2⟩ }
     let t := afterCommand (.gateEnd 15 (quiet true)) s
     t.inputs[(15 : InputId)].value = some 500000000
       ∧ t.inputs[(15 : InputId)].gate = ⟨1, some 0, some 0, 0, 0⟩ ∧ t.inputs[(15 : InputId)].edges = 3) := by
  decide +kernel

theorem test_witness_gate_end_in_a_drain :
    (let s := inRail 3 .discharging (inNest 1 .draining (measuring .edges (some 9) false Gate.clear))
     gateEnds s 15 = true
       ∧ (seatStep 1 true (afterRails 1 (quiet true) s)).nests[nestOfInput 15].state = .draining)
    ∧ (let s := inNest 1 .draining (measuring .edges (some 9) false Gate.clear)
       gateEnds s 15 = true ∧ s.nests[nestOfInput 15].state = .draining
         ∧ (seatStep 1 true (afterRails 1 (quiet true) s)).nests[nestOfInput 15].state = .idle) := by decide +kernel

/-! ### Checks: hypotheses met -/

theorem test_witness_actions_on_checks :
    ∀ c ∈ [(0 : CheckId), 63], ∀ x ∈ [Action.checkArm, .checkArmRun, .checkCancel],
      Commands (asking x c.val 1 ready) x 15 (actionAt 15 x.code c.val 1) c.val := by
  unfold Commands; decide +kernel

theorem test_CHECK_ARM :
    (afterCommand .checkArm (asking .checkArm 63 0 (inNest 0 .opened (entered 0 0 0 0 ready)))).checks[
      (63 : CheckId)].state = .idle
    ∧ (afterCommand .checkArm (asking .checkArm 63 0 (inNest 0 .opened (entered 0 0 0 0 ready)))).post.fifo.length
      = 1 := by decide +kernel

theorem test_CHECK_CANCEL :
    (afterCommand .checkCancel (asking .checkCancel 63 0 (checking .armed ready))).checks[(63 : CheckId)].state
      = .idle := by decide +kernel

theorem test_witness_TriggeredChecksStartByTheirKind :
    ∀ kind ∈ [0, 1, 2, 3, 4, 5, 6], ∀ delay ∈ [0, 65535],
      timeTriggered (checking .armed (entered kind 4 delay 1 ready)) 63 = true
        ∧ timeTriggered (checking .armed (entered 2 4 delay 0 ready)) 63 = true
        ∧ markedProfile (checking .armed (entered 2 4 delay 0 ready)) 63 = true := by decide +kernel

theorem test_TIME_TRIGGER :
    (afterCommand (.timeTrigger 63) (checking .armed (entered 1 4 1 1 ready))).checks[(63 : CheckId)].state
      = .delaying := by decide +kernel

theorem test_witness_DelaysEndAndDueSamplesAreTaken :
    (∀ kind ∈ [0, 1, 2, 4, 5], delayEnded (checking .delaying (entered kind 0 0x10000 1 ready)) 63 = true)
    ∧ windowSampleDue (checking .sampling (entered 1 0 0x10000 1 ready)) 63 = true
    ∧ profileSampleDue (checking .sampling (entered 2 0 0x10000 1 ready)) 63 = true
    ∧ pendingDue ((checking .sampling (entered 2 0 0x10000 0x10000 ready)).modCheck 63 fun x =>
        { x with due := some 0 }) 63 = true := by decide +kernel

theorem test_DELAY_END :
    (afterCommand (.delayEnd 63) (checking .delaying (entered 1 0 0x10000 1 ready))).checks[(63 : CheckId)].samples
      = 1 := by decide +kernel

theorem test_WINDOW_SAMPLE :
    (afterCommand (.windowSample 63) (checking .sampling (entered 1 0 0x10000 1 ready))).checks[(63 : CheckId)].minimum
      = some 0 := by decide +kernel

theorem test_PROFILE_SAMPLE :
    (afterCommand (.profileSample 63) (checking .sampling (entered 2 0 0x10000 1 ready))).post.fifo.length = 1 := by
  decide +kernel

/-- Check 63 has run for a window of 1 ms since its trigger, with one sample taken. -/
def windowed (kind : Nat) (x : CheckState) : State :=
  ((checking x (entered kind 0 0x10000 1 ready)).modNest 0 fun y => { y with clock := 1000 }).modCheck 63 fun y =>
    { y with trigger := some 0, samples := 1, minimum := some 0, maximum := some 1 }

theorem test_witness_WindowsEndInADecision :
    (∀ kind ∈ [1, 2, 3, 4], (windowEnded (windowed kind .sampling) 63).isSome = true)
    ∧ (∀ x ∈ [CheckState.delaying, .querying], (windowEnded (windowed 5 x) 63).isSome = true)
    ∧ (windowEnded (windowed 2 .delaying) 63).isSome = true
    ∧ windowSamples (windowed 1 .sampling) 63 ≤ 1 ∧ sourceRail (windowed 3 .sampling) 63 = some 0 := by
  decide +kernel

/-- Check 62 waits for a decision of check 63. -/
def following (passOnly : Bool) : State :=
  (holding 0xFC4 (5 + 256 * 63 + (if passOnly then 65536 else 0)) (windowed 5 .querying)).modCheck 62 fun y =>
    { y with state := .armed, arming := 1, session := 1 }

theorem test_witness_DependantsTaken :
    ∀ passOnly : Bool, (following passOnly).checks[(62 : CheckId)].state = .armed
      ∧ checkTrigger (following passOnly) 62 = some (.after 63 passOnly) ∧ checkKind (following passOnly) 62 ≠ none
      ∧ (windowEnded (following passOnly) 63).map (fun d => d.verdict) = some .timeout := by decide +kernel

theorem test_WINDOW_END_takes_dependants :
    (afterCommand (.windowEnd 63) (following false)).checks[(62 : CheckId)].trigger = some 1000
    ∧ (afterCommand (.windowEnd 63) (following true)).checks[(62 : CheckId)].trigger = none
    ∧ (afterCommand (.windowEnd 63) (following true)).post.fifo.length = 2 := by decide +kernel

theorem test_WINDOW_END :
    (windowEnded (windowed 1 .sampling) 63) = some { verdict := .failHigh, detail := 1, a := 0, b := 1 }
    ∧ (afterCommand (.windowEnd 63) (windowed 5 .querying)).post.fifo.length = 1 := by decide +kernel

/-- A verdict of check 63 waits for the post FIFO. -/
def decidedCheck : State :=
  { (checking .decided ready).modCheck 63 fun x =>
      { x with held := some ⟨63, 0, 1, 1, { verdict := .pass }, none, 0⟩ } with
    unposted := [63] }

/-- A block item waits for the post FIFO. -/
def blocked : State :=
  (linked (getting .getBlock .handingOff false 0)).modLink fun l =>
    { l with block := some ⟨List.replicate 16 1, 0x8000#32, (getting .getBlock .handingOff false 0).request⟩ }

theorem test_witness_FifoTakesWhatWaitsForIt :
    decidedCheck.unposted = [63] ∧ (decidedCheck.checks[(63 : CheckId)].held).isSome = true
    ∧ blocked.link.flight = some (getting .getBlock .handingOff false 0) ∧ blocked.link.block.isSome = true
    ∧ blocked.post.fifo.length < 32 := by decide +kernel

theorem test_VERDICT_TAKEN :
    (afterCommand .verdictTaken decidedCheck).checks[(63 : CheckId)].state = .idle := by decide +kernel

theorem test_BLOCK_ITEM_TAKEN :
    (afterCommand .blockItemTaken blocked).post.fifo.length = 2
    ∧ (afterCommand .blockItemTaken blocked).link.flight = none := by decide +kernel

/-! ### The link and prompts: hypotheses met -/

theorem test_witness_actions_on_nodes :
    (∀ d ∈ [(0 : NodeId), 14], ∀ x ∈ [Action.nodeEnable, .nodeDisable, .nodeRestore],
      Commands (asking x d.val 0 ready) x 15 (actionAt 15 x.code d.val 0) d.val)
    ∧ (∀ x ∈ [Action.linkPause, .linkResume, .restart],
      grantedAction (asking x 255 65535 ready) x = some (15, actionAt 15 x.code 255 65535)) := by
  unfold Commands; decide +kernel

theorem test_NODE_ENABLE :
    (afterCommand .nodeEnable (asking .nodeEnable 14 0 (holding (0x6C0 + 0xE0) 0x30 ready))).nodes[(14 : NodeId)].state
      = .inService
    ∧ (afterCommand .nodeEnable (asking .nodeEnable 14 0 (holding (0x6C0 + 0xE0) 0x38 ready))).nodes[
        (14 : NodeId)].state = .disabled := by decide +kernel

/-- Node 3 is in a state with the link idle, and nest A runs a session with node 3 as its interlock. -/
def locked (x : NodeState) (i : Interlock) (trip : Bool) : State :=
  (((holding 0x100 0x400 (linked (getting .poll .receiving false 0))).modNode 3 fun y => { y with state := x }).modNest 0
    fun y => { y with state := .opened, interlock := i, trip := trip }).modLink fun l =>
      { l with flight := none, outOfService := if x = .outOfService then 1 else 0 }

theorem test_witness_NodesAreEnabledRestoredAndDisabled :
    (locked .outOfService .unsatisfied false).nodes[(3 : NodeId)].state = .outOfService
    ∧ (locked .outOfService .unsatisfied false).link.flight = none
    ∧ (locked .inService .satisfied false).nodes[(3 : NodeId)].state = .inService
    ∧ interlockNode (locked .inService .satisfied false) 0 = some 3
    ∧ interlockNode (locked .inService .satisfied false) 1 ≠ some 3
    ∧ (locked .inService .satisfied false).nests[(0 : NestId)].state = .opened := by decide +kernel

theorem test_NODE_RESTORE :
    (let t := afterCommand .nodeRestore (asking .nodeRestore 3 0 (locked .outOfService .unsatisfied false))
     t.nodes[(3 : NodeId)].state = .inService ∧ t.link.outOfService = 0) := by decide +kernel

theorem test_NODE_DISABLE :
    (let t := afterCommand .nodeDisable (asking .nodeDisable 3 0 (locked .outOfService .unsatisfied false))
     t.nodes[(3 : NodeId)].state = .disabled ∧ t.link.outOfService = 0)
    ∧ (let t := afterCommand .nodeDisable (asking .nodeDisable 3 0 (locked .inService .satisfied false))
       t.nests[(0 : NestId)].trip = true ∧ t.post.fifo.length = 1) := by decide +kernel

theorem test_witness_RisingServiceRequestOffersOnePoll :
    ready.nodes[(0 : NodeId)].lineSeen ≠ true ∧ ready.nodes[(14 : NodeId)].lineSeen ≠ true
    ∧ (linked (getting .get .sending false 0)).nodes[(3 : NodeId)].state = .inService
    ∧ serviceMasked (linked (getting .get .sending false 0)) 3 = false := by decide +kernel

theorem test_SERVICE_REQUEST :
    (afterCommand (.serviceRequest 3 true) (linked (getting .get .sending false 0))).link.queue
      = [servicePoll 3] := by decide +kernel

/-- A request waits with the link idle. -/
def queued (q : Request) : State :=
  (linked (getting .get .sending false 0)).modLink fun l => { l with flight := none, queue := [q] }

theorem test_witness_HeadOfTheQueueStartsOrIsAnswered :
    ∀ q ∈ [servicePoll 3, servicePoll 4, (getting .putBlock .reading false 0).request,
        ⟨.get, 4, 0, 0, .host 15 0 0⟩, ⟨.get, 4, 0, 0, .check 63 1 1⟩],
      (queued q).link.queue = [q] ∧ (queued q).link.flight = none ∧ (queued q).link.block = none
        ∧ (queued q).link.paused = false := by decide +kernel

/-- The queue is full, with a service poll, a step and a query held. -/
def crowded : State :=
  (((queued (servicePoll 3)).modLink fun l => { l with queue := List.replicate 16 (servicePoll 3) }).modPrompt 1
    fun p => { p with step := some (.load, true) }).modCheck 63 fun x => { x with query := .held }

theorem test_witness_HeldGiven :
    (∀ s ∈ [crowded, crowded.modNode 14 fun x => { x with pollHeld := true }],
      s.link.queue = servicePoll 3 :: List.replicate 15 (servicePoll 3) ∧ s.link.flight = none ∧ s.link.block = none
        ∧ s.link.paused = false)
    ∧ (∀ d : NodeId, crowded.nodes[d].pollHeld = false)
    ∧ crowded.prompts[(0 : NestId)].step = none ∧ crowded.prompts[(1 : NestId)].step = some (.load, true)
    ∧ (crowded.modPrompt 1 fun p => { p with step := none }).prompts[(1 : NestId)].step = none
    ∧ crowded.checks[(63 : CheckId)].query = .held
    ∧ (let s := checking .querying (queued ⟨.get, 4, 0, 0, .check 63 1 1⟩)
       s.checks[(63 : CheckId)].state = .querying ∧ s.checks[(63 : CheckId)].arming = 1
         ∧ s.checks[(63 : CheckId)].session = 1 ∧ s.nodes[(4 : NodeId)].state ≠ .inService) := by decide +kernel

theorem test_TRANSACTION_START_gives_its_place :
    (afterCommand .transactionStart crowded).prompts[(1 : NestId)].step = some (.load, false)
    ∧ (afterCommand .transactionStart (crowded.modNode 14 fun x => { x with pollHeld := true })).nodes[
        (14 : NodeId)].pollHeld = false
    ∧ (afterCommand .transactionStart (checking .querying (queued ⟨.get, 4, 0, 0, .check 63 1 1⟩))).checks[
        (63 : CheckId)].state = .idle := by decide +kernel

theorem test_TRANSACTION_START :
    ((afterCommand .transactionStart (queued (servicePoll 3))).link.flight.map fun t => t.phase) = some .sending
    ∧ ((afterCommand .transactionStart (queued (servicePoll 3))).link.flight.map fun t => t.frame.take 8)
      = some [false, false, true, true, true, false, true, false] := by decide +kernel

theorem test_witness_TransactionsAdvanceThroughTheirPhases :
    grant (linked (getting .putBlock .reading false 0)) = some .blockRead
    ∧ (linked (getting .get .sending false 0)).link.flight = some (getting .get .sending false 0)
    ∧ (linked (getting .get .awaiting false 99)).link.flight = some (getting .get .awaiting false 99) := by
  decide +kernel

theorem test_BLOCK_SOURCE_READ :
    ((afterCommand .blockSourceRead (linked (getting .putBlock .reading false 0))).link.flight.map
      fun t => t.words.length) = some 4 := by decide +kernel

/-- A reply of node 3 with an opener and words. -/
def reply (opener : BitVec 8) (words : List (Word × BitVec 4)) : LinkReply := ⟨some opener, some 3, words, false⟩

theorem test_witness_FramesAndRepliesFollowTheLinkFormat :
    judgeReply 3 .get (reply 0xCA [(0x12345678, nibbleCheck 0x12345678)]) = .answer .ok [0x12345678]
    ∧ judgeReply 3 .get (reply 0xCA []) = .error .gap
    ∧ judgeReply 3 .put (reply 0xCA [(0, 0)]) = .error .wordCount
    ∧ judgeReply 3 .get { reply 0xCA [(0, 0)] with further := true } = .error .wordCount
    ∧ judgeReply 3 .get (reply 0xCA [(0, 1)]) = .error .nibbleCheck
    ∧ judgeReply 5 .get (reply 0xCA []) = .error .addressMismatch
    ∧ judgeReply 3 .get (reply 0xC9 []) = .answer .nodeError []
    ∧ judgeReply 3 .get (reply 0xC5 []) = .error .garbled ∧ judgeReply 3 .get (reply 0 []) = .error .badOpener
    ∧ judgeReply 3 .get ⟨none, none, [], false⟩ = .error .gap
    ∧ ((requestFrame 3 (getting .poll .sending false 0).request []).drop 14) = List.replicate 8 false ++ [true] := by
  decide +kernel

theorem test_witness_LinkErrorsRetryAndThenLoseTheNode :
    ∀ b : Bool, (linked (getting .get .awaiting b 100)).link.flight = some (getting .get .awaiting b 100)
      ∧ judgeReply (addressCode (linked (getting .get .receiving b 0)) 3) .get (reply 0xC5 []) = .error .garbled := by
  decide +kernel

theorem test_NO_REPLY :
    (afterCommand .noReply (linked (getting .get .awaiting true 100))).nodes[(3 : NodeId)].state = .outOfService
    ∧ (afterCommand .noReply (linked (getting .get .awaiting true 100))).post.fifo.length = 2 := by decide +kernel

theorem test_LINK_ERROR :
    ((afterCommand (.linkError (reply 0xC5 [])) (linked (getting .get .receiving false 0))).link.flight.map
      fun t => t.second) = some true := by decide +kernel

theorem test_witness_RepliesReachTheirRequester :
    (∀ k ∈ [LinkKind.put, .get, .doCommand, .poll, .putBlock, .getBlock],
      judgeReply (addressCode (linked (getting k .receiving false 0)) 3) k (reply 0xC9 []) = .answer .nodeError [])
    ∧ judgeReply (addressCode (linked (getting .poll .receiving false 0)) 3) .poll (reply 0xCA [(1, 1)])
      = .answer .ok [1]
    ∧ judgeReply (addressCode (linked (getting .getBlock .receiving false 0)) 3) .getBlock
        (reply 0xCA (List.replicate 16 (1, 1))) = .answer .ok (List.replicate 16 1) := by decide +kernel

theorem test_LINK_REPLY_COMPLETE :
    (afterCommand (.linkReplyComplete (reply 0xCA [(1, 1)])) (linked (getting .poll .receiving false 0))).nodes[
      (3 : NodeId)].status = some 1
    ∧ (afterCommand (.linkReplyComplete (reply 0xCA (List.replicate 16 (1, 1))))
        (linked (getting .getBlock .receiving false 0))).post.fifo.length = 2 := by decide +kernel

/-- What the record at index 0 is answered with at once, if it fails its test. -/
def ringResult (s : State) : Option LinkResult := match ringRequest s 0 with | .error r => some r | .ok _ => none

theorem test_witness_QueueTakesHeldRequestsAndRecords :
    (ready.modNode 14 fun x => { x with pollHeld := true }).nodes[(14 : NodeId)].pollHeld = true
    ∧ (ready.modPrompt 1 fun p => { p with restartClear := some (14, 255) }).prompts[(1 : NestId)].restartClear
      = some (14, 255)
    ∧ (ready.modPrompt 1 fun p => { p with step := some (.load, true) }).prompts[(1 : NestId)].step
      = some (.load, true)
    ∧ (ready.modCheck 63 fun x => { x with query := .held }).checks[(63 : CheckId)].query = .held
    ∧ (holding 0xD0 1 ready).link.consumer ≠ (requestProducer (holding 0xD0 1 ready)).setWidth 4
    ∧ (ringRequest (holding 0xD0 1 ready) 0).toOption = some ⟨.put, 0, 0, 0, .host 0 0 0⟩
    ∧ ringResult (holding 0x2000 7 (holding 0xD0 1 ready)) = some .badRequest
    ∧ ringResult (holding 0x2008 1 (holding 0x2000 4 (holding 0xD0 1 ready))) = some .badAddress := by
  decide +kernel

theorem test_HELD_REQUEST_TAKEN :
    (afterCommand .heldRequestTaken ((linked (getting .get .sending false 0)).modNode 14 fun x =>
      { x with pollHeld := true })).link.queue = [servicePoll 14] := by decide +kernel

theorem test_REQUEST_RECORD_TAKEN :
    (afterCommand .requestRecordTaken (holding 0xD0 15 (linked (getting .get .sending false 0)))).link.queue.length
      = 12 := by decide +kernel

/-- A prompt of check 63 waits in nest A, whose panel node is 3. -/
def prompting (kind : Nat) : State :=
  (holding (0x6C0 + 0x30) (3 + 256 * kind) (holding 0x100 0x4000 (checking .promptWait
    (linked (getting .get .sending false 0))))).modPrompt 0 fun p => { p with waiting := [⟨63, 1, 1⟩] }

/-- The prompt of check 63 is SHOWN and its window has passed. -/
def shown : State :=
  (holding 0xFEC 0x10000 ((prompting 1).modCheck 63 fun x => { x with state := .prompting })).modPrompt 0 fun p =>
    { p with state := .shown, check := some ⟨63, 1, 1⟩, waiting := [], timer := some 100000, sequence := 7 }

theorem test_witness_PromptsAreTakenAndTimeOut :
    (prompting 1).prompts[(0 : NestId)].state = .free ∧ (prompting 1).prompts[(0 : NestId)].waiting = [⟨63, 1, 1⟩]
    ∧ panelNode (prompting 1) 0 = some 3 ∧ nodeKind (prompting 1) 3 = 1 ∧ nodeKind (prompting 0) 3 ≠ 1
    ∧ (prompting 1).nodes[(3 : NodeId)].state = .inService
    ∧ (prompting 0).checks[(63 : CheckId)].state = .promptWait
    ∧ shown.prompts[(0 : NestId)].state = .shown ∧ shown.prompts[(0 : NestId)].timer = some 100000
    ∧ 100000 * checkWindow shown 63 ≤ 100000 ∧ shown.checks[(63 : CheckId)].arming = 1 := by decide +kernel

/-- The prompt of check 63, sequence 7, is in a state, and node 3 answers its step. -/
def stepping (k : PromptStep) (x : ContextState) (withdrawn second : Bool) (phase : Phase) : State :=
  (shown.modPrompt 0 fun p =>
    { p with state := x, step := some (k, false), withdrawn := withdrawn, timer := none, panel := 3 }).modLink fun l =>
      { l with flight := some { getting .doCommand phase second 100 with request := stepRequest 0 3 7 7 0 k } }

theorem test_witness_StepAnswered :
    (∀ k ∈ [PromptStep.load, .show, .clear], ∀ x ∈ [ContextState.loading, .showing, .clearing], ∀ w : Bool,
      let s := stepping k x w false .receiving
      s.prompts[(0 : NestId)].sequence = 7 ∧ s.prompts[(0 : NestId)].step = some (k, false)
        ∧ s.prompts[(0 : NestId)].withdrawn = w ∧ s.prompts[(0 : NestId)].check = some ⟨63, 1, 1⟩
        ∧ s.checks[(63 : CheckId)].state = .prompting ∧ s.checks[(63 : CheckId)].arming = 1
        ∧ s.checks[(63 : CheckId)].session = 1)
    ∧ judgeReply 3 .putBlock (reply 0xCA []) = .answer .ok []
    ∧ judgeReply 3 .doCommand (reply 0xCA []) = .answer .ok [] := by decide +kernel

theorem test_NO_REPLY_frees_its_prompt :
    (let t := afterCommand .noReply (stepping .load .loading false true .awaiting)
     t.prompts[(0 : NestId)].state = .free ∧ t.checks[(63 : CheckId)].state = .idle) := by decide +kernel

/-- A POLL of node 3 finds the prompt of check 63 SHOWN, in which every answer is offered. -/
def asked : State :=
  (shown.modPrompt 0 fun p => { p with answers := 7, panel := 3 }).modLink fun l =>
    { l with flight := some (getting .poll .receiving false 0) }

/-- An answer of the panel: READY, an answer code and a sequence. -/
def answerOf (code q : Nat) : Word := BitVec.ofNat 32 (65536 + 131072 * code + 16777216 * q)

theorem test_witness_StatusTaken :
    (∀ code ∈ [0, 1, 2, 3], ∀ q ∈ [6, 7],
      judgeReply (addressCode asked 3) .poll (reply 0xCA [(answerOf code q, nibbleCheck (answerOf code q))])
        = .answer .ok [answerOf code q])
    ∧ panelNests asked 3 = [0] ∧ (∀ n : NestId, interlockNode asked n ≠ some 3)
    ∧ asked.checks.toList.countP (fun x => x.state == .armed) = 0
    ∧ asked.prompts[(0 : NestId)].answered = none
    ∧ (asked.modPrompt 0 fun p => { p with answered := some 7 }).prompts[(0 : NestId)].answered = some 7
    ∧ (∀ i ∈ [Interlock.satisfied, .unsatisfied],
      let s := (locked .inService i (i == .unsatisfied)).modLink fun l =>
        { l with flight := some (getting .poll .receiving false 0) }
      s.nodes[(3 : NodeId)].state = .inService ∧ interlockNode s 0 = some 3 ∧ s.nests[(0 : NestId)].state = .opened
        ∧ s.nests[(0 : NestId)].interlock = i ∧ nodeKind s 3 = 0) := by decide +kernel

theorem test_LINK_REPLY_COMPLETE_reaches_nests_and_prompts :
    (let t (k : PromptStep) (x : ContextState) (w : Bool) (o : BitVec 8) : Prompt :=
        (afterCommand (.linkReplyComplete (reply o [])) (stepping k x w false .receiving)).prompts[(0 : NestId)]
     (t .load .loading false 0xCA).state = .showing ∧ (t .show .showing false 0xCA).state = .shown
       ∧ (t .clear .clearing false 0xC9).state = .free ∧ (t .load .loading true 0xCA).state = .clearing
       ∧ (t .load .loading false 0xC9).state = .clearing)
    ∧ (let t (code q : Nat) := afterCommand (.linkReplyComplete
        (reply 0xCA [(answerOf code q, nibbleCheck (answerOf code q))])) asked
     (t 1 7).prompts[(0 : NestId)].state = .clearing ∧ (t 1 7).prompts[(0 : NestId)].answered = some 7
       ∧ (t 1 7).checks[(63 : CheckId)].state = .idle
       ∧ (t 0 7).prompts[(0 : NestId)].state = .shown ∧ (t 0 7).post.fifo.length = 2
       ∧ (t 1 6).prompts[(0 : NestId)].state = .shown ∧ (t 1 6).post.fifo.length = 2)
    ∧ (let t (i : Interlock) (w : Word) := (afterCommand (.linkReplyComplete (reply 0xCA [(w, nibbleCheck w)]))
        ((locked .inService i (i == .unsatisfied)).modLink fun l =>
          { l with flight := some (getting .poll .receiving false 0) })).nests[(0 : NestId)]
     (t .satisfied 0).trip = true ∧ (t .unsatisfied 1).trip = false
       ∧ (t .unsatisfied 1).interlock = .satisfied) := by
  decide +kernel

theorem test_witness_HandedOn_to_a_panel :
    (let s := shown.modLink fun l => { l with flight := none }
     s.prompts[(0 : NestId)].state = .shown ∧ panelNode s 0 = some 3 ∧ (∀ n : NestId, interlockNode s n ≠ some 3)
       ∧ panelNode s 1 ≠ some 3 ∧ s.prompts[(0 : NestId)].check = some ⟨63, 1, 1⟩ ∧ s.link.flight = none) := by
  decide +kernel

theorem test_NODE_DISABLE_of_a_panel :
    (let t := afterCommand .nodeDisable (asking .nodeDisable 3 0 (shown.modLink fun l => { l with flight := none }))
     t.prompts[(0 : NestId)].state = .free ∧ t.checks[(63 : CheckId)].state = .idle) := by decide +kernel

/-- Check 63 is an OPERATOR check whose trigger is due; the panel node of nest A is node 3. -/
def operating (kind : Nat) (x : ContextState) : State :=
  (checking .armed (entered 6 4 0 0 (holding (0x6C0 + 0x30) (3 + 256 * kind) (holding 0x100 0x4000
    (linked (getting .get .sending false 0)))))).modPrompt 0 fun p => { p with state := x }

theorem test_witness_operator_checks :
    (∀ kind ∈ [0, 1], timeTriggered (operating kind .free) 63 = true
      ∧ checkKind (operating kind .free) 63 = some .operator
      ∧ panelNode (operating kind .free) 0 = some 3 ∧ nodeKind (operating kind .free) 3 = kind
      ∧ (operating kind .free).prompts[(0 : NestId)].waiting = [])
    ∧ (operating 1 .shown).prompts[(0 : NestId)].state ≠ .free := by decide +kernel

theorem test_TIME_TRIGGER_of_an_operator_check :
    (afterCommand (.timeTrigger 63) (operating 1 .free)).prompts[(0 : NestId)].state = .loading
    ∧ (afterCommand (.timeTrigger 63) (operating 0 .free)).post.fifo.length = 1
    ∧ (afterCommand (.timeTrigger 63) (operating 1 .shown)).checks[(63 : CheckId)].state = .promptWait := by
  decide +kernel

theorem test_witness_withdrawals :
    shown.nests[(0 : NestId)].state = .opened ∧ checkNest shown 63 = 0
    ∧ shown.checks[(63 : CheckId)].state.undecided = true
    ∧ (let s := shown.modPrompt 0 fun p => { p with state := .loading, step := some (.load, true) }
       s.prompts[(0 : NestId)].state = .loading ∧ s.prompts[(0 : NestId)].step = some (.load, true)
         ∧ s.checks[(63 : CheckId)].state = .prompting) := by decide +kernel

theorem test_NEST_ABORT_withdraws :
    (let t := afterCommand .nestAbort (asking .nestAbort 0 0 shown)
     t.prompts[(0 : NestId)].state = .clearing ∧ t.checks[(63 : CheckId)].state = .idle
       ∧ t.nests[(0 : NestId)].state = .draining)
    ∧ (afterCommand .checkCancel (asking .checkCancel 63 0 (shown.modPrompt 0 fun p =>
        { p with state := .loading, step := some (.load, true) }))).prompts[(0 : NestId)].state = .free := by
  decide +kernel

theorem test_TAKE_PROMPT :
    (afterCommand (.takePrompt 0) (prompting 1)).prompts[(0 : NestId)].state = .loading
    ∧ (afterCommand (.takePrompt 0) (prompting 0)).post.fifo.length = 1 := by decide +kernel

theorem test_PROMPT_TIMEOUT :
    (afterCommand (.promptTimeout 0) shown).prompts[(0 : NestId)].state = .clearing
    ∧ (afterCommand (.promptTimeout 0) shown).link.queue.length = 1 := by decide +kernel

theorem test_RESTART :
    (afterCommand .restart (asking .restart 0 0 shown)).prompts[(0 : NestId)].state = .free
    ∧ (afterCommand .restart (asking .restart 0 0 shown)).link.queue.length = 1
    ∧ ((afterCommand .restart (asking .restart 0 0 ((shown.modLink fun l =>
          { l with queue := [(getting .get .sending false 0).request, servicePoll 3] }).modNode 14 fun x =>
            { x with pollHeld := true }))).link.queue.map fun q => (q.kind, q.node))
      = [(.poll, 3), (.poll, 14), (.doCommand, 0)] := by decide +kernel

end Sys2Proof.Tests
end

section
/-! SUPPORT. Loops and the passing of time: what one microsecond leaves at each count of time (log 1). -/
namespace Sys2Proof.Machine

/-- Updating each listed number of a table once, by a change that also looks at a part of the state that the loop keeps. -/
theorem forEach_table_under {ι α β : Type} [DecidableEq ι] {t : State → ι → α} {u : ι → State → State}
    {p : State → β} {f : β → ι → α → α} (hp : ∀ i s, p (u i s) = p s)
    (h : ∀ i s j, t (u i s) j = if j = i then f (p s) i (t s i) else t s j) (l : List ι) (hl : l.Nodup) (s : State)
    (j : ι) : t (s.forEach l u) j = if j ∈ l then f (p s) j (t s j) else t s j := by
  induction l generalizing s with
  | nil => simp
  | cons i l ih =>
    obtain ⟨hi, hl⟩ := List.nodup_cons.1 hl
    rw [forEach_cons, ih hl, h, hp]
    by_cases hj : j = i
    · subst hj; simp [hi]
    · simp [hj]

/-! ### One microsecond (R9, R18, R54, R58, R124, R149) -/

/-- The part of the state that holds no count of time, without the path. -/
def State.untimed (s : State) :=
  (s.pending, s.mem, s.post, s.rails, s.supplies, s.outputs, s.claims, s.frameHolders, s.ports, s.capture, s.inputs,
    s.checks, s.unposted, s.nodes)

@[simp] theorem modNest_untimed (s : State) (n : NestId) (f : Nest → Nest) : (s.modNest n f).untimed = s.untimed := rfl
@[simp] theorem modTrack_untimed (s : State) (t : TrackId) (f : Track → Track) :
    (s.modTrack t f).untimed = s.untimed := rfl
@[simp] theorem modPrompt_untimed (s : State) (n : NestId) (f : Prompt → Prompt) :
    (s.modPrompt n f).untimed = s.untimed := rfl
@[simp] theorem modLink_untimed (s : State) (f : Link → Link) : (s.modLink f).untimed = s.untimed := rfl

theorem mem_allNests (n : NestId) : n ∈ allNests := by
  match n with
  | 0 | 1 => simp [allNests]

/-- The loop of `tick` over the nests. -/
def tickNests (s : State) : State := s.forEach allNests fun n s => s.modNest n fun x => x.tick (snapshotPeriod s n)

/-- The loop of `tick` over the tracks. -/
def tickTracks (s : State) : State := s.forEach allTracks fun t s => s.modTrack t Track.tick

/-- The loop of `tick` over the prompt contexts. -/
def tickPrompts (s : State) : State := s.forEach allNests fun n s => s.modPrompt n Prompt.tick

theorem tick_eq (s : State) :
    tick s = (tickPrompts (tickTracks (tickNests s))).modLink fun l => { l with flight := l.flight.map Transaction.tick } :=
  rfl

/-- What each update of a table keeps, the loops of `tick` keep. -/
theorem tickNests_keeps {β : Type} (p : State → β) (h : ∀ n f s, p (State.modNest s n f) = p s) (s : State) :
    p (tickNests s) = p s := forEach_keeps p _ (fun n s => h n _ s) _ s

theorem tickTracks_keeps {β : Type} (p : State → β) (h : ∀ t f s, p (State.modTrack s t f) = p s) (s : State) :
    p (tickTracks s) = p s := forEach_keeps p _ (fun t s => h t _ s) _ s

theorem tickPrompts_keeps {β : Type} (p : State → β) (h : ∀ n f s, p (State.modPrompt s n f) = p s) (s : State) :
    p (tickPrompts s) = p s := forEach_keeps p _ (fun n s => h n _ s) _ s

theorem tickNests_get (s : State) (n : NestId) : (tickNests s).nests[n] = s.nests[n].tick (snapshotPeriod s n) := by
  have h := forEach_table_under (t := fun s (n : NestId) => s.nests[n])
    (u := fun n s => s.modNest n fun x => x.tick (snapshotPeriod s n)) (p := snapshotPeriod)
    (f := fun period n x => x.tick (period n)) (fun _ _ => rfl) (fun n s j => modNest_get n _ s j)
    allNests (by decide) s n
  exact h.trans (if_pos (mem_allNests n))

theorem tickTracks_get (s : State) (k : TrackId) : (tickTracks s).tracks[k] = s.tracks[k].tick := by
  have h := forEach_table (t := fun s (k : TrackId) => s.tracks[k]) (u := fun k s => s.modTrack k Track.tick)
    (f := fun _ x => x.tick) (fun k s j => by rw [modTrack_get]) allTracks (List.nodup_finRange 8) s k
  exact h.trans (if_pos (List.mem_finRange k))

theorem tickPrompts_get (s : State) (n : NestId) : (tickPrompts s).prompts[n] = s.prompts[n].tick := by
  have h := forEach_table (t := fun s (n : NestId) => s.prompts[n]) (u := fun n s => s.modPrompt n Prompt.tick)
    (f := fun _ x => x.tick) (fun n s j => by rw [modPrompt_get]) allNests (by decide) s n
  exact h.trans (if_pos (mem_allNests n))

theorem tick_nests (s : State) (n : NestId) : (tick s).nests[n] = s.nests[n].tick (snapshotPeriod s n) := by
  rw [tick_eq, modLink_nests, tickPrompts_keeps State.nests (fun _ _ _ => rfl),
    tickTracks_keeps State.nests (fun _ _ _ => rfl), tickNests_get]

theorem tick_tracks (s : State) (k : TrackId) : (tick s).tracks[k] = s.tracks[k].tick := by
  rw [tick_eq, modLink_tracks, tickPrompts_keeps State.tracks (fun _ _ _ => rfl), tickTracks_get,
    tickNests_keeps State.tracks (fun _ _ _ => rfl)]

theorem tick_prompts (s : State) (n : NestId) : (tick s).prompts[n] = s.prompts[n].tick := by
  rw [tick_eq, modLink_prompts, tickPrompts_get, tickTracks_keeps State.prompts (fun _ _ _ => rfl),
    tickNests_keeps State.prompts (fun _ _ _ => rfl)]

theorem tick_link (s : State) : (tick s).link = { s.link with flight := s.link.flight.map Transaction.tick } := by
  rw [tick_eq, modLink_link, tickPrompts_keeps State.link (fun _ _ _ => rfl),
    tickTracks_keeps State.link (fun _ _ _ => rfl), tickNests_keeps State.link (fun _ _ _ => rfl)]

theorem tick_untimed (s : State) : (tick s).untimed = s.untimed := by
  rw [tick_eq, modLink_untimed, tickPrompts_keeps State.untimed (fun _ _ _ => rfl),
    tickTracks_keeps State.untimed (fun _ _ _ => rfl), tickNests_keeps State.untimed (fun _ _ _ => rfl)]

/-- Beside the path a grant of a fetch changes nothing, so a microsecond changes counts of time alone. -/
theorem microsecond_untimed (s : State) : (microsecond s).untimed = s.untimed := by
  have hg : (grantFetch s).untimed = s.untimed := by rw [grantFetch_eq]; rfl
  exact (tick_untimed _).trans hg

theorem microsecond_path (s : State) : (microsecond s).path = (grantFetch s).path :=
  congrArg (fun b => b.2.2) (microsecond_bus s)

theorem grantFetch_period (s : State) (n : NestId) : snapshotPeriod (grantFetch s) n = snapshotPeriod s n := by
  unfold snapshotPeriod nestWord cfg; rw [grantFetch_shadow]

theorem microsecond_nests (s : State) (n : NestId) :
    (microsecond s).nests[n] = s.nests[n].tick (snapshotPeriod s n) := by
  unfold microsecond; rw [tick_nests, grantFetch_period, grantFetch_eq]

theorem microsecond_tracks (s : State) (k : TrackId) : (microsecond s).tracks[k] = s.tracks[k].tick := by
  unfold microsecond; rw [tick_tracks, grantFetch_eq]

theorem microsecond_prompts (s : State) (n : NestId) : (microsecond s).prompts[n] = s.prompts[n].tick := by
  unfold microsecond; rw [tick_prompts, grantFetch_eq]

theorem microsecond_link (s : State) :
    (microsecond s).link = { s.link with flight := s.link.flight.map Transaction.tick } := by
  unfold microsecond; rw [tick_link, grantFetch_eq]

theorem step_of_empty {s : State} (h : s.pending = []) : step s = .next (microsecond s) := by
  unfold step; rw [h]

/-- Settles O2: each count of time is ticked once, and of the rest only the path may take a fetch. -/
theorem emptyQueueLetsOneMicrosecondPass : Obligations.EmptyQueueLetsOneMicrosecondPass := by
  intro s hs
  have hrest := microsecond_untimed s
  simp only [State.untimed, Prod.mk.injEq] at hrest
  obtain ⟨hpending, hmem, hpost, hrails, hsupplies, houtputs, hclaims, hholders, hports, hcapture, hinputs, hchecks,
    hunposted, hnodes⟩ := hrest
  refine ⟨microsecond s, step_of_empty hs, microsecond_nests s, microsecond_tracks s, microsecond_prompts s,
    microsecond_link s, ?_, hpending.trans hs, hmem, hpost, hrails, hsupplies, houtputs, hclaims, hholders, hports,
    hcapture, hinputs, hchecks, hunposted, hnodes⟩
  rw [microsecond_path]
  unfold grantFetch
  cases grant s with
  | none => rfl
  | some c => cases c <;> rfl

end Sys2Proof.Machine
end

section
/-! SUPPORT. A granted action as its owner answers it, and what arming and disarming make of a nest (R4, R5). -/
namespace Sys2Proof.Machine

open Stated

/-! ### A granted action (R164, R165) -/

section
variable {c : Instr} {x : Action} {act : Nat → Nat → State → Except Reason State} {k : SlotId} {a : HostAccess}
  {obj : Nat} {s : State}

/-- An action that its owner accepts: its effect, then the result. -/
theorem answers_of_ok {u : State} {P : State → Prop} (hc : exec c s = .next (performAction x act s))
    (hg : Commands s x k a obj) (hu : act obj (wordOperand a.data) (writeAction a (clearHost s)) = .ok u)
    (hpath : u.path.takes = s.path.takes) (hP : P (offerResult k a.data none u)) : Answers c k a s none P := by
  obtain ⟨hgrant, rfl⟩ := hg
  refine ⟨_, hc.trans (congrArg _ (performAction_ok hgrant hu)), ?_, hP⟩
  rw [← hpath]
  exact offerResult_place k a.data none u

/-- An action that its owner refuses: the result alone. -/
theorem answers_of_error {r : Reason} {P : State → Prop} (hc : exec c s = .next (performAction x act s))
    (hg : Commands s x k a obj) (hr : act obj (wordOperand a.data) (writeAction a (clearHost s)) = .error r) :
    Answers c k a s (some r) P := by
  obtain ⟨hgrant, rfl⟩ := hg
  refine ⟨_, hc.trans (congrArg _ (performAction_error hgrant hr)), offerResult_place k a.data (some r) _, ?_, ?_⟩
  · exact ⟨rfl, rfl, rfl, rfl, rfl, rfl, rfl, rfl, rfl, rfl, rfl, rfl, rfl, rfl, rfl⟩
  · exact ⟨rfl, rfl⟩
end

/-- R165: the result of an action leaves the places of nests. -/
theorem mem_offerResult_nest {k : SlotId} {w : Word} {r : Option Reason} {n : NestId} {v : List Word} {s : State}
    (h : (Place.nest n, v) ∈ s.post.places) : (Place.nest n, v) ∈ (offerResult k w r s).post.places :=
  (mem_upsertPlace_of_ne (by simp) _ _ _).2 h

/-- The owner of an action on a nest that exists takes it. -/
theorem onNest_val (act : NestId → State → Except Reason State) (n : NestId) (s : State) :
    onNest act n.val s = act n s := by
  unfold onNest; exact dif_pos n.isLt

/-! ### Entry into WAITING (R4, R14) -/

theorem someRail_iff (s : State) (n : NestId) (x : RailState) :
    someRail s n x = true ↔ ∃ j : Fin 3, s.rails[railOf n j].state = x := by
  simp [someRail, allKinds, Fin.exists_fin_succ]

theorem nestRecordInRange_eq_false_iff (s : State) (n : NestId) :
    nestRecordInRange s n = false
      ↔ snapshotPeriod s n ≠ 0 ∧ (snapshotPeriod s n < 10 ∨ 1000 < snapshotPeriod s n) := by
  simp [nestRecordInRange]
  omega

/-- R4: the tests of NEST_ARM in words. -/
theorem nestArmRefusal_eq (s : State) (n : NestId) :
    nestArmRefusal s n =
      if s.nests[n].state ≠ .idle then some .wrongState
      else if ∃ j : Fin 3, s.rails[railOf n j].state = .discharging then some .busy
      else if ∃ j : Fin 3, s.rails[railOf n j].state = .latched then some .dependency
      else if snapshotPeriod s n ≠ 0 ∧ (snapshotPeriod s n < 10 ∨ 1000 < snapshotPeriod s n) then some .badRange
      else none := by
  unfold nestArmRefusal
  simp only [someRail_iff, Bool.not_eq_true', nestRecordInRange_eq_false_iff]

/-- R4, R14, R15: the record of a nest that enters WAITING, with the interlock evaluated. -/
def waitingNest (s : State) (n : NestId) : Nest :=
  { s.nests[n] with
    state := .waiting
    attachRun := 0
    closureTime := if s.nests[n].seat then 0 else s.nests[n].closureTime
    closureReported := if s.nests[n].seat then false else s.nests[n].closureReported
    snapTimer := startedTimer s n
    interlock := interlockOf s n }

theorem modNest_modNest (s : State) (n : NestId) (f g : Nest → Nest) :
    (s.modNest n f).modNest n g = s.modNest n fun x => g (f x) := by
  simp [State.modNest]

theorem modNest_congr {s : State} {n : NestId} {f g : Nest → Nest} (h : f s.nests[n] = g s.nests[n]) :
    s.modNest n f = s.modNest n g := by
  simp only [State.modNest, h]

/-- R4, R14, R18: an entry into WAITING changes the nest, BATT of the nest and the nest status place. -/
theorem enterWaiting_eq (n : NestId) (s : State) :
    ∃ places, (Place.nest n, nestStatus (waitingNest s n)) ∈ places
      ∧ enterWaiting n s = { s with
          nests := s.nests.set n (waitingNest s n)
          rails := (probeOn n s).rails
          post := { s.post with places := places } } := by
  have hoffer (places : List (Place × List Word)) : (Place.nest n, nestStatus (waitingNest s n))
      ∈ upsertPlace (.nest n) (nestStatus ((probeOn n s).modNest n fun _ => waitingNest s n).nests[n]) places := by
    rw [modNest_get, if_pos rfl]; exact mem_upsertPlace ..
  unfold enterWaiting
  dsimp only
  rw [evaluateInterlock_shut (by simp)]
  split
  · rename_i h
    rw [modNest_congr (g := fun _ => waitingNest s n) ?_]
    · exact ⟨_, hoffer _, rfl⟩
    · rw [modNest_get, if_pos rfl] at h
      unfold waitingNest
      exact congrArg (fun i => Nest.mk _ _ _ _ _ _ _ _ _ i _ _) h
  · rw [modNest_modNest, modNest_congr (g := fun _ => waitingNest s n) rfl]
    exact ⟨_, hoffer _, rfl⟩

/-! ### Arming and disarming -/

theorem actNestArm_refused {n : NestId} {s : State} {r : Reason} (h : nestArmRefusal s n = some r) (opd : Nat) :
    actNestArm n.val opd s = .error r := by
  unfold actNestArm; rw [onNest_val, h]

theorem actNestArm_accepted {n : NestId} {s : State} (h : nestArmRefusal s n = none) (opd : Nat) :
    actNestArm n.val opd s = .ok (enterWaiting n s) := by
  unfold actNestArm; rw [onNest_val, h]

/-- R5: the record of a nest that is disarmed. -/
def disarmedNest (x : Nest) : Nest := { x with state := .idle, attachRun := 0, closureTime := 0, snapTimer := none }

/-- R5: a nest that is disarmed leaves WAITING with its probe off. -/
def disarm (n : NestId) (s : State) : State := offerNest n ((probeOff n s).modNest n disarmedNest)

theorem actNestDisarm_refused {n : NestId} {s : State} (h : s.nests[n].state ≠ .waiting) (opd : Nat) :
    actNestDisarm n.val opd s = .error .wrongState := by
  unfold actNestDisarm; rw [onNest_val]; exact if_pos h

theorem actNestDisarm_accepted {n : NestId} {s : State} (h : ¬ s.nests[n].state ≠ .waiting) (opd : Nat) :
    actNestDisarm n.val opd s = .ok (disarm n s) := by
  unfold actNestDisarm; rw [onNest_val]; exact if_neg h

theorem probeOn_rail (n : NestId) (s : State) (r : RailId) :
    (probeOn n s).rails[r] = if r = railOf n 0 ∧ s.rails[r].state = .off then { s.rails[r] with state := .probe }
      else s.rails[r] := by
  unfold probeOn
  rw [modRail_get]
  by_cases h : r = railOf n 0
  · subst h; simp
  · simp [h]

theorem probeOff_rail (n : NestId) (s : State) (r : RailId) :
    (probeOff n s).rails[r] = if r = railOf n 0 ∧ s.rails[r].state = .probe then { s.rails[r] with state := .off }
      else s.rails[r] := by
  unfold probeOff
  rw [modRail_get]
  by_cases h : r = railOf n 0
  · subst h; simp
  · simp [h]

/-- R18: an offered nest status is that of the nest. -/
theorem offerNest_place (n : NestId) (s : State) :
    (Place.nest n, nestStatus (offerNest n s).nests[n]) ∈ (offerNest n s).post.places := mem_upsertPlace ..

/-- R164: the action word that reaches memory is no part of what the tests of NEST_ARM look at. -/
theorem nestArmRefusal_asked (a : HostAccess) (s : State) (n : NestId) :
    nestArmRefusal (writeAction a (clearHost s)) n = nestArmRefusal s n := rfl

/-- Settles O19: the tests of NEST_ARM and NEST_DISARM are those of the model in words, and an accepted action is an entry
into WAITING or IDLE. -/
theorem armingAndDisarmingMoveANest : Obligations.ArmingAndDisarmingMoveANest := by
  intro s k a n
  refine ⟨fun hg => ?_, fun hg => ?_⟩
  · rw [← nestArmRefusal_eq, ← nestArmRefusal_asked a]
    cases hr : nestArmRefusal (writeAction a (clearHost s)) n with
    | some r => exact answers_of_error rfl hg (actNestArm_refused hr _)
    | none =>
      obtain ⟨places, hplace, heq⟩ := enterWaiting_eq n (writeAction a (clearHost s))
      refine answers_of_ok rfl hg (actNestArm_accepted hr _) (by rw [heq]; rfl) ?_
      rw [heq]
      refine ⟨rfl, probeOn_rail n s, mem_offerResult_nest ?_, rfl, ?_, ?_, ?_⟩
      · simpa using hplace
      · exact ⟨rfl, rfl, rfl, rfl, rfl, rfl, rfl⟩
      · exact ⟨rfl, rfl, rfl, rfl, rfl⟩
      · exact ⟨rfl, rfl⟩
  · split
    · rename_i h; exact answers_of_error rfl hg (actNestDisarm_refused (s := writeAction a (clearHost s)) h _)
    · rename_i h
      refine answers_of_ok rfl hg (actNestDisarm_accepted (s := writeAction a (clearHost s)) h _) rfl
        ⟨rfl, probeOff_rail n s, mem_offerResult_nest (offerNest_place n _), rfl, ?_, ?_, ?_⟩
      · exact ⟨rfl, rfl, rfl, rfl, rfl, rfl, rfl⟩
      · exact ⟨rfl, rfl, rfl, rfl, rfl⟩
      · exact ⟨rfl, rfl⟩

end Sys2Proof.Machine
end

section
/-! SUPPORT. Nests and response inputs through a nest sample: which operations leave them, how a session that runs goes on
or ends (R13, R95), and what a gate end makes of an input (R90 to R94). -/
namespace Sys2Proof.Machine

open Stated

/-! ### Operations that leave nests and inputs -/

/-- The nests and their response inputs: what opens, runs and closes with a session. -/
def State.sessionPart (s : State) := (s.nests, s.inputs)

theorem sessionPart_of_plant {s t : State} (h : s.plant = t.plant) : s.sessionPart = t.sessionPart :=
  congrArg (fun p => (p.2.1, p.2.2.2)) h

theorem nests_of_sessionPart {s t : State} (h : s.sessionPart = t.sessionPart) : s.nests = t.nests :=
  congrArg Prod.fst h

theorem inputs_of_sessionPart {s t : State} (h : s.sessionPart = t.sessionPart) : s.inputs = t.inputs :=
  congrArg Prod.snd h

theorem forEach_sessionPart {α : Type} {f : α → State → State} (h : ∀ a s, (f a s).sessionPart = s.sessionPart)
    (l : List α) (s : State) : (s.forEach l f).sessionPart = s.sessionPart := forEach_keeps State.sessionPart f h l s

@[simp] theorem modSupply_sessionPart (n : NestId) (f : Supply → Supply) (s : State) :
    (s.modSupply n f).sessionPart = s.sessionPart := rfl
@[simp] theorem modRail_sessionPart (r : RailId) (f : Rail → Rail) (s : State) :
    (s.modRail r f).sessionPart = s.sessionPart := rfl
@[simp] theorem modPort_sessionPart (p : NestId) (f : Port → Port) (s : State) :
    (s.modPort p f).sessionPart = s.sessionPart := rfl
@[simp] theorem modHolders_sessionPart (n : NestId) (f : Vector Bool 8 → Vector Bool 8) (s : State) :
    (s.modHolders n f).sessionPart = s.sessionPart := rfl
@[simp] theorem setClaims_sessionPart (c : Vector (Option TrackId) 32) (s : State) :
    (s.setClaims c).sessionPart = s.sessionPart := rfl
@[simp] theorem offerNest_sessionPart (n : NestId) (s : State) : (offerNest n s).sessionPart = s.sessionPart := rfl
@[simp] theorem offerTrack_sessionPart (t : TrackId) (s : State) : (offerTrack t s).sessionPart = s.sessionPart := rfl
@[simp] theorem postEvent_sessionPart (e : Event) (s : State) : (postEvent e s).sessionPart = s.sessionPart :=
  sessionPart_of_plant (postEvent_plant e s)

/-! Tracks and ports -/

@[simp] theorem changeTrack_sessionPart (t : TrackId) (f : Track → Track) (s : State) :
    (changeTrack t f s).sessionPart = s.sessionPart := rfl
@[simp] theorem idleOutput_sessionPart (n : NestId) (o : Fin 16) (s : State) :
    (idleOutput n o s).sessionPart = s.sessionPart := rfl
@[simp] theorem idleNest_sessionPart (n : NestId) (s : State) : (idleNest n s).sessionPart = s.sessionPart := rfl

@[simp] theorem idleClaimed_sessionPart (t : TrackId) (s : State) :
    (idleClaimed t s).sessionPart = s.sessionPart :=
  forEach_sessionPart (fun n s => forEach_sessionPart (fun o s => by split <;> simp) _ _) _ _

@[simp] theorem releaseClaims_sessionPart (t : TrackId) (s : State) :
    (releaseClaims t s).sessionPart = s.sessionPart := forEach_sessionPart (fun n s => by simp) _ _

@[simp] theorem unstall_sessionPart (t : TrackId) (s : State) : (unstall t s).sessionPart = s.sessionPart :=
  forEach_sessionPart (fun n s => by simp) _ _

@[simp] theorem haltTrack_sessionPart (c : TrackCause) (t : TrackId) (s : State) :
    (haltTrack c t s).sessionPart = s.sessionPart := by
  unfold haltTrack; simp

@[simp] theorem haltForRail_sessionPart (r : RailId) (s : State) : (haltForRail r s).sessionPart = s.sessionPart :=
  forEach_sessionPart (fun t s => by split <;> simp) _ _

@[simp] theorem drainTracks_sessionPart (n : NestId) (s : State) : (drainTracks n s).sessionPart = s.sessionPart := by
  unfold drainTracks
  rw [idleNest_sessionPart]
  exact forEach_sessionPart (fun t s => by split <;> simp) _ _

@[simp] theorem reportDrop_sessionPart (f : Frame) (s : State) : (reportDrop f s).sessionPart = s.sessionPart := by
  unfold reportDrop countDrop; split <;> simp

@[simp] theorem dropQueue_sessionPart (p : NestId) (s : State) : (dropQueue p s).sessionPart = s.sessionPart := by
  unfold dropQueue; rw [forEach_sessionPart (fun f s => by simp), modPort_sessionPart]

@[simp] theorem drainPort_sessionPart (p : NestId) (s : State) : (drainPort p s).sessionPart = s.sessionPart := by
  unfold drainPort; split <;> simp

/-! Rails -/

@[simp] theorem railLost_sessionPart (r : RailId) (s : State) : (railLost r s).sessionPart = s.sessionPart := by
  unfold railLost; rw [sessionPart_of_plant (checksRailLost_plant ..), haltForRail_sessionPart]

@[simp] theorem forceDependants_sessionPart (n : NestId) (p : RailState → Bool) (s : State) :
    (forceDependants n p s).sessionPart = s.sessionPart :=
  forEach_sessionPart (fun k s => by
    dsimp only
    split
    · split <;> simp
    · rfl) _ _

@[simp] theorem faultDependants_sessionPart (r : RailId) (x : RailState) (s : State) :
    (faultDependants r x s).sessionPart = s.sessionPart := by
  unfold faultDependants
  split
  · rfl
  · split <;> simp

@[simp] theorem railFault_sessionPart (c : RailCause) (b : Bool) (r : RailId) (s : State) :
    (railFault c b r s).sessionPart = s.sessionPart := by
  unfold railFault
  dsimp only
  repeat' split
  all_goals simp

@[simp] theorem forceOff_sessionPart (n : NestId) (c : RailCause) (b : Bool) (s : State) :
    (forceOff n c b s).sessionPart = s.sessionPart :=
  forEach_sessionPart (fun k s => by dsimp only; split <;> simp) _ _

@[simp] theorem railTrigger_sessionPart (r : RailId) (b : Bool) (s : State) :
    (railTrigger r b s).sessionPart = s.sessionPart := sessionPart_of_plant (railTrigger_plant r b s)

@[simp] theorem measureNest_sessionPart (n : NestId) (m : NestReading) (s : State) :
    (measureNest n m s).sessionPart = s.sessionPart := by
  unfold measureNest
  dsimp only
  rw [modSupply_sessionPart, forEach_sessionPart (fun k s => by simp), modSupply_sessionPart]

@[simp] theorem chargeRail_sessionPart (r : RailId) (s : State) : (chargeRail r s).sessionPart = s.sessionPart := by
  unfold chargeRail
  dsimp only
  split
  · split <;> simp
  · rfl

@[simp] theorem chargeNest_sessionPart (n : NestId) (s : State) : (chargeNest n s).sessionPart = s.sessionPart :=
  forEach_sessionPart (fun k s => by simp) _ _

@[simp] theorem superviseSupply_sessionPart (n : NestId) (a b : Bool) (s : State) :
    (superviseSupply n a b s).sessionPart = s.sessionPart := by
  unfold superviseSupply
  dsimp only
  split
  · rw [forEach_sessionPart (fun k s => by split <;> simp)]; simp
  · split <;> simp

@[simp] theorem applyRailAct_sessionPart (r : RailId) (a : RailAct) (s : State) :
    (applyRailAct r a s).sessionPart = s.sessionPart := by
  cases a with
  | waitExpiry => unfold applyRailAct endFaultWait; dsimp only; split <;> simp
  | retryExpiry => unfold applyRailAct endRetryTest; dsimp only; split <;> simp
  | dischargeExpiry => unfold applyRailAct endDischarge; dsimp only; split <;> simp
  | idle | backfeed | engage | dwell | overcurrent | release | advance => simp [applyRailAct]

/-! ### The readings of a nest's inputs (R88) -/

theorem inputOf_inj {n : NestId} {j k : Fin 8} : inputOf n j = inputOf n k ↔ j = k := by
  unfold inputOf; simp only [Fin.ext_iff]; omega

theorem inputOf_nestOfInput (i : InputId) : inputOf (nestOfInput i) ⟨i.val % 8, Nat.mod_lt _ (by decide)⟩ = i := by
  unfold inputOf nestOfInput; simp only [Fin.ext_iff]; omega

/-- What holds of an input counted in its nest holds of the input with its own number. -/
theorem of_inputOf {P : InputId → Prop} (i : InputId)
    (h : P (inputOf (nestOfInput i) ⟨i.val % 8, Nat.mod_lt _ (by decide)⟩)) : P i := by
  rwa [inputOf_nestOfInput] at h

/-- A change made to each input of a nest is made to the input with its own number. -/
theorem input_of_nest {s t : State} {f : Input → Input} (i : InputId)
    (h : ∀ j : Fin 8, t.inputs[inputOf (nestOfInput i) j] = f s.inputs[inputOf (nestOfInput i) j]) :
    t.inputs[i] = f s.inputs[i] :=
  of_inputOf (P := fun k => t.inputs[k] = f s.inputs[k]) i (h _)

theorem gateTime_congr {s t : State} (h : t.path = s.path) (i : InputId) : gateTime t i = gateTime s i := by
  unfold gateTime gateCode inputWord cfg; rw [h]

theorem readInputs_nests (n : NestId) (lines : Vector Int 8) (s : State) : (readInputs n lines s).nests = s.nests :=
  forEach_keeps State.nests
    (fun j s => s.modInput (inputOf n j) fun x => x.atSample (gateTime s (inputOf n j)) lines[j] s.nests[n].clock)
    (fun _ _ => rfl) _ s

/-- R88: each input of the nest takes its reading with the nest clock and its own gate time. -/
theorem readInputs_get (n : NestId) (lines : Vector Int 8) (s : State) (j : Fin 8) :
    (readInputs n lines s).inputs[inputOf n j]
      = s.inputs[inputOf n j].atSample (gateTime s (inputOf n j)) lines[j] s.nests[n].clock := by
  have h := forEach_table_under (t := fun s (j : Fin 8) => s.inputs[inputOf n j])
    (u := fun j s => s.modInput (inputOf n j) fun x =>
      x.atSample (gateTime s (inputOf n j)) lines[j] s.nests[n].clock)
    (p := fun s => (s.path, s.nests[n].clock, fun j => gateTime s (inputOf n j)))
    (f := fun p j x => x.atSample (p.2.2 j) lines[j] p.2.1) (fun _ _ => rfl)
    (fun i s j => by simp only [modInput_get, inputOf_inj])
    (List.finRange 8) (List.nodup_finRange 8) s j
  exact h.trans (if_pos (List.mem_finRange j))

/-! ### A session that runs goes on or ends (R11 to R14, R95) -/

theorem sessionRuns_iff (s : State) (n : NestId) :
    sessionRuns s n = true ↔ s.nests[n].state = .opened ∨ s.nests[n].state = .draining := by
  unfold sessionRuns; simp

/-- The session of nest n, which ran in r, runs in t with its inputs as they were; or it has ended, its inputs are stopped
and no reading has qualified since. -/
def SessionSince (n : NestId) (r t : State) : Prop :=
  (sessionRuns t n = true ∧ ∀ j : Fin 8, t.inputs[inputOf n j] = r.inputs[inputOf n j])
  ∨ (sessionRuns t n = false ∧ (t.nests[n].state = .waiting → t.nests[n].attachRun = 0)
      ∧ ∀ j : Fin 8, t.inputs[inputOf n j] = r.inputs[inputOf n j].stop)

/-- Operations that leave nests and inputs leave the session. -/
theorem SessionSince.congr {n : NestId} {r s t : State} (h : SessionSince n r s)
    (ht : t.sessionPart = s.sessionPart) : SessionSince n r t := by
  unfold SessionSince sessionRuns at *
  rw [nests_of_sessionPart ht, inputs_of_sessionPart ht]
  exact h

theorem enterWaiting_attachRun (n : NestId) (s : State) : (enterWaiting n s).nests[n].attachRun = 0 := by
  obtain ⟨places, _, h⟩ := enterWaiting_eq n s
  rw [h]
  simp [waitingNest]

/-- R14: a nest that leaves HELD for WAITING has no attach run. -/
theorem leaveHeld_attachRun (n : NestId) (s : State) (h : (leaveHeld n s).nests[n].state = .waiting) :
    (leaveHeld n s).nests[n].attachRun = 0 := by
  unfold leaveHeld at *
  split
  · exact enterWaiting_attachRun n s
  · rename_i hc
    rw [if_neg hc] at h
    simp [offerNest, offer] at h

theorem leaveHeld_ends (n : NestId) (s : State) : sessionRuns (leaveHeld n s) n = false := by
  have hs : (leaveHeld n s).nests[n].state = restState s n := (leaveHeld_nest n s).1
  unfold sessionRuns
  rw [hs]
  unfold restState
  split <;> rfl

theorem drainEnd_attachRun (n : NestId) (s : State) (h : (drainEnd n s).nests[n].state = .waiting) :
    (drainEnd n s).nests[n].attachRun = 0 := by
  unfold drainEnd at *
  dsimp only at *
  split
  · rename_i hc
    rw [if_pos hc] at h
    simp [offerNest, offer] at h
  · rename_i hc
    rw [if_neg hc] at h
    exact leaveHeld_attachRun n _ h

/-- R13, R95: the end of a drain ends the session. -/
theorem sessionSince_drainEnd {n : NestId} {r s : State} (hc : drainComplete s n = true)
    (h : ∀ j : Fin 8, s.inputs[inputOf n j] = r.inputs[inputOf n j]) : SessionSince n r (drainEnd n s) := by
  obtain ⟨_, _, hstate, _, _, _, _, _, _, hinputs⟩ := drainEnd_ended hc
  refine .inr ⟨?_, drainEnd_attachRun n s, fun j => ?_⟩
  · unfold sessionRuns
    rw [hstate]
    split
    · rfl
    · unfold restState; split <;> rfl
  · rw [hinputs, h]; rfl

/-- R13: the completion test may end the session. -/
theorem SessionSince.testDrain {n : NestId} {r s : State} (h : SessionSince n r s) :
    SessionSince n r (testDrain n s) := by
  cases hc : drainComplete s n with
  | false => rwa [testDrain_of_incomplete hc]
  | true =>
    rw [testDrain_of_complete hc]
    have hd := ((drainComplete_iff s n).1 hc).1
    rcases h with ⟨_, hin⟩ | ⟨hno, _⟩
    · exact sessionSince_drainEnd hc hin
    · rw [(sessionRuns_iff s n).2 (.inr hd)] at hno; cases hno

theorem SessionSince.railTurn {n : NestId} {m : NestReading} {s0 r s : State} (h : SessionSince n r s) (k : Fin 3) :
    SessionSince n r (railTurn n m s0 k s) := by
  unfold Machine.railTurn
  dsimp only
  split
  · exact (h.congr (applyRailAct_sessionPart ..)).testDrain
  · exact h

/-- The state in which the inputs have taken their readings (R21 steps 1 and 2, R88). -/
def afterReadings (n : NestId) (m : NestReading) (s : State) : State := readInputs n m.lines (measureNest n m s)

/-- R21 steps 1 to 4: after its readings the session of a sample runs on, or a rail has let its drain end. -/
theorem sessionSince_afterRails {n : NestId} {m : NestReading} {s : State} (h : sessionRuns s n = true) :
    SessionSince n (afterReadings n m s) (afterRails n m s) := by
  have hnests : (afterReadings n m s).nests = s.nests :=
    (readInputs_nests ..).trans (nests_of_sessionPart (measureNest_sessionPart n m s))
  have hread : SessionSince n (afterReadings n m s) (afterReadings n m s) := by
    refine .inl ⟨?_, fun _ => rfl⟩
    unfold sessionRuns at *
    rw [hnests]; exact h
  have hbefore : SessionSince n (afterReadings n m s) (beforeRails n m s) :=
    hread.congr ((superviseSupply_sessionPart ..).trans (chargeNest_sessionPart ..))
  exact forEach_induct (SessionSince n (afterReadings n m s)) _ (fun k _ hk => hk.railTurn k) _ _ hbefore

/-- R12: the hand-off to the blocks of an OPEN nest leaves its inputs, and the nest is DRAINING. -/
theorem enterDrain_session {n : NestId} {s : State} (h : s.nests[n].state = .opened) (c : DrainCause) :
    sessionRuns (enterDrain n c s) n = true
      ∧ ∀ j : Fin 8, (enterDrain n c s).inputs[inputOf n j] = s.inputs[inputOf n j] := by
  unfold enterDrain
  dsimp only
  generalize hv : abortChecks n (drainPort n (drainTracks n (s.modNest n fun x => { x with cause := c, trip := false })))
    = v
  have hsame : v.sessionPart = (s.modNest n fun x => { x with cause := c, trip := false }).sessionPart := by
    rw [← hv, sessionPart_of_plant (abortChecks_plant ..), drainPort_sessionPart, drainTracks_sessionPart]
  have hopen : v.nests[n].state ≠ .draining := by
    rw [nests_of_sessionPart hsame, modNest_get, if_pos rfl, h]; decide
  obtain ⟨_, _, hkept⟩ := ((drainPrompt_kept n v).2 n).resolve_right fun g => hopen g.1
  refine ⟨?_, fun j => ?_⟩
  · rw [sessionRuns_iff]; right; simp [offerNest, offer]
  · have hforce := inputs_of_sessionPart (forceOff_sessionPart n .drain true (drainPrompt n v))
    have hv := inputs_of_sessionPart hsame
    simp only [offerNest, offer, modPost_inputs, modNest_inputs, hforce] at hv ⊢
    rw [hkept, hv]

/-- R11, R12: a drain entry leaves the session running, or its completion test ends it. -/
theorem sessionSince_drainEntry {n : NestId} {r s : State} (h : s.nests[n].state = .opened)
    (hin : ∀ j : Fin 8, s.inputs[inputOf n j] = r.inputs[inputOf n j]) (c : DrainCause) :
    SessionSince n r (drainEntry n c s) := by
  obtain ⟨hruns, hkept⟩ := enterDrain_session h c
  exact SessionSince.testDrain (.inl ⟨hruns, fun j => (hkept j).trans (hin j)⟩)

/-- R2, R11, R14: the opening of the seat drains an OPEN nest, and lets a HELD one go. -/
theorem SessionSince.seatOpened {n : NestId} {r s : State} (h : SessionSince n r s) :
    SessionSince n r (seatOpened n s) := by
  unfold Machine.seatOpened
  split
  · rename_i hs
    rcases h with ⟨_, hin⟩ | ⟨hno, _⟩
    · exact sessionSince_drainEntry hs hin .removed
    · rw [(sessionRuns_iff s n).2 (.inl hs)] at hno; cases hno
  · rename_i hs
    rcases h with ⟨hruns, _⟩ | ⟨_, _, hstop⟩
    · unfold sessionRuns at hruns; rw [hs] at hruns; cases hruns
    · exact .inr ⟨leaveHeld_ends n s, leaveHeld_attachRun n s, fun j => by rw [leaveHeld_inputs]; exact hstop j⟩
  · rename_i hs
    rcases h with ⟨hruns, _⟩ | ⟨_, _, hstop⟩
    · unfold sessionRuns at hruns; rw [hs] at hruns; cases hruns
    · refine .inr ⟨?_, fun _ => ?_, hstop⟩
      · unfold sessionRuns; rw [modNest_get, if_pos rfl, hs]; rfl
      · rw [modNest_get, if_pos rfl]
  · exact h
  · exact h

theorem debounce_state (x : Nest) (closed : Bool) : (x.debounce closed).state = x.state := by
  unfold Nest.debounce
  split
  · split <;> rfl
  · rfl

theorem debounce_attachRun (x : Nest) (closed : Bool) : (x.debounce closed).attachRun = x.attachRun := by
  unfold Nest.debounce
  split
  · split <;> rfl
  · rfl

theorem SessionSince.debounce {n : NestId} {r s : State} (h : SessionSince n r s) (closed : Bool) :
    SessionSince n r (s.modNest n fun x => x.debounce closed) := by
  unfold SessionSince sessionRuns at *
  rw [modNest_get, if_pos rfl, debounce_state, debounce_attachRun]
  exact h

/-- R2: one reading of the seat loop. -/
theorem SessionSince.seatStep {n : NestId} {r s : State} (h : SessionSince n r s) (closed : Bool) :
    SessionSince n r (seatStep n closed s) := by
  have hb := h.debounce closed
  unfold Machine.seatStep
  dsimp only
  split
  · exact (hb.congr (offerNest_sessionPart ..)).seatOpened
  · split
    · exact hb.congr (offerNest_sessionPart ..)
    · exact hb

/-! ### The hand-off of the seat reading (R6) -/

theorem attachStep_of_not_waiting {n : NestId} {m : NestReading} {b : Bool} {s : State}
    (h : s.nests[n].state ≠ .waiting) : attachStep n m b s = s := by
  unfold attachStep; exact if_pos h

/-- A reading that does not attach leaves the inputs. -/
theorem attachStep_inputs {n : NestId} {m : NestReading} {s : State} (h : attaches s n m = false) (b : Bool) :
    (attachStep n m b s).inputs = s.inputs := by
  unfold attachStep
  split
  · rfl
  · rw [h]
    dsimp only
    split
    · contradiction
    · split <;> simp

/-- R6: no nest attaches at the first reading of an attach run. -/
theorem attaches_of_attachRun {s : State} {n : NestId} (h : s.nests[n].state = .waiting → s.nests[n].attachRun = 0)
    (m : NestReading) : attaches s n m = false := by
  unfold attaches
  by_cases hw : s.nests[n].state = .waiting
  · rw [h hw, show decide (Config.attachConfirm ≤ 0 + 1) = false from rfl, Bool.and_false]
  · rw [beq_false_of_ne hw, Bool.false_and, Bool.false_and]

/-! ### The end of a gate (R90 to R94) -/

section
variable (x : Input) (clock : Clock)

/-- The gate record that ends at this clock value: that before an edge of the same stamp. -/
def Input.endingGate : Gate := ((x.edgeAt clock).map fun e => e.gate).getD x.gate

/-- The edge count at the end of the gate, without an edge of the same stamp. -/
def Input.endingEdges : Nat := ((x.edgeAt clock).map fun e => e.edges).getD x.edges

/-- The gate that begins at this clock value begins with a rising edge. -/
def Input.roseAt : Bool := (x.edgeAt clock).isSome && x.high

/-- The edge count as the next gate has begun. -/
def Input.nextEdges : Nat :=
  if x.roseAt clock then satAdd maxEdges (x.endingEdges clock) 1 else x.endingEdges clock

/-- R90, R92 to R94: the input whose gate ends at this clock value, with the edge of the same stamp in the next gate. -/
def Input.gateEnded : Input :=
  { x with
    value := gateValue { x with edges := x.nextEdges clock } (x.endingGate clock)
    firstDone := true
    gate := if x.roseAt clock then ⟨1, some clock, some clock, 0, 0⟩ else Gate.clear
    position := some 0
    edges := x.nextEdges clock
    lastEdge := (x.edgeAt clock).map fun _ => ⟨clock, Gate.clear, x.endingEdges clock⟩ }
end

/-- R88, R90: an edge of a gate that has just begun, as its first. -/
theorem newEdge_of_begun {x : Input} (hp : x.position = some 0) (hg : x.gate = Gate.clear) (clock : Clock) :
    x.newEdge clock =
      { x with
        high := !x.high
        lastEdge := some ⟨clock, Gate.clear, x.edges⟩
        edges := if x.high then x.edges else satAdd maxEdges x.edges 1
        gate := if x.high then Gate.clear else ⟨1, some clock, some clock, 0, 0⟩
        value := if ¬ x.high ∧ x.mode = .edges ∧ x.firstDone then some (satAdd maxEdges x.edges 1) else x.value } := by
  unfold Input.newEdge
  cases hh : x.high with
  | false => simp [hp, hg, Input.countRise, Gate.rise, Gate.clear, satAdd, maxEdges]
  | true => simp [hp, hg, Gate.fall, Gate.clear]

/-- R90, log 14: an edge stamped with the boundary is taken back, and taken again after the gate has ended. -/
theorem atBoundary_closeGate (x : Input) (clock : Clock) :
    x.atBoundary clock Input.closeGate = x.gateEnded clock := by
  unfold Input.atBoundary Input.gateEnded Input.nextEdges Input.roseAt Input.endingGate Input.endingEdges
  cases x.edgeAt clock with
  | none => simp [Input.closeGate, gateValue]
  | some e =>
    dsimp only
    rw [newEdge_of_begun rfl rfl]
    cases hm : x.mode <;> cases hh : x.high <;> simp [Input.closeGate, Input.undoEdge, gateValue, hm, hh]

/-- R88, R90, R91: an input whose gate ends in a nest sample. -/
theorem atSample_of_gateEnd {x : Input} {gate p : Nat} (hm : x.measuring = true) (hp : x.position = some p)
    (hg : gate ≤ p + 1) (line : Int) (clock : Clock) :
    x.atSample gate line clock = ((x.read (clipLine line)).gateEnded clock).level := by
  have hadvance : (x.read (clipLine line)).advanceGate gate clock = (x.read (clipLine line)).gateEnded clock := by
    unfold Input.advanceGate
    rw [show (x.read (clipLine line)).position = some p from hp, ← atBoundary_closeGate]
    exact if_pos hg
  unfold Input.atSample
  rw [if_pos hm, hadvance]

/-! The fields of the input after the boundary; the LEVEL value of R91 touches no field but the value. -/

theorem level_eq (x : Input) : x.level = { x with value := x.level.value } := by
  unfold Input.level; split <;> rfl

theorem level_value_of_ne {x : Input} (h : x.mode ≠ .level) : x.level.value = x.value := by
  unfold Input.level; rw [if_neg fun g => h g.1]

theorem level_value_of_full {x : Input} (hm : x.mode = .level) (hd : x.firstDone = true) (ht : x.taken = 16) :
    x.level.value = some (x.history.sum / 16) := by
  unfold Input.level; rw [if_pos ⟨hm, hd, ht⟩]

theorem level_value_of_filling {x : Input} (h : x.taken ≠ 16) : x.level.value = x.value := by
  unfold Input.level; rw [if_neg fun g => h g.2.2]

theorem frequencyValue_of_few {g : Gate} (h : g.rising < 2) : frequencyValue g = none := by
  unfold frequencyValue
  split
  · exact if_neg (by omega)
  · rfl

theorem frequencyValue_of_edges {g : Gate} {f l : Clock} (h : 2 ≤ g.rising) (hf : g.first = some f)
    (hl : g.last = some l) : frequencyValue g = some ((g.rising - 1) * 1000000000 / (l - f).toNat) := by
  unfold frequencyValue; rw [hf, hl]; exact if_pos h

theorem dutyValue_of_few {g : Gate} (h : g.rising < 2) : dutyValue g = none := by
  unfold dutyValue
  split
  · exact if_neg (by omega)
  · rfl

theorem dutyValue_of_edges {g : Gate} {f l : Clock} (h : 2 ≤ g.rising) (hf : g.first = some f)
    (hl : g.last = some l) : dutyValue g = some (g.highToLast * 1000 / (l - f).toNat) := by
  unfold dutyValue; rw [hf, hl]; exact if_pos h

section
variable {x : Input} {g : Gate}

theorem gateValue_frequency (h : x.mode = .frequency) : gateValue x g = frequencyValue g := by
  unfold gateValue; rw [h]

theorem gateValue_duty (h : x.mode = .duty) : gateValue x g = dutyValue g := by
  unfold gateValue; rw [h]

theorem gateValue_edges (h : x.mode = .edges) : gateValue x g = some x.edges := by
  unfold gateValue; rw [h]

theorem gateValue_level (h : x.mode = .level) : gateValue x g = x.value := by
  unfold gateValue; rw [h]
end

/-- R88: the reading taken is the youngest of the history. -/
theorem read_history (x : Input) (v : Nat) : ∃ old, (x.read v).history = old ++ [v] := by
  refine ⟨x.history.drop ((x.history ++ [v]).length - 16), ?_⟩
  change (x.history ++ [v]).drop _ = _
  exact List.drop_append_of_le_length (by simp)

section
variable (x : Input) (v : Nat) (clock : Clock)

/-- R92 to R94: the value of a gate end in a mode other than LEVEL. -/
theorem gateEnded_value (h : x.mode ≠ .level) :
    ((x.read v).gateEnded clock).level.value
      = gateValue { x with edges := x.nextEdges clock } (x.endingGate clock) :=
  level_value_of_ne h

/-- R92. -/
theorem gateEnded_value_of_frequency (h : x.mode = .frequency) :
    ((x.read v).gateEnded clock).level.value = frequencyValue (x.endingGate clock) :=
  (gateEnded_value x v clock (by rw [h]; decide)).trans (gateValue_frequency h)

/-- R93. -/
theorem gateEnded_value_of_duty (h : x.mode = .duty) :
    ((x.read v).gateEnded clock).level.value = dutyValue (x.endingGate clock) :=
  (gateEnded_value x v clock (by rw [h]; decide)).trans (gateValue_duty h)

/-- R94. -/
theorem gateEnded_value_of_edges (h : x.mode = .edges) :
    ((x.read v).gateEnded clock).level.value = some (x.nextEdges clock) :=
  (gateEnded_value x v clock (by rw [h]; decide)).trans (gateValue_edges h)

/-- R91: with the sixteenth reading the LEVEL value is the mean of the history. -/
theorem gateEnded_value_of_full (h : x.mode = .level) (ht : 15 ≤ x.taken) :
    ((x.read v).gateEnded clock).level.value = some ((x.read v).history.sum / 16) :=
  level_value_of_full h rfl (show satAdd 16 x.taken 1 = 16 by unfold satAdd; omega)

/-- R91: before the sixteenth reading the LEVEL value stays. -/
theorem gateEnded_value_of_filling (h : x.mode = .level) (ht : x.taken < 15) :
    ((x.read v).gateEnded clock).level.value = x.value :=
  (level_value_of_filling (show satAdd 16 x.taken 1 ≠ 16 by unfold satAdd; omega)).trans (gateValue_level h)
end

/-! ### The sample in which a gate ends -/

/-- R88: the inputs of the nest after the readings of a sample. -/
theorem afterReadings_get (n : NestId) (m : NestReading) (s : State) (j : Fin 8) :
    (afterReadings n m s).inputs[inputOf n j]
      = s.inputs[inputOf n j].atSample (gateTime s (inputOf n j)) m.lines[j] s.nests[n].clock := by
  have hsame := measureNest_sessionPart n m s
  have hpath : (measureNest n m s).path = s.path := congrArg (fun b => b.2.2) (measureNest_bus n m s)
  unfold afterReadings
  rw [readInputs_get, nests_of_sessionPart hsame, inputs_of_sessionPart hsame, gateTime_congr hpath]

/-- R90: an input whose gate ends measures and has a gate that is full with this sample. -/
theorem gateEnds_iff (s : State) (i : InputId) :
    gateEnds s i = true
      ↔ s.inputs[i].measuring = true ∧ ∃ p, s.inputs[i].position = some p ∧ gateTime s i ≤ p + 1 := by
  unfold gateEnds
  dsimp only
  cases s.inputs[i].position <;> simp

/-- R88, R90: the input whose gate ends, after the readings of the sample. -/
theorem afterReadings_of_gateEnd {s : State} {i : InputId} (h : gateEnds s i = true) (m : NestReading) :
    (afterReadings (nestOfInput i) m s).inputs[i]
      = ((s.inputs[i].read (clipLine (m.lines[i.val % 8]'(Nat.mod_lt _ (by decide))))).gateEnded
          s.nests[nestOfInput i].clock).level := by
  obtain ⟨hm, p, hp, hg⟩ := (gateEnds_iff s i).1 h
  have hread := of_inputOf
    (P := fun k => (afterReadings (nestOfInput i) m s).inputs[k]
      = s.inputs[k].atSample (gateTime s k) (m.lines[i.val % 8]'(Nat.mod_lt _ (by decide)))
          s.nests[nestOfInput i].clock)
    i (afterReadings_get ..)
  exact hread.trans (atSample_of_gateEnd hm hp hg _ _)

/-- GATE_END is the nest sample (log 4). -/
theorem exec_gateEnd {s : State} {i : InputId} (h : gateEnds s i = true) (m : NestReading) :
    exec (.gateEnd i m) s = .next (settle (handSeat (nestOfInput i) m (afterRails (nestOfInput i) m s))) := by
  change Host.Outcome.next (sampleIf (gateEnds s i) (nestOfInput i) m s) = _
  unfold sampleIf
  rw [if_pos h]
  rfl

/-- A session that a nest sample leaves running keeps the inputs as their readings left them. -/
theorem handSeat_input_of_runs {s : State} {i : InputId} {m : NestReading}
    (h : sessionRuns s (nestOfInput i) = true)
    (hseat : sessionRuns (seatStep (nestOfInput i) m.seatClosed (afterRails (nestOfInput i) m s)) (nestOfInput i) = true) :
    (handSeat (nestOfInput i) m (afterRails (nestOfInput i) m s)).inputs[i]
      = (afterReadings (nestOfInput i) m s).inputs[i] := by
  have hw : (seatStep (nestOfInput i) m.seatClosed (afterRails (nestOfInput i) m s)).nests[nestOfInput i].state
      ≠ .waiting := by
    rcases (sessionRuns_iff ..).1 hseat with g | g <;> rw [g] <;> decide
  unfold handSeat
  dsimp only
  rw [attachStep_of_not_waiting hw]
  rcases (sessionSince_afterRails h).seatStep m.seatClosed with ⟨_, hin⟩ | ⟨hno, _⟩
  · exact input_of_nest (f := id) i hin
  · rw [hseat] at hno; cases hno

/-- R95: a session that ends in a nest sample leaves the inputs stopped. -/
theorem handSeat_input_of_ends {s : State} {i : InputId} {m : NestReading}
    (h : sessionRuns s (nestOfInput i) = true)
    (hseat : sessionRuns (seatStep (nestOfInput i) m.seatClosed (afterRails (nestOfInput i) m s)) (nestOfInput i)
      = false) :
    (handSeat (nestOfInput i) m (afterRails (nestOfInput i) m s)).inputs[i]
      = (afterReadings (nestOfInput i) m s).inputs[i].stop := by
  rcases (sessionSince_afterRails h).seatStep m.seatClosed with ⟨hruns, _⟩ | ⟨_, hrun, hstop⟩
  · rw [hseat] at hruns; cases hruns
  · unfold handSeat
    dsimp only
    rw [attachStep_inputs (attaches_of_attachRun hrun m)]
    exact input_of_nest i hstop

/-- Settles O43: after the readings of the sample the input stands as its gate end leaves it, and the rest of the sample
keeps it so, or stops it with the session. -/
theorem gateEndGivesTheValueOfTheMode : Obligations.GateEndGivesTheValueOfTheMode := by
  intro s i m hends x n clock late rose g counted seated
  refine ⟨fun hs hseat => ⟨_, exec_gateEnd hends m, ?_⟩, fun hs ho hd => ⟨_, exec_gateEnd hends m, ?_⟩⟩
  · have hkept := (handSeat_input_of_runs ((sessionRuns_iff s n).2 hs) ((sessionRuns_iff ..).2 hseat)).trans
      (afterReadings_of_gateEnd hends m)
    have hrose : rose ↔ (x.read (clipLine (m.lines[i.val % 8]'(Nat.mod_lt _ (by decide))))).roseAt clock = true :=
      (Bool.and_eq_true_iff (x := late.isSome)).symm
    beta_reduce
    rw [hkept]
    refine ⟨?_, ?_, ?_, ?_, ?_, ?_, ?_, ?_, ?_, ?_, ?_, ?_, ?_, ?_, ?_⟩
    · rw [level_eq]; exact (if_congr hrose rfl rfl).symm
    · rw [level_eq]; rfl
    · rw [level_eq]; rfl
    · rw [level_eq]; exact (if_congr hrose rfl rfl).symm
    · rw [level_eq]; rfl
    · rw [level_eq]; rfl
    · rw [level_eq]; rfl
    · exact fun hm hfew => (gateEnded_value_of_frequency x _ clock hm).trans (frequencyValue_of_few hfew)
    · exact fun f l hm hedges hf hl =>
        (gateEnded_value_of_frequency x _ clock hm).trans (frequencyValue_of_edges hedges hf hl)
    · exact fun hm hfew => (gateEnded_value_of_duty x _ clock hm).trans (dutyValue_of_few hfew)
    · exact fun f l hm hedges hf hl =>
        (gateEnded_value_of_duty x _ clock hm).trans (dutyValue_of_edges hedges hf hl)
    · intro hm
      rw [gateEnded_value_of_edges x _ clock hm, level_eq]; rfl
    · intro hm hfull
      rw [gateEnded_value_of_full x _ clock hm hfull, level_eq]; rfl
    · exact gateEnded_value_of_filling x _ clock
    · rw [level_eq]; exact read_history x _
  · have hno : sessionRuns (seatStep n m.seatClosed (afterRails n m s)) n = false :=
      Bool.eq_false_iff.2 fun g => ((sessionRuns_iff ..).1 g).elim ho hd
    have hstop := handSeat_input_of_ends ((sessionRuns_iff s n).2 hs) hno
    beta_reduce
    rw [hstop]
    exact ⟨rfl, rfl, rfl, rfl⟩

end Sys2Proof.Machine
end

section
/-! SUPPORT. Posting in words (R172): an event enters the post FIFO or is counted as lost, and the FIFO only grows; and
what the halt of a track leaves. -/
namespace Sys2Proof.Machine

open Stated

/-! ### The post FIFO and the lost-event count -/

/-- R172: the post FIFO has grown at its tail alone, and the lost-event count is as it was or has advanced. -/
structure Post.Grows (p q : Post) : Prop where
  fifo : p.fifo <+: q.fifo
  lost : q.lost = p.lost ∨ min max32 (p.lost + 1) ≤ q.lost ∧ q.lost ≤ max32

theorem Post.Grows.of_eq {p q : Post} (hfifo : q.fifo = p.fifo) (hlost : q.lost = p.lost) : p.Grows q :=
  ⟨hfifo ▸ List.prefix_refl _, .inl hlost⟩

theorem Post.Grows.refl (p : Post) : p.Grows p := .of_eq rfl rfl

theorem Post.Grows.trans {p q r : Post} (h : p.Grows q) (g : q.Grows r) : p.Grows r := by
  refine ⟨h.fifo.trans g.fifo, ?_⟩
  have hl := h.lost
  have gl := g.lost
  omega

/-- R172: an offered event enters the FIFO or is counted as lost. -/
theorem posted_postEvent (e : Event) (s : State) : Posted e s (postEvent e s) := by
  unfold Posted
  split
  · rename_i h; rw [postEvent_room h]; exact ⟨rfl, rfl, rfl⟩
  · rename_i h; rw [postEvent_lost (Bool.eq_false_iff.2 h)]; exact ⟨rfl, rfl, rfl⟩

theorem postEvent_grows (e : Event) (s : State) : s.post.Grows (postEvent e s).post := by
  cases h : fifoFree s && decide (1 ≤ eventRoom s) with
  | true => rw [postEvent_room h]; exact ⟨List.prefix_append .., .inl rfl⟩
  | false =>
    rw [postEvent_lost h]
    refine ⟨List.prefix_refl _, .inr ?_⟩
    change min max32 (s.post.lost + 1) ≤ min max32 (s.post.lost + 1) ∧ min max32 (s.post.lost + 1) ≤ max32
    omega

/-- R174: an event is stamped with the session and the clock of its nest. -/
theorem words_congr {s t : State} (h : t.nests = s.nests) (e : Event) : e.words t = e.words s := by
  unfold Event.words; rw [h]

/-- An event offered in s, after others since x, stands in the FIFO of any later w, or events have been lost since x. -/
theorem reported_of_postEvent {e : Event} {x s w : State} (hnests : s.nests = x.nests) (hx : x.post.Grows s.post)
    (hw : (postEvent e s).post.Grows w.post) : Reported e x w := by
  have hl := hx.lost
  have hl' := hw.lost
  cases h : fifoFree s && decide (1 ≤ eventRoom s) with
  | true =>
    refine .inl ⟨s.post.eventReserve, hw.fifo.subset ?_⟩
    rw [postEvent_room h, ← words_congr hnests]
    exact List.mem_append_right _ List.mem_cons_self
  | false =>
    rw [postEvent_lost h] at hl'
    change w.post.lost = min max32 (s.post.lost + 1) ∨ min max32 (min max32 (s.post.lost + 1) + 1) ≤ _ ∧ _ at hl'
    change _ ∨ x.post.lost < w.post.lost ∨ w.post.lost = max32
    omega

/-! ### What the halt of a track leaves -/

/-- Every block but tracks, outputs, claims, ports and posting. -/
def State.besideTracks (s : State) :=
  (s.bus, s.nests, s.supplies, s.rails, s.capture, s.inputs, s.checks, s.unposted, s.nodes, s.link, s.prompts)

/-- What a release of claims leaves. -/
def State.besideClaims (s : State) := (s.besideTracks, s.tracks, s.post)

theorem forEach_besideClaims {α : Type} {f : α → State → State} (h : ∀ a s, (f a s).besideClaims = s.besideClaims)
    (l : List α) (s : State) : (s.forEach l f).besideClaims = s.besideClaims := forEach_keeps State.besideClaims f h l s

@[simp] theorem modPort_besideClaims (s : State) (p : NestId) (f : Port → Port) :
    (s.modPort p f).besideClaims = s.besideClaims := rfl
@[simp] theorem modHolders_besideClaims (s : State) (n : NestId) (f : Vector Bool 8 → Vector Bool 8) :
    (s.modHolders n f).besideClaims = s.besideClaims := rfl
@[simp] theorem setClaims_besideClaims (s : State) (c : Vector (Option TrackId) 32) :
    (s.setClaims c).besideClaims = s.besideClaims := rfl
@[simp] theorem idleOutput_besideClaims (n : NestId) (o : Fin 16) (s : State) :
    (idleOutput n o s).besideClaims = s.besideClaims := rfl

@[simp] theorem idleClaimed_besideClaims (t : TrackId) (s : State) :
    (idleClaimed t s).besideClaims = s.besideClaims :=
  forEach_besideClaims (fun n s => forEach_besideClaims (fun o s => by split <;> simp) _ _) _ _

@[simp] theorem releaseClaims_besideClaims (t : TrackId) (s : State) :
    (releaseClaims t s).besideClaims = s.besideClaims := forEach_besideClaims (fun n s => by simp) _ _

@[simp] theorem unstall_besideClaims (t : TrackId) (s : State) : (unstall t s).besideClaims = s.besideClaims :=
  forEach_besideClaims (fun n s => by simp) _ _

theorem besideTracks_of_claims {s t : State} (h : s.besideClaims = t.besideClaims) : s.besideTracks = t.besideTracks :=
  congrArg Prod.fst h

theorem tracks_of_claims {s t : State} (h : s.besideClaims = t.besideClaims) : s.tracks = t.tracks :=
  congrArg (fun p => p.2.1) h

theorem post_of_claims {s t : State} (h : s.besideClaims = t.besideClaims) : s.post = t.post :=
  congrArg (fun p => p.2.2) h

@[simp] theorem offerTrack_besideTracks (t : TrackId) (s : State) :
    (offerTrack t s).besideTracks = s.besideTracks := rfl
@[simp] theorem changeTrack_besideTracks (t : TrackId) (f : Track → Track) (s : State) :
    (changeTrack t f s).besideTracks = s.besideTracks := rfl
@[simp] theorem modTrack_besideTracks (s : State) (t : TrackId) (f : Track → Track) :
    (s.modTrack t f).besideTracks = s.besideTracks := rfl
@[simp] theorem modPort_besideTracks (s : State) (p : NestId) (f : Port → Port) :
    (s.modPort p f).besideTracks = s.besideTracks := rfl
@[simp] theorem postEvent_besideTracks (e : Event) (s : State) : (postEvent e s).besideTracks = s.besideTracks := by
  unfold postEvent; split <;> rfl

/-- The state of a halt before its event: claims are released, the track is off the stall lists. -/
def released (t : TrackId) (s : State) : State := unstall t (releaseClaims t (idleClaimed t s))

@[simp] theorem released_besideClaims (t : TrackId) (s : State) : (released t s).besideClaims = s.besideClaims := by
  unfold released; simp

/-- R64: the record of a track that halts. -/
def Track.halted (x : Track) (c : TrackCause) : Track :=
  Track.renew { x with state := .halted, cause := c, held := [], stalled := false }

theorem haltTrack_eq (c : TrackCause) (t : TrackId) (s : State) :
    haltTrack c t s =
      let u := (released t s).modTrack t fun x => x.halted c
      offerTrack t (postEvent (evTrackHalted (trackNest u t) t c u.tracks[t].played) u) := rfl

@[simp] theorem haltTrack_besideTracks (c : TrackCause) (t : TrackId) (s : State) :
    (haltTrack c t s).besideTracks = s.besideTracks := by
  rw [haltTrack_eq]
  dsimp only
  rw [offerTrack_besideTracks, postEvent_besideTracks, modTrack_besideTracks]
  exact besideTracks_of_claims (released_besideClaims t s)

@[simp] theorem postEvent_tracks (e : Event) (s : State) : (postEvent e s).tracks = s.tracks :=
  congrArg (fun b => b.2.2.1) (postEvent_bench e s)

@[simp] theorem offerTrack_tracks (t : TrackId) (s : State) : (offerTrack t s).tracks = s.tracks := rfl

theorem haltTrack_track (c : TrackCause) (t : TrackId) (s : State) (j : TrackId) :
    (haltTrack c t s).tracks[j] = if j = t then s.tracks[t].halted c else s.tracks[j] := by
  rw [haltTrack_eq]
  dsimp only
  rw [offerTrack_tracks, postEvent_tracks, modTrack_get, tracks_of_claims (released_besideClaims t s)]

theorem offerTrack_grows (t : TrackId) (s : State) : s.post.Grows (offerTrack t s).post := .of_eq rfl rfl

theorem haltTrack_grows (c : TrackCause) (t : TrackId) (s : State) : s.post.Grows (haltTrack c t s).post := by
  rw [haltTrack_eq, ← post_of_claims (released_besideClaims t s), ← modTrack_post (released t s) t fun x => x.halted c]
  exact (postEvent_grows _ _).trans (offerTrack_grows _ _)

theorem haltForRail_besideTracks (r : RailId) (s : State) : (haltForRail r s).besideTracks = s.besideTracks :=
  forEach_keeps State.besideTracks _ (fun t s => by split <;> simp) _ _

end Sys2Proof.Machine
end

section
/-! SUPPORT. Decisions (R117): what every step of a decision with its AFTER chain keeps, the decision keeps; so the post
FIFO only grows and a check that runs goes on. -/
namespace Sys2Proof.Machine

open Stated

/-! ### Induction over the decisions of one moment -/

/-- P is kept by each step of a decision, where the checks in `ok` are the ones decided and started. -/
structure KeptByDecisions (ok : CheckId → Prop) (P : State → Prop) : Prop where
  record : ∀ {e d s}, ok e → P s → P (recordDecision e d s)
  start : ∀ {e s}, ok e → P s → P (startCheck e s).1
  waiting : ∀ {n f s}, P s → P (s.modPrompt n f)
  opened : ∀ {n a d s}, P s → P (openPrompt n a d s)
  movable : ∀ {e s}, P s →
    s.checks[e].state = .armed ∨ s.checks[e].state = .promptWait ∨ s.checks[e].state = .prompting → ok e

theorem armed_of_waitsAfter {s : State} {c e : CheckId} {p : Bool} (h : waitsAfter s c e = some p) :
    s.checks[e].state = .armed := by
  unfold waitsAfter at h
  split at h
  · rename_i g; exact g.1
  · cases h

section
variable {ok : CheckId → Prop} {P : State → Prop} {decide : CheckId → Decision → State → State}

theorem KeptByDecisions.takeHead (h : KeptByDecisions ok P) (hd : ∀ {e d s}, ok e → P s → P (decide e d s))
    {n : NestId} {s t : State} (hs : P s) (ht : takeHead decide n s = some t) : P t := by
  unfold Machine.takeHead at ht
  split at ht
  · dsimp only at ht
    split at ht <;> cases ht
    · unfold admitOutcome
      split
      · rename_i hw; exact hd (h.movable (h.waiting hs) (.inr hw.1.symm)) (h.waiting hs)
      · exact h.waiting hs
    · exact h.opened (h.waiting hs)
  · cases ht

theorem KeptByDecisions.takeHeads (h : KeptByDecisions ok P) (hd : ∀ {e d s}, ok e → P s → P (decide e d s))
    (n : NestId) {s : State} (hs : P s) : P (takeHeads decide n s) := by
  unfold Machine.takeHeads
  generalize s.prompts[n].waiting.length = k
  induction k generalizing s with
  | zero => exact hs
  | succ k ih =>
    unfold takeHeadsFuel
    split
    · exact hs
    · rename_i t ht; exact ih (h.takeHead hd hs ht)

theorem KeptByDecisions.beginCheck (h : KeptByDecisions ok P) (hd : ∀ {e d s}, ok e → P s → P (decide e d s))
    {e : CheckId} {s : State} (he : ok e) (hs : P s) : P (beginCheck decide e s) := by
  have hstart := h.start he hs
  unfold Machine.beginCheck
  split <;> rename_i heq <;> rw [heq] at hstart
  · exact hd he hstart
  · split
    · exact h.takeHeads hd _ hstart
    · exact hstart

theorem KeptByDecisions.decideFuel (h : KeptByDecisions ok P) (f : Nat) {e : CheckId} {d : Decision} {s : State}
    (he : ok e) (hs : P s) : P (decideFuel f e d s) := by
  induction f generalizing e d s with
  | zero => exact h.record he hs
  | succ f ih =>
    unfold Machine.decideFuel
    refine forEach_induct P _ (fun a s hs => ?_) _ _ (h.record he hs)
    split
    · exact hs
    · rename_i passOnly hw
      have ha : ok a := h.movable hs (.inl (armed_of_waitsAfter hw))
      split
      · exact ih ha hs
      · exact h.beginCheck (fun he hs => ih he hs) ha hs

theorem KeptByDecisions.decideCheck (h : KeptByDecisions ok P) {e : CheckId} {d : Decision} {s : State} (he : ok e)
    (hs : P s) : P (decideCheck e d s) := h.decideFuel 64 he hs
end

/-! ### Posting -/

theorem takeVerdict_grows {s t : State} (h : takeVerdict s = some t) : s.post.Grows t.post := by
  unfold takeVerdict at h
  split at h
  · cases h
  · split at h
    · cases h
    · split at h
      · cases h; exact ⟨List.prefix_append .., .inl rfl⟩
      · cases h

/-- What a single taking keeps, the takings of waiting verdicts keep. -/
theorem takeVerdicts_induct {P : State → Prop} (h : ∀ {s t}, P s → takeVerdict s = some t → P t) (n : Nat) {s : State}
    (hs : P s) : P (takeVerdicts n s) := by
  induction n generalizing s with
  | zero => exact hs
  | succ n ih =>
    unfold takeVerdicts
    split
    · exact hs
    · rename_i t ht; exact ih (h hs ht)

theorem recordDecision_grows (c : CheckId) (d : Decision) (s : State) : s.post.Grows (recordDecision c d s).post :=
  takeVerdicts_induct (P := fun t => s.post.Grows t.post) (fun hs ht => hs.trans (takeVerdict_grows ht)) _
    (.of_eq rfl rfl)

theorem offerQuery_post (c : CheckId) (s : State) : (offerQuery c s).post = s.post := by
  unfold offerQuery; split <;> rfl

theorem endDelay_post (c : CheckId) (s : State) : (endDelay c s).1.post = s.post := by
  unfold endDelay
  dsimp only
  split
  · unfold takeLevelSample; split <;> rfl
  · unfold takeWindowSample; split <;> rfl
  · unfold takeProfileSample; dsimp only; repeat' split
    all_goals rfl
  · rfl
  · exact offerQuery_post ..
  · rfl
  · rfl
  · rfl

theorem startDelay_post (c : CheckId) (s : State) : (startDelay c s).1.post = s.post := by
  unfold startDelay
  dsimp only
  split
  · exact endDelay_post ..
  · rfl

theorem startCharge_post (c : CheckId) (s : State) : (startCharge c s).1.post = s.post := by
  unfold startCharge
  split
  · rfl
  · dsimp only; split <;> rfl

theorem startCheck_post (c : CheckId) (s : State) : (startCheck c s).1.post = s.post := by
  unfold startCheck
  dsimp only
  split
  · exact startDelay_post ..
  · exact startDelay_post ..
  · exact startDelay_post ..
  · split
    · rfl
    · exact startDelay_post ..
  · exact startCharge_post ..
  · exact startDelay_post ..
  · rfl
  · rfl

theorem grows_keptByDecisions (p : Post) : KeptByDecisions (fun _ => True) fun s => p.Grows s.post where
  record _ h := h.trans (recordDecision_grows ..)
  start _ h := by rw [startCheck_post]; exact h
  waiting h := h
  opened h := by rw [openPrompt_post]; exact h
  movable _ _ := trivial

theorem decideCheck_grows (c : CheckId) (d : Decision) (s : State) : s.post.Grows (decideCheck c d s).post :=
  (grows_keptByDecisions s.post).decideCheck trivial (.refl _)

/-! ### A check that runs -/

/-- A check that a loss of service can meet (R116). -/
def Check.running (k : Check) : Prop := k.state = .delaying ∨ k.state = .sampling

theorem takeVerdict_check {c : CheckId} {s t : State} (hc : s.checks[c].state ≠ .decided)
    (h : takeVerdict s = some t) : t.checks[c] = s.checks[c] := by
  unfold takeVerdict at h
  split at h
  · cases h
  · rename_i e rest _
    split at h
    · cases h
    · split at h
      · rename_i hdec
        cases h
        have hne : c ≠ e := fun g => hc (g ▸ hdec.1)
        rw [setUnposted_checks, modCheck_get, if_neg hne, modPost_checks]
      · cases h

theorem takeVerdicts_check {c : CheckId} (n : Nat) {s : State} (hc : s.checks[c].state ≠ .decided) :
    (takeVerdicts n s).checks[c] = s.checks[c] :=
  takeVerdicts_induct (P := fun t => t.checks[c] = s.checks[c])
    (fun hs ht => (takeVerdict_check (hs ▸ hc) ht).trans hs) n rfl

theorem recordDecision_check {c e : CheckId} (hne : e ≠ c) (d : Decision) {s : State}
    (hc : s.checks[c].state ≠ .decided) : (recordDecision e d s).checks[c] = s.checks[c] := by
  have hsame : ∀ f l, ((s.modCheck e f).setUnposted l).checks[c] = s.checks[c] := fun f l =>
    (modCheck_get ..).trans (if_neg hne.symm)
  unfold recordDecision testVerdicts
  dsimp only
  rw [takeVerdicts_check _ (by rw [hsame]; exact hc), hsame]

theorem running_keptByDecisions {c : CheckId} {k : Check} (hk : k.running) :
    KeptByDecisions (· ≠ c) fun s => s.checks[c] = k where
  record hne h := (recordDecision_check hne _ (by rcases hk with g | g <;> rw [h, g] <;> decide)).trans h
  start hne h := (startCheck_sameCheck hne _).1.trans h
  waiting h := h
  opened {n a d s} h := by
    have htaken : s.checks[c].taken a = s.checks[c] :=
      if_neg fun g => by rcases hk with e | e <;> rw [h, e] at g <;> cases g.1
    rw [openPrompt_checks]
    by_cases e : a.check = c
    · subst e; rw [htaken, ← h]; simp
    · have hv : (a.check : Nat) ≠ c := fun g => e (Fin.ext g)
      simpa [Vector.getElem_set_ne _ _ hv] using h
  movable h hstate := by
    rintro rfl
    rcases hk with e | e <;> rw [h, e] at hstate <;> simp at hstate

/-- R105: a decision, with its AFTER chain, leaves another check that runs. -/
theorem decideCheck_running {c e : CheckId} (hne : e ≠ c) (d : Decision) {s : State} (hc : s.checks[c].running) :
    (decideCheck e d s).checks[c] = s.checks[c] := (running_keptByDecisions hc).decideCheck hne rfl

end Sys2Proof.Machine
end

section
/-! SUPPORT. What follows the fault of a rail: lost service, the dependants of BATT and the fault itself (R29, R33, R35,
R116), as a relation that each step of it keeps. -/
namespace Sys2Proof.Machine

open Stated

/-! ### Loops that reach each element -/

/-- A step that brings about Q at one element of a list, where every step keeps P and Q, has brought it about at the
end. -/
theorem forEach_reaches {α : Type} {P Q : State → Prop} {f : α → State → State} {a : α} (hP : ∀ b s, P s → P (f b s))
    (hQ : ∀ b s, P s → Q s → Q (f b s)) (ha : ∀ s, P s → Q (f a s)) {l : List α} (hl : a ∈ l) {s : State} (hs : P s) :
    Q (s.forEach l f) := by
  induction l generalizing s with
  | nil => cases hl
  | cons b l ih =>
    rw [forEach_cons]
    rcases List.mem_cons.1 hl with rfl | hl
    · exact (forEach_induct (fun s => P s ∧ Q s) f (fun b s h => ⟨hP b s h.1, hQ b s h.1 h.2⟩) l _
        ⟨hP _ s hs, ha s hs⟩).2
    · exact ih hl (hP b s hs)

/-! ### What goes on while faults are handled -/

/-- What the fault of a rail, its loss of service and its force-off leave. -/
def State.besideRails (s : State) := (s.bus, s.nests, s.supplies, s.inputs, s.capture)

theorem besideRails_of_tracks {s t : State} (h : s.besideTracks = t.besideTracks) : s.besideRails = t.besideRails :=
  congrArg (fun p => (p.1, p.2.1, p.2.2.1, p.2.2.2.2.2.1, p.2.2.2.2.1)) h

theorem besideRails_of_plant {s t : State} (h : s.plant = t.plant) : s.besideRails = t.besideRails :=
  congrArg (fun p => (p.1.1, p.2.1, p.1.2.1, p.2.2.2, p.1.2.2.2.2.2.2.2)) h

theorem bus_of_besideRails {s t : State} (h : s.besideRails = t.besideRails) : s.bus = t.bus := congrArg Prod.fst h

theorem path_of_bus {s t : State} (h : s.bus = t.bus) : s.path = t.path := congrArg (fun b => b.2.2) h

theorem path_of_besideRails {s t : State} (h : s.besideRails = t.besideRails) : s.path = t.path :=
  path_of_bus (bus_of_besideRails h)

theorem nests_of_besideRails {s t : State} (h : s.besideRails = t.besideRails) : s.nests = t.nests :=
  congrArg (fun p => p.2.1) h

theorem supplies_of_besideRails {s t : State} (h : s.besideRails = t.besideRails) : s.supplies = t.supplies :=
  congrArg (fun p => p.2.2.1) h

theorem rails_of_tracks {s t : State} (h : s.besideTracks = t.besideTracks) : s.rails = t.rails :=
  congrArg (fun p => p.2.2.2.1) h

theorem checks_of_tracks {s t : State} (h : s.besideTracks = t.besideTracks) : s.checks = t.checks :=
  congrArg (fun p => p.2.2.2.2.2.2.1) h

theorem unposted_of_tracks {s t : State} (h : s.besideTracks = t.besideTracks) : s.unposted = t.unposted :=
  congrArg (fun p => p.2.2.2.2.2.2.2.1) h

theorem tracks_of_plant {s t : State} (h : s.plant = t.plant) : s.tracks = t.tracks :=
  congrArg (fun p => p.1.2.2.1) h

theorem rails_of_plant {s t : State} (h : s.plant = t.plant) : s.rails = t.rails := congrArg (fun p => p.2.2.1) h

/-- R116: the decision of check c that loses the service of its rail. -/
def lossDecision (s : State) (c : CheckId) : Decision :=
  { verdict := .sourceFault, detail := detailRailLost, a := s.checks[c].last.getD 0 }

/-- R116, R117: the verdict of check c on a loss of service in s. -/
def lossVerdict (s : State) (c : CheckId) : Verdict := verdictOf s c (lossDecision s c)

theorem verdictOf_congr {s t : State} {c : CheckId} (h : t.besideRails = s.besideRails)
    (hc : t.checks[c] = s.checks[c]) (d : Decision) : verdictOf t c d = verdictOf s c d := by
  unfold verdictOf checkClock
  simp only [hc, checkNest_congr (path_of_besideRails h) c, nests_of_besideRails h]

theorem lossVerdict_congr {s t : State} {c : CheckId} (h : t.besideRails = s.besideRails)
    (hc : t.checks[c] = s.checks[c]) : lossVerdict t c = lossVerdict s c := by
  unfold lossVerdict lossDecision
  rw [verdictOf_congr h hc, hc]

/-- A standing verdict stands as long as its check and the unposted list are left and the post FIFO only grows. -/
theorem VerdictStands.mono {c : CheckId} {v : Verdict} {s t : State} (h : VerdictStands c v s)
    (hchecks : t.checks = s.checks) (hunposted : t.unposted = s.unposted) (hpost : s.post.Grows t.post) :
    VerdictStands c v t := by
  unfold VerdictStands at *
  rw [hchecks, hunposted]
  exact h.imp id fun ⟨hidle, slot, hm⟩ => ⟨hidle, slot, hpost.fifo.subset hm⟩

/-- From s on to t, in the handling of faults: posts were added, active tracks may have halted with cause RAIL, and
checks that run may have been decided RAIL_LOST; what had halted or been decided stays so. -/
structure Onward (s t : State) : Prop where
  post : s.post.Grows t.post
  beside : t.besideRails = s.besideRails
  tracks : ∀ k : TrackId, t.tracks[k] = s.tracks[k]
    ∨ s.tracks[k].state.active = true ∧ t.tracks[k].state = .halted ∧ t.tracks[k].cause = .rail
  stands : ∀ {c v}, VerdictStands c v s → VerdictStands c v t
  running : ∀ {c : CheckId}, s.checks[c].running → t.checks[c] = s.checks[c] ∨ VerdictStands c (lossVerdict s c) t

theorem Onward.refl (s : State) : Onward s s := ⟨.refl _, rfl, fun _ => .inl rfl, id, fun _ => .inl rfl⟩

theorem Onward.trans {s t u : State} (h : Onward s t) (g : Onward t u) : Onward s u where
  post := h.post.trans g.post
  beside := g.beside.trans h.beside
  tracks k := by
    rcases h.tracks k with e | ⟨ha, hs, hc⟩
    · exact (g.tracks k).imp (·.trans e) fun ⟨ga, gs⟩ => ⟨e ▸ ga, gs⟩
    · rcases g.tracks k with e | ⟨ga, _⟩
      · exact .inr ⟨ha, e ▸ hs, e ▸ hc⟩
      · rw [hs] at ga; cases ga
  stands hv := g.stands (h.stands hv)
  running {c} hr := by
    rcases h.running hr with e | hv
    · rw [← lossVerdict_congr h.beside e, ← e]
      exact g.running (e ▸ hr)
    · exact .inr (g.stands hv)

theorem Onward.path {s t : State} (h : Onward s t) : t.path = s.path := path_of_besideRails h.beside

theorem Onward.nests {s t : State} (h : Onward s t) : t.nests = s.nests := nests_of_besideRails h.beside

/-- Steps on the rails alone go on. -/
theorem modRail_onward (r : RailId) (f : Rail → Rail) (s : State) : Onward s (s.modRail r f) :=
  ⟨.refl _, rfl, fun _ => .inl rfl, id, fun _ => .inl rfl⟩

/-- A step that leaves all but tracks and posting goes on where the tracks do. -/
theorem onward_of_besideTracks {s t : State} (h : t.besideTracks = s.besideTracks) (hpost : s.post.Grows t.post)
    (htracks : ∀ k : TrackId, t.tracks[k] = s.tracks[k]
      ∨ s.tracks[k].state.active = true ∧ t.tracks[k].state = .halted ∧ t.tracks[k].cause = .rail) : Onward s t where
  post := hpost
  beside := besideRails_of_tracks h
  tracks := htracks
  stands hv := hv.mono (checks_of_tracks h) (unposted_of_tracks h) hpost
  running _ := .inl (by rw [checks_of_tracks h])

theorem postEvent_onward (e : Event) (s : State) : Onward s (postEvent e s) :=
  onward_of_besideTracks (postEvent_besideTracks e s) (postEvent_grows e s) fun _ => .inl (by rw [postEvent_tracks])

theorem haltTrack_onward {t : TrackId} {s : State} (h : s.tracks[t].state.active = true) :
    Onward s (haltTrack .rail t s) :=
  onward_of_besideTracks (haltTrack_besideTracks ..) (haltTrack_grows ..) fun k => by
    rw [haltTrack_track]
    split
    · rename_i e; subst e; exact .inr ⟨h, rfl, rfl⟩
    · exact .inl rfl

/-- R116: a check that runs is decided RAIL_LOST. -/
theorem decideLoss_onward {c : CheckId} {s : State} (h : s.checks[c].running) :
    Onward s (decideCheck c (lossDecision s c) s) where
  post := decideCheck_grows ..
  beside := besideRails_of_plant (decideCheck_plant ..)
  tracks _ := .inl (by rw [tracks_of_plant (decideCheck_plant ..)])
  stands {e v} hv := by
    refine verdictStands_decideFuel 64 hv ?_
    rintro rfl
    rcases h with g | g <;> rcases hv.settled with e | e <;> rw [g] at e <;> cases e
  running {e} he := by
    by_cases hce : c = e
    · subst hce; exact .inr (decideCheck_stands ..)
    · exact .inl (decideCheck_running hce _ he)

/-! ### Loss of service (R33, R116) -/

/-- R33: track t is halted by the loss of rail r. -/
def haltsWith (s : State) (r : RailId) (t : TrackId) : Prop :=
  s.tracks[t].state.active = true ∧ trackNest s t = nestOfRail r ∧ requiresRail s t (kindOfRail r) = true

theorem haltForRail_onward (r : RailId) (s : State) : Onward s (haltForRail r s) := by
  refine forEach_induct (Onward s) _ (fun t u h => ?_) _ _ (.refl s)
  split
  · rename_i ha; exact h.trans (haltTrack_onward ha.1)
  · exact h

theorem trackNest_congr {s t : State} (h : t.path = s.path) (k : TrackId) : trackNest t k = trackNest s k := by
  unfold trackNest trackWord cfg; rw [h]

theorem requiresRail_congr {s t : State} (h : t.path = s.path) (k : TrackId) (j : Fin 3) :
    requiresRail t k j = requiresRail s k j := by
  unfold requiresRail trackWord cfg; rw [h]

/-- A track that is halted with cause RAIL stays so. -/
theorem Onward.halted {s t : State} (h : Onward s t) {k : TrackId} (hs : s.tracks[k].state = .halted)
    (hc : s.tracks[k].cause = .rail) : t.tracks[k].state = .halted ∧ t.tracks[k].cause = .rail := by
  rcases h.tracks k with e | ⟨ha, _⟩
  · rw [e]; exact ⟨hs, hc⟩
  · rw [hs] at ha; cases ha

/-- R33: each active track that requires the rail is halted. -/
theorem haltForRail_halts {r : RailId} {s : State} {t : TrackId} (h : haltsWith s r t) :
    (haltForRail r s).tracks[t].state = .halted ∧ (haltForRail r s).tracks[t].cause = .rail := by
  obtain ⟨ha, hn, hk⟩ := h
  refine forEach_reaches (P := Onward s) (Q := fun u => u.tracks[t].state = .halted ∧ u.tracks[t].cause = .rail)
    (fun j u hu => ?_) (fun j u hu hq => ?_) (fun u hu => ?_) (List.mem_finRange t) (.refl s)
  · split
    · rename_i g; exact hu.trans (haltTrack_onward g.1)
    · exact hu
  · split
    · rename_i g; exact (haltTrack_onward g.1).halted hq.1 hq.2
    · exact hq
  · rw [trackNest_congr hu.path, requiresRail_congr hu.path]
    rcases hu.tracks t with e | ⟨_, hs, hc⟩
    · rw [if_pos ⟨by rw [e]; exact ha, hn, hk⟩, haltTrack_track, if_pos rfl]
      exact ⟨rfl, rfl⟩
    · rw [if_neg fun g => by rw [hs] at g; cases g.1]
      exact ⟨hs, hc⟩

theorem usesRail_congr {s t : State} (h : t.path = s.path) (c : CheckId) (k : Fin 3) :
    usesRail t c k = usesRail s c k := by
  unfold usesRail samplesSource checkKind sourceRail sourceType sourceNumber
  simp only [checkWord_congr h]

/-- R116: check c is decided by the loss of rail r. -/
def lostWith (s : State) (r : RailId) (c : CheckId) : Bool :=
  (s.checks[c].state == .delaying || s.checks[c].state == .sampling)
    && checkNest s c == nestOfRail r && usesRail s c (kindOfRail r)

theorem lostWith_iff (s : State) (r : RailId) (c : CheckId) : lostWith s r c = true
    ↔ s.checks[c].running ∧ checkNest s c = nestOfRail r ∧ usesRail s c (kindOfRail r) = true := by
  unfold lostWith Check.running
  simp [and_assoc]

theorem lostWith_congr {s t : State} {c : CheckId} (h : t.path = s.path) (hc : t.checks[c] = s.checks[c]) (r : RailId) :
    lostWith t r c = lostWith s r c := by
  unfold lostWith
  rw [hc, checkNest_congr h, usesRail_congr h]

theorem checksRailLost_eq (r : RailId) (s : State) :
    checksRailLost r s = s.forEach allChecks fun c u =>
      if lostWith s r c && lostWith u r c then decideCheck c (lossDecision u c) u else u := rfl

theorem lostStep_onward (r : RailId) (s u : State) (c : CheckId) :
    Onward u (if lostWith s r c && lostWith u r c then decideCheck c (lossDecision u c) u else u) := by
  split
  · rename_i g; exact decideLoss_onward ((lostWith_iff ..).1 (Bool.and_eq_true_iff.1 g).2).1
  · exact .refl u

theorem checksRailLost_onward (r : RailId) (s : State) : Onward s (checksRailLost r s) := by
  rw [checksRailLost_eq]
  exact forEach_induct (Onward s) _ (fun c u h => h.trans (lostStep_onward ..)) _ _ (.refl s)

/-- R116: each check that runs on the rail is decided. -/
theorem checksRailLost_decides {r : RailId} {s : State} {c : CheckId} (h : lostWith s r c = true) :
    VerdictStands c (lossVerdict s c) (checksRailLost r s) := by
  rw [checksRailLost_eq]
  refine forEach_reaches (P := Onward s) (fun e u hu => hu.trans (lostStep_onward ..))
    (fun e u _ hv => (lostStep_onward ..).stands hv) (fun u hu => ?_) (List.mem_finRange c) (.refl s)
  rcases hu.running ((lostWith_iff ..).1 h).1 with e | hv
  · rw [if_pos (by rw [lostWith_congr hu.path e, h]; rfl), ← lossVerdict_congr hu.beside e]
    exact decideCheck_stands ..
  · exact (lostStep_onward ..).stands hv

theorem railLost_onward (r : RailId) (s : State) : Onward s (railLost r s) :=
  (haltForRail_onward r s).trans (checksRailLost_onward r _)

@[simp] theorem railLost_rails (r : RailId) (s : State) : (railLost r s).rails = s.rails :=
  (rails_of_plant (checksRailLost_plant ..)).trans (rails_of_tracks (haltForRail_besideTracks ..))

/-- R33, R116: rail q loses service in s, a later state of x; in any later w it has lost it as x had it. -/
theorem serviceLost_of_railLost {q : RailId} {x s w : State} (hx : Onward x s) (hw : Onward (railLost q s) w) :
    ServiceLost q x w := by
  refine ⟨fun t ha hn hk => ?_, fun c hr hn hu => ?_⟩
  · have hhalt : (railLost q s).tracks[t].state = .halted ∧ (railLost q s).tracks[t].cause = .rail := by
      rcases hx.tracks t with e | ⟨_, hs, hc⟩
      · have hwith : haltsWith s q t :=
          ⟨by rw [e]; exact ha, by rw [trackNest_congr hx.path]; exact hn, by rw [requiresRail_congr hx.path]; exact hk⟩
        obtain ⟨hs, hc⟩ := haltForRail_halts hwith
        exact (checksRailLost_onward q _).halted hs hc
      · exact (railLost_onward q s).halted hs hc
    exact hw.halted hhalt.1 hhalt.2
  · refine hw.stands ?_
    change VerdictStands c (lossVerdict x c) _
    have hh := hx.trans (haltForRail_onward q s)
    rcases hh.running hr with e | hv
    · rw [← lossVerdict_congr hh.beside e]
      refine checksRailLost_decides ?_
      rw [lostWith_congr hh.path e]
      exact (lostWith_iff ..).2 ⟨hr, hn, hu⟩
    · exact (checksRailLost_onward q _).stands hv

/-! ### Dependants of BATT (R35) -/

/-- R35: one dependant, forced off from its state. -/
def forceDependant (n : NestId) (pick : RailState → Bool) (k : Fin 3) (s : State) : State :=
  let r := railOf n k
  let left := s.rails[r].state
  if pick left then
    let s := postEvent (evRailForcedOff r .battLost left) (s.modRail r dependantRail)
    if left.serving then railLost r s else s
  else s

theorem forceDependants_eq (n : NestId) (pick : RailState → Bool) (s : State) :
    forceDependants n pick s = forceDependant n pick 2 (forceDependant n pick 1 s) := rfl

theorem forceDependant_onward (n : NestId) (pick : RailState → Bool) (k : Fin 3) (s : State) :
    Onward s (forceDependant n pick k s) := by
  have hevent (e : Event) : Onward s (postEvent e (s.modRail (railOf n k) dependantRail)) :=
    (modRail_onward ..).trans (postEvent_onward ..)
  unfold forceDependant
  dsimp only
  split
  · split
    · exact (hevent _).trans (railLost_onward ..)
    · exact hevent _
  · exact .refl s

theorem forceDependants_onward (n : NestId) (pick : RailState → Bool) (s : State) :
    Onward s (forceDependants n pick s) :=
  (forceDependant_onward n pick 1 s).trans (forceDependant_onward n pick 2 _)

theorem forceDependant_rails (n : NestId) (pick : RailState → Bool) (k : Fin 3) (s : State) (r : RailId) :
    (forceDependant n pick k s).rails[r] =
      if r = railOf n k ∧ pick s.rails[r].state = true then dependantRail s.rails[r] else s.rails[r] := by
  have hrails : (forceDependant n pick k s).rails =
      if pick s.rails[railOf n k].state then (s.modRail (railOf n k) dependantRail).rails else s.rails := by
    unfold forceDependant
    dsimp only
    split
    · split <;> simp
    · rfl
  cases hp : pick s.rails[railOf n k].state with
  | true =>
    rw [hrails, if_pos hp, modRail_get]
    by_cases hr : r = railOf n k
    · subst hr; rw [if_pos rfl, if_pos ⟨rfl, hp⟩]
    · rw [if_neg hr, if_neg fun g => hr g.1]
  | false =>
    have hnot : ¬ (r = railOf n k ∧ pick s.rails[r].state = true) := fun g => by
      rw [g.1, hp] at g; cases g.2
    rw [if_neg hnot, hrails, hp, if_neg Bool.false_ne_true]

theorem railOf_inj {n : NestId} {j k : Fin 3} : railOf n j = railOf n k ↔ j = k := by
  unfold railOf; simp only [Fin.ext_iff]; omega

theorem nestOfRail_railOf (n : NestId) (k : Fin 3) : nestOfRail (railOf n k) = n := by
  unfold nestOfRail railOf; simp only [Fin.ext_iff]; omega

theorem railOf_kindOfRail (r : RailId) : railOf (nestOfRail r) (kindOfRail r) = r := by
  unfold nestOfRail railOf kindOfRail; simp only [Fin.ext_iff]; omega

/-- R35: a dependant is forced off if its state is picked. -/
theorem forceDependants_dependant (n : NestId) (pick : RailState → Bool) (s : State) {k : Fin 3} (hk : k ≠ 0) :
    (forceDependants n pick s).rails[railOf n k] =
      if pick s.rails[railOf n k].state then dependantRail s.rails[railOf n k] else s.rails[railOf n k] := by
  rw [forceDependants_eq, forceDependant_rails, forceDependant_rails]
  match k with
  | 1 => simp [railOf_inj]
  | 2 => simp [railOf_inj]

/-- R35: every other rail is left. -/
theorem forceDependants_other (n : NestId) (pick : RailState → Bool) (s : State) {r : RailId}
    (h : ∀ k : Fin 3, k ≠ 0 → r ≠ railOf n k) : (forceDependants n pick s).rails[r] = s.rails[r] := by
  rw [forceDependants_eq, forceDependant_rails, forceDependant_rails]
  simp [h 1 (by decide), h 2 (by decide)]

/-- R33, R35: a dependant that is forced off is reported, and one in service has lost it. -/
theorem forceDependant_lost {n : NestId} {pick : RailState → Bool} {k : Fin 3} {x s w : State} (hx : Onward x s)
    (hrail : s.rails[railOf n k] = x.rails[railOf n k]) (hp : pick x.rails[railOf n k].state = true)
    (hw : Onward (forceDependant n pick k s) w) : DependantLost (railOf n k) x w := by
  have hset : Onward x (s.modRail (railOf n k) dependantRail) := hx.trans (modRail_onward ..)
  unfold forceDependant at hw
  dsimp only at hw
  rw [hrail, if_pos hp] at hw
  refine ⟨?_, fun hserving => ?_⟩
  · refine reported_of_postEvent hset.nests hset.post (Post.Grows.trans ?_ hw.post)
    split
    · exact (railLost_onward ..).post
    · exact .refl _
  · rw [if_pos hserving] at hw
    exact serviceLost_of_railLost (hset.trans (postEvent_onward ..)) hw

theorem forceDependants_lost {n : NestId} {pick : RailState → Bool} {k : Fin 3} {x s : State} (hk : k ≠ 0)
    (hx : Onward x s) (hrail : s.rails[railOf n k] = x.rails[railOf n k])
    (hp : pick x.rails[railOf n k].state = true) : DependantLost (railOf n k) x (forceDependants n pick s) := by
  rw [forceDependants_eq]
  match k with
  | 1 => exact forceDependant_lost hx hrail hp (forceDependant_onward ..)
  | 2 =>
    refine forceDependant_lost (hx.trans (forceDependant_onward ..)) ?_ hp (.refl _)
    rw [forceDependant_rails, if_neg fun g => by simp [railOf_inj] at g]
    exact hrail

/-! ### The fault of a rail (R29) -/

/-- R29: a fault latches the rail. -/
def latches (s : State) (r : RailId) : Bool := !policyRetry s r || decide (maxRetries s r < s.rails[r].retry + 1)

/-- R29: the record of a rail that takes a fault. -/
def Rail.faulted (x : Rail) (c : RailCause) (latch : Bool) : Rail :=
  { x with
    state := if latch then .latched else .faultWait
    cause := c
    retry := x.retry + 1
    dwell := 0
    timer := if latch then none else some 0 }

/-- R29: the event of a fault. -/
def faultEvent (r : RailId) (c : RailCause) (latch : Bool) (x : Rail) : Event :=
  if latch then evRailLatched r c (x.retry + 1) x.voltage else evRailFault r c (x.retry + 1)

/-- R29, R33: a fault but for the dependants: the record, the event and the loss of service. -/
def ownFault (c : RailCause) (r : RailId) (s : State) : State :=
  let u := postEvent (faultEvent r c (latches s r) s.rails[r]) (s.modRail r fun x => x.faulted c (latches s r))
  if s.rails[r].state.serving then railLost r u else u

theorem railFault_eq (c : RailCause) (dependency : Bool) (r : RailId) (s : State) : railFault c dependency r s =
    if dependency then faultDependants r s.rails[r].state (ownFault c r s) else ownFault c r s := rfl

theorem faultRecord_onward (c : RailCause) (r : RailId) (s : State) :
    Onward s (postEvent (faultEvent r c (latches s r) s.rails[r]) (s.modRail r fun x => x.faulted c (latches s r))) :=
  (modRail_onward ..).trans (postEvent_onward ..)

theorem ownFault_onward (c : RailCause) (r : RailId) (s : State) : Onward s (ownFault c r s) := by
  unfold ownFault
  dsimp only
  split
  · exact (faultRecord_onward ..).trans (railLost_onward ..)
  · exact faultRecord_onward ..

theorem ownFault_rails (c : RailCause) (r : RailId) (s : State) (j : RailId) : (ownFault c r s).rails[j] =
    if j = r then s.rails[r].faulted c (latches s r) else s.rails[j] := by
  have hrails : (ownFault c r s).rails = (s.modRail r fun x => x.faulted c (latches s r)).rails := by
    unfold ownFault
    dsimp only
    split
    · rw [railLost_rails, postEvent_rails]
    · rw [postEvent_rails]
  rw [hrails, modRail_get]

theorem ownFault_reported {c : RailCause} {r : RailId} {s w : State} (hw : Onward (ownFault c r s) w) :
    Reported (faultEvent r c (latches s r) s.rails[r]) s w := by
  have hset := modRail_onward r (fun x => x.faulted c (latches s r)) s
  refine reported_of_postEvent hset.nests hset.post (Post.Grows.trans ?_ hw.post)
  unfold ownFault
  dsimp only
  split
  · exact (railLost_onward ..).post
  · exact .refl _

theorem ownFault_lost {c : RailCause} {r : RailId} {s w : State} (h : s.rails[r].state.serving = true)
    (hw : Onward (ownFault c r s) w) : ServiceLost r s w := by
  unfold ownFault at hw
  dsimp only at hw
  rw [if_pos h] at hw
  exact serviceLost_of_railLost (faultRecord_onward ..) hw

/-- R29, R35: the states in which a dependant is forced off by a fault of BATT. -/
def faultPicks (left : RailState) (latch : Bool) (x : RailState) : Bool :=
  x.forcible && (left.serving || latch || x == .retryTest)

theorem faultDependants_other {r : RailId} (h : kindOfRail r ≠ 0) (left : RailState) (s : State) :
    faultDependants r left s = s := if_pos h

theorem faultDependants_batt {r : RailId} (h : kindOfRail r = 0) (left : RailState) (s : State) :
    faultDependants r left s = forceDependants (nestOfRail r) (faultPicks left (s.rails[r].state == .latched)) s := by
  unfold faultDependants
  rw [if_neg (not_not.2 h)]
  have hforcible : ∀ x : RailState, (x == .retryTest) = (x.forcible && x == .retryTest) := by
    intro x; cases x <;> rfl
  by_cases hall : left.serving = true ∨ s.rails[r].state = .latched
  · have hpick : (left.serving || s.rails[r].state == .latched) = true := by simpa using hall
    have heq : faultPicks left (s.rails[r].state == .latched) = RailState.forcible := by
      funext x; unfold faultPicks; rw [hpick, Bool.true_or, Bool.and_true]
    rw [if_pos hall, heq]
  · have hpick : (left.serving || s.rails[r].state == .latched) = false := by simpa using hall
    have heq : faultPicks left (s.rails[r].state == .latched) = fun x => x == .retryTest := by
      funext x; unfold faultPicks; rw [hpick, Bool.false_or, ← hforcible]
    rw [if_neg hall, heq]

theorem faulted_latched (x : Rail) (c : RailCause) (latch : Bool) :
    ((x.faulted c latch).state == .latched) = latch := by
  cases latch <;> rfl

/-- R29, R35: a fault with the battery dependency, as its statement has it. -/
theorem railFault_faulted (c : RailCause) (r : RailId) (s : State) : Faulted c r s (railFault c true r s) := by
  have hown := ownFault_onward c r s
  have hself : (ownFault c r s).rails[r] = s.rails[r].faulted c (latches s r) := by rw [ownFault_rails, if_pos rfl]
  have hrest : ∀ q : RailId, q ≠ r → (ownFault c r s).rails[q] = s.rails[q] := fun q hq => by
    rw [ownFault_rails, if_neg hq]
  rw [railFault_eq, if_pos rfl]
  by_cases hk : kindOfRail r = 0
  · have hr : r = railOf (nestOfRail r) 0 := by rw [← hk, railOf_kindOfRail]
    have hdep : ∀ k : Fin 3, k ≠ 0 → railOf (nestOfRail r) k ≠ r := fun k h e => by
      rw [hr, nestOfRail_railOf, railOf_inj] at e; exact h e
    rw [faultDependants_batt hk, hself, faulted_latched]
    have hon := forceDependants_onward (nestOfRail r) (faultPicks s.rails[r].state (latches s r)) (ownFault c r s)
    have hall := hown.trans hon
    have hpick (z : Rail) : faultPicks s.rails[r].state (latches s r) z.state = true ↔
        z.state.forcible ∧ (s.rails[r].state.serving ∨ latches s r = true ∨ z.state = .retryTest) := by
      simp [faultPicks, or_assoc]
    refine ⟨?_, fun q hq => ?_, fun h => absurd hk h, fun _ k h => ?_, ownFault_reported hon,
      fun h => ownFault_lost h hon, fun _ k h => ?_, hall.nests, ?_, ?_, ?_⟩
    · rw [forceDependants_other _ _ _ fun k h => (hdep k h).symm]; exact hself
    · rw [forceDependants_other _ _ _ fun k _ e => hq (by rw [e, nestOfRail_railOf])]
      exact hrest q fun e => hq (congrArg nestOfRail e)
    · rw [forceDependants_dependant _ _ _ h, hrest _ (hdep k h)]
      exact if_congr (hpick _) rfl rfl
    · intro z hz hcause
      exact forceDependants_lost h hown (hrest _ (hdep k h)) ((hpick z).2 ⟨hz, hcause⟩)
    · exact congrArg (fun p => p.2.2.1) hall.beside
    · exact congrArg (fun p => p.2.2.2.1) hall.beside
    · exact congrArg (fun p => p.2.2.2.2) hall.beside
  · rw [faultDependants_other hk]
    exact ⟨hself, fun q hq => hrest q fun e => hq (congrArg nestOfRail e), fun _ q hq => hrest q hq,
      fun h => absurd h hk, ownFault_reported (.refl _), fun h => ownFault_lost h (.refl _), fun h => absurd h hk,
      hown.nests, congrArg (fun p => p.2.2.1) hown.beside, congrArg (fun p => p.2.2.2.1) hown.beside,
      congrArg (fun p => p.2.2.2.2) hown.beside⟩

end Sys2Proof.Machine
end

section
/-! SUPPORT. Measurement (R21 steps 1 to 3): what the meters of rails and supplies read after the charge and the supply
monitor, and that the rest of a nest sample leaves them. -/
namespace Sys2Proof.Machine

open Stated

/-! ### The meters -/

/-- What a rail measures (R38, R39). -/
def Rail.meter (x : Rail) := (x.current, x.voltage, x.history, x.charge, x.residue)

/-- What the supplies and the rails measure. -/
def State.meters (s : State) := (s.supplies, fun r : RailId => s.rails[r].meter)

theorem meters_ext {s t : State} (hsupplies : t.supplies = s.supplies)
    (hrails : ∀ r : RailId, t.rails[r].meter = s.rails[r].meter) : t.meters = s.meters :=
  Prod.ext hsupplies (funext hrails)

theorem supplies_of_meters {s t : State} (h : t.meters = s.meters) : t.supplies = s.supplies := congrArg Prod.fst h

theorem meter_of_meters {s t : State} (h : t.meters = s.meters) (r : RailId) : t.rails[r].meter = s.rails[r].meter :=
  congrFun (congrArg Prod.snd h) r

theorem meters_of_plant {s t : State} (h : t.plant = s.plant) : t.meters = s.meters :=
  meters_ext (congrArg (fun p => p.1.2.1) h) fun r => by rw [rails_of_plant h]

theorem meters_of_tracks {s t : State} (h : t.besideTracks = s.besideTracks) : t.meters = s.meters :=
  meters_ext (congrArg (fun p => p.2.2.1) h) fun r => by rw [rails_of_tracks h]

/-- A change of rails that leaves what they measure. -/
theorem modRail_meters {f : Rail → Rail} (hf : ∀ x, (f x).meter = x.meter) (r : RailId) (s : State) :
    (s.modRail r f).meters = s.meters :=
  meters_ext rfl fun q => by
    rw [modRail_get]
    split
    · rename_i h; subst h; exact hf _
    · rfl

theorem forEach_meters {α : Type} {f : α → State → State} (h : ∀ a s, (f a s).meters = s.meters) (l : List α)
    (s : State) : (s.forEach l f).meters = s.meters := forEach_keeps State.meters f h l s

/-- The end of a drain may turn the probe path on, and leaves the meters. -/
theorem meters_of_kept {s t : State} (h : Kept s t) : t.meters = s.meters := by
  refine meters_ext (congrArg (fun b => b.2.1) h.1) fun r => ?_
  rw [← railOf_kindOfRail r]
  rcases h.2 (nestOfRail r) with ⟨_, hrails, _⟩ | ⟨_, _, _, _, _, _, _, _, hrails, _⟩
  · rw [hrails]
  · rw [hrails]; split <;> rfl

@[simp] theorem modNest_meters (s : State) (n : NestId) (f : Nest → Nest) : (s.modNest n f).meters = s.meters := rfl
@[simp] theorem offerNest_meters (n : NestId) (s : State) : (offerNest n s).meters = s.meters := rfl
@[simp] theorem postEvent_meters (e : Event) (s : State) : (postEvent e s).meters = s.meters :=
  meters_of_plant (postEvent_plant e s)
@[simp] theorem testDrain_meters (n : NestId) (s : State) : (testDrain n s).meters = s.meters :=
  meters_of_kept (testDrain_kept n s)
@[simp] theorem settle_meters (s : State) : (settle s).meters = s.meters := meters_of_kept (settle_kept s)
@[simp] theorem railTrigger_meters (r : RailId) (b : Bool) (s : State) : (railTrigger r b s).meters = s.meters :=
  meters_of_plant (railTrigger_plant r b s)

/-! ### Faults and rail steps -/

@[simp] theorem railLost_meters (r : RailId) (s : State) : (railLost r s).meters = s.meters :=
  meters_ext (supplies_of_besideRails (railLost_onward r s).beside) fun q => by rw [railLost_rails]

theorem forceDependant_meters (n : NestId) (pick : RailState → Bool) (k : Fin 3) (s : State) :
    (forceDependant n pick k s).meters = s.meters :=
  meters_ext (supplies_of_besideRails (forceDependant_onward n pick k s).beside) fun q => by
    rw [forceDependant_rails]; split <;> rfl

theorem ownFault_meters (c : RailCause) (r : RailId) (s : State) : (ownFault c r s).meters = s.meters :=
  meters_ext (supplies_of_besideRails (ownFault_onward c r s).beside) fun q => by
    rw [ownFault_rails]
    split
    · rename_i h; subst h; rfl
    · rfl

@[simp] theorem railFault_meters (c : RailCause) (b : Bool) (r : RailId) (s : State) :
    (railFault c b r s).meters = s.meters := by
  rw [railFault_eq]
  split
  · by_cases h : kindOfRail r = 0
    · rw [faultDependants_batt h, forceDependants_eq, forceDependant_meters, forceDependant_meters, ownFault_meters]
    · rw [faultDependants_other h, ownFault_meters]
  · exact ownFault_meters c r s

theorem endDischarge_meters (r : RailId) (s : State) : (endDischarge r s).meters = s.meters := by
  unfold endDischarge
  dsimp only
  split
  · exact modRail_meters (fun _ => by rfl) r s
  · rw [postEvent_meters]; exact modRail_meters (fun _ => by rfl) r s

theorem endRetryTest_meters (r : RailId) (s : State) : (endRetryTest r s).meters = s.meters := by
  unfold endRetryTest
  dsimp only
  split
  · rw [railTrigger_meters, postEvent_meters]; exact modRail_meters (fun _ => by rfl) r s
  · exact railFault_meters ..

theorem endFaultWait_meters (r : RailId) (s : State) : (endFaultWait r s).meters = s.meters := by
  unfold endFaultWait; split <;> exact modRail_meters (fun _ => by rfl) r s

theorem applyRailAct_meters (r : RailId) (a : RailAct) (s : State) : (applyRailAct r a s).meters = s.meters := by
  cases a with
  | idle => rfl
  | backfeed | overcurrent => exact railFault_meters ..
  | engage | dwell | release | advance => exact modRail_meters (fun _ => by rfl) r s
  | waitExpiry => exact endFaultWait_meters r s
  | retryExpiry => exact endRetryTest_meters r s
  | dischargeExpiry => exact endDischarge_meters r s

theorem railTurn_meters (n : NestId) (m : NestReading) (s0 : State) (k : Fin 3) (s : State) :
    (railTurn n m s0 k s).meters = s.meters := by
  unfold railTurn
  dsimp only
  split
  · rw [testDrain_meters, applyRailAct_meters]
  · rfl

/-- R21 step 4 leaves the meters. -/
theorem atTurn_meters (n : NestId) (m : NestReading) (s : State) (j : Nat) :
    (atTurn n m s j).meters = (beforeRails n m s).meters := forEach_meters (fun k s => railTurn_meters n m _ k s) _ _

/-! ### The seat reading -/

theorem enterWaiting_meters (n : NestId) (s : State) : (enterWaiting n s).meters = s.meters := by
  obtain ⟨places, _, h⟩ := enterWaiting_eq n s
  rw [h]
  exact modRail_meters (f := fun x => if x.state = .off then { x with state := .probe } else x)
    (fun x => by split <;> rfl) (railOf n 0) s

theorem leaveHeld_meters (n : NestId) (s : State) : (leaveHeld n s).meters = s.meters := by
  unfold leaveHeld
  split
  · exact enterWaiting_meters n s
  · rfl

theorem forceOff_meters (n : NestId) (c : RailCause) (b : Bool) (s : State) : (forceOff n c b s).meters = s.meters :=
  forEach_meters (fun k s => by
    dsimp only
    split
    · rw [railLost_meters, postEvent_meters]; exact modRail_meters (fun _ => by rfl) _ s
    · rw [postEvent_meters]; exact modRail_meters (fun _ => by rfl) _ s) _ _

theorem idleNest_besideTracks (n : NestId) (s : State) : (idleNest n s).besideTracks = s.besideTracks := rfl

theorem drainTracks_besideTracks (n : NestId) (s : State) : (drainTracks n s).besideTracks = s.besideTracks := by
  unfold drainTracks
  rw [idleNest_besideTracks]
  exact forEach_keeps State.besideTracks _ (fun t s => by split <;> simp) _ _

theorem reportDrop_besideTracks (f : Frame) (s : State) : (reportDrop f s).besideTracks = s.besideTracks := by
  unfold reportDrop countDrop; split <;> simp

theorem drainPort_besideTracks (p : NestId) (s : State) : (drainPort p s).besideTracks = s.besideTracks := by
  unfold drainPort dropQueue
  split
  · rfl
  · rw [modPort_besideTracks, forEach_keeps State.besideTracks _ reportDrop_besideTracks, modPort_besideTracks]

theorem drainEntry_meters (n : NestId) (c : DrainCause) (s : State) : (drainEntry n c s).meters = s.meters := by
  unfold drainEntry enterDrain
  dsimp only
  rw [testDrain_meters, offerNest_meters, modNest_meters, forceOff_meters, meters_of_kept (drainPrompt_kept n _),
    meters_of_plant (abortChecks_plant n _), meters_of_tracks (drainPort_besideTracks n _),
    meters_of_tracks (drainTracks_besideTracks n _), modNest_meters]

theorem seatOpened_meters (n : NestId) (s : State) : (seatOpened n s).meters = s.meters := by
  unfold seatOpened
  split
  · exact drainEntry_meters ..
  · exact leaveHeld_meters ..
  · rfl
  · rfl
  · rfl

theorem seatStep_meters (n : NestId) (closed : Bool) (s : State) : (seatStep n closed s).meters = s.meters := by
  unfold seatStep
  dsimp only
  split
  · rw [seatOpened_meters, offerNest_meters, modNest_meters]
  · split <;> rfl

/-! ### Measurement, charge and supply monitor -/

theorem mem_allKinds (k : Fin 3) : k ∈ allKinds := by
  match k with
  | 0 | 1 | 2 => simp [allKinds]

theorem setpoint_congr {s t : State} (h : t.path = s.path) (r : RailId) : setpoint t r = setpoint s r := by
  unfold setpoint railWord cfg; rw [h]

theorem limitingDwell_congr {s t : State} (h : t.path = s.path) (r : RailId) :
    limitingDwell t r = limitingDwell s r := by
  unfold limitingDwell railWord cfg; rw [h]

theorem policyRetry_congr {s t : State} (h : t.path = s.path) (r : RailId) : policyRetry t r = policyRetry s r := by
  unfold policyRetry railWord cfg; rw [h]

theorem maxRetries_congr {s t : State} (h : t.path = s.path) (r : RailId) : maxRetries t r = maxRetries s r := by
  unfold maxRetries railWord cfg; rw [h]

theorem chargeBudget_congr {s t : State} (h : t.path = s.path) (r : RailId) : chargeBudget t r = chargeBudget s r := by
  unfold chargeBudget railWord cfg; rw [h]

theorem attachThreshold_congr {s t : State} (h : t.path = s.path) (n : NestId) :
    attachThreshold t n = attachThreshold s n := by
  unfold attachThreshold nestWord cfg; rw [h]

/-- R21 step 1: each rail of the nest is measured. -/
theorem measureNest_rail (n : NestId) (m : NestReading) (s : State) (j : Fin 3) :
    (measureNest n m s).rails[railOf n j] = s.rails[railOf n j].measure m.rails[j] := by
  have h := forEach_table (t := fun s (j : Fin 3) => s.rails[railOf n j])
    (u := fun k s => s.modRail (railOf n k) fun x => x.measure m.rails[k]) (f := fun k x => x.measure m.rails[k])
    (fun k s j => by
      rw [modRail_get]
      by_cases e : j = k
      · subst e; rw [if_pos rfl, if_pos rfl]
      · rw [if_neg e, if_neg fun g => e (railOf_inj.1 g)])
    allKinds (by decide) (s.modSupply n Supply.resume) j
  exact h.trans (if_pos (mem_allKinds j))

/-- R21 step 1, R37: the probe current counts while BATT is in PROBE and the supply fault flag is clear. -/
theorem measureNest_supplies (n : NestId) (m : NestReading) (s : State) :
    (measureNest n m s).supplies = s.supplies.set n
      { s.supplies[n] with
        probe := if s.rails[railOf n 0].state = .probe ∧ s.supplies[n].faulty = false then m.probe else 0
        resuming := false } := by
  have hloop : ∀ u : State,
      (u.forEach allKinds fun k s => s.modRail (railOf n k) fun x => x.measure m.rails[k]).supplies = u.supplies :=
    forEach_keeps State.supplies (fun k s => s.modRail (railOf n k) fun x => x.measure m.rails[k]) (fun _ _ => rfl) _
  have hpath : probePathOn (s.modSupply n Supply.resume) n = true
      ↔ s.rails[railOf n 0].state = .probe ∧ s.supplies[n].faulty = false := by
    simp [probePathOn, Supply.resume, Supply.faulty]
  unfold measureNest
  dsimp only
  rw [modSupply_supplies, hloop]
  simp only [hpath]
  simp [Supply.resume]

/-- R39, R40: what the charge of one sample makes of a rail. -/
def Rail.charged (x : Rail) (budget : Nat) : Rail :=
  if railSwitchClosed x.state then
    { x.addCharge with crossed := x.crossed || x.addCharge.crosses budget }
  else x

section
variable {x : Rail} {budget : Nat}

theorem charged_of_open (h : railSwitchClosed x.state = false) : x.charged budget = x := by
  unfold Rail.charged; rw [h]; rfl

theorem charged_of_crossing (h : railSwitchClosed x.state = true) (hx : x.addCharge.crosses budget = true) :
    x.charged budget = { x.addCharge with crossed := true } := by
  unfold Rail.charged; rw [h, hx, Bool.or_true]; rfl

theorem charged_of_below (h : railSwitchClosed x.state = true) (hx : x.addCharge.crosses budget = false) :
    x.charged budget = x.addCharge := by
  unfold Rail.charged; rw [h, hx, Bool.or_false]; rfl
end

theorem chargeRail_rails (r : RailId) (s : State) :
    (chargeRail r s).rails = s.rails.set r (s.rails[r].charged (chargeBudget s r)) := by
  have hget : (s.modRail r Rail.addCharge).rails[r] = s.rails[r].addCharge := (modRail_get ..).trans (if_pos rfl)
  have hbudget : chargeBudget (s.modRail r Rail.addCharge) r = chargeBudget s r := rfl
  unfold chargeRail
  dsimp only
  rw [hget, hbudget]
  cases hclosed : railSwitchClosed s.rails[r].state with
  | true =>
    cases hx : s.rails[r].addCharge.crosses (chargeBudget s r) with
    | true =>
      rw [charged_of_crossing hclosed hx, if_pos rfl, if_pos rfl, rails_of_plant (railTrigger_plant ..),
        postEvent_rails, modRail_rails, hget, modRail_rails, Vector.set_set]
    | false =>
      rw [charged_of_below hclosed hx, if_pos rfl, if_neg Bool.false_ne_true, modRail_rails]
  | false => rw [charged_of_open hclosed, if_neg Bool.false_ne_true]; simp

theorem chargeRail_get (r : RailId) (s : State) (j : RailId) : (chargeRail r s).rails[j] =
    if j = r then s.rails[r].charged (chargeBudget s r) else s.rails[j] := by
  rw [chargeRail_rails]
  exact modRail_get r (fun x => x.charged (chargeBudget s r)) s j

theorem chargeRail_supplies (r : RailId) (s : State) : (chargeRail r s).supplies = s.supplies := by
  unfold chargeRail
  dsimp only
  split
  · split
    · rw [supplies_of_meters (railTrigger_meters ..), supplies_of_meters (postEvent_meters ..)]; rfl
    · rfl
  · rfl

/-- R21 step 2: each rail of the nest is charged with its own budget. -/
theorem chargeNest_rail (n : NestId) (s : State) (j : Fin 3) :
    (chargeNest n s).rails[railOf n j] = s.rails[railOf n j].charged (chargeBudget s (railOf n j)) := by
  have h := forEach_table_under (t := fun s (j : Fin 3) => s.rails[railOf n j])
    (u := fun k s => chargeRail (railOf n k) s) (p := fun s r => chargeBudget s r)
    (f := fun budget k x => x.charged (budget (railOf n k)))
    (fun k s => funext (chargeBudget_congr (path_of_bus (chargeRail_bus ..))))
    (fun k s j => by
      rw [chargeRail_get]
      by_cases e : j = k
      · subst e; rw [if_pos rfl, if_pos rfl]
      · rw [if_neg e, if_neg fun g => e (railOf_inj.1 g)])
    allKinds (by decide) s j
  exact h.trans (if_pos (mem_allKinds j))

theorem chargeNest_supplies (n : NestId) (s : State) : (chargeNest n s).supplies = s.supplies :=
  forEach_keeps State.supplies _ (fun _ _ => chargeRail_supplies ..) _ _

theorem readInputs_meters (n : NestId) (lines : Vector Int 8) (s : State) : (readInputs n lines s).meters = s.meters :=
  forEach_meters (f := fun j s => s.modInput (inputOf n j) fun x =>
    x.atSample (gateTime s (inputOf n j)) lines[j] s.nests[n].clock) (fun _ _ => rfl) _ s

theorem readInputs_rails (n : NestId) (lines : Vector Int 8) (s : State) : (readInputs n lines s).rails = s.rails :=
  forEach_keeps State.rails (fun j s => s.modInput (inputOf n j) fun x =>
    x.atSample (gateTime s (inputOf n j)) lines[j] s.nests[n].clock) (fun _ _ => rfl) _ s

/-- The state after R21 steps 1 and 2. -/
def afterCharge (n : NestId) (m : NestReading) (s : State) : State := chargeNest n (afterReadings n m s)

theorem afterCharge_bus (n : NestId) (m : NestReading) (s : State) : (afterCharge n m s).bus = s.bus := by
  unfold afterCharge afterReadings
  rw [chargeNest_bus, readInputs_bus, measureNest_bus]

theorem afterCharge_rail (n : NestId) (m : NestReading) (s : State) (j : Fin 3) :
    (afterCharge n m s).rails[railOf n j]
      = (s.rails[railOf n j].measure m.rails[j]).charged (chargeBudget s (railOf n j)) := by
  have hpath : (afterReadings n m s).path = s.path :=
    path_of_bus (by unfold afterReadings; rw [readInputs_bus, measureNest_bus])
  unfold afterCharge
  rw [chargeNest_rail, chargeBudget_congr hpath]
  unfold afterReadings
  rw [readInputs_rails, measureNest_rail]

theorem afterCharge_supplies (n : NestId) (m : NestReading) (s : State) :
    (afterCharge n m s).supplies = s.supplies.set n
      { s.supplies[n] with
        probe := if s.rails[railOf n 0].state = .probe ∧ s.supplies[n].faulty = false then m.probe else 0
        resuming := false } := by
  unfold afterCharge afterReadings
  rw [chargeNest_supplies, supplies_of_meters (readInputs_meters ..), measureNest_supplies]

/-- R28: what the supply monitor makes of the supply, before any rail takes its fault. -/
def supervised (n : NestId) (m : NestReading) (s : State) : State :=
  s.modSupply n fun u => u.supervise m.range m.temperature

/-- R28: each rail whose switch is closed takes a supply fault. -/
def supplyFaults (n : NestId) (s : State) : State :=
  s.forEach allKinds fun k s =>
    if railSwitchClosed s.rails[railOf n k].state then railFault .supply false (railOf n k) s else s

/-- R28: the monitor reading of one sample. -/
theorem superviseSupply_eq (n : NestId) (m : NestReading) (s : State) : superviseSupply n m.range m.temperature s =
    if !s.supplies[n].faulty && (m.range || m.temperature) then
      supplyFaults n (postEvent (evSupplyAlarm n m.range m.temperature) (supervised n m s))
    else if s.supplies[n].faulty && !(m.range || m.temperature) then postEvent (evSupplyNormal n) (supervised n m s)
    else supervised n m s := rfl

theorem supplyFaults_meters (n : NestId) (s : State) : (supplyFaults n s).meters = s.meters :=
  forEach_meters (fun k s => by
    split
    · exact railFault_meters ..
    · rfl) _ _

theorem superviseSupply_meters (n : NestId) (m : NestReading) (s : State) :
    (superviseSupply n m.range m.temperature s).meters = (supervised n m s).meters := by
  rw [superviseSupply_eq]
  split
  · rw [supplyFaults_meters, postEvent_meters]
  · split
    · rw [postEvent_meters]
    · rfl

/-! ### The whole sample -/

/-- R21: after steps 1 to 3 neither rail steps nor seat reading touch a meter. -/
theorem afterSeat_meters (n : NestId) (m : NestReading) (s : State) :
    (seatStep n m.seatClosed (afterRails n m s)).meters = (supervised n m (afterCharge n m s)).meters := by
  rw [seatStep_meters]
  exact (atTurn_meters ..).trans (superviseSupply_meters ..)

theorem afterSeat_path (n : NestId) (m : NestReading) (s : State) :
    (seatStep n m.seatClosed (afterRails n m s)).path = s.path :=
  path_of_bus (by rw [seatStep_bus, afterRails_bus])

/-- R28, R37: the supply of the nest at the seat reading. -/
theorem afterSeat_supplies (n : NestId) (m : NestReading) (s : State) :
    (seatStep n m.seatClosed (afterRails n m s)).supplies =
      let was := s.supplies[n].range || s.supplies[n].temperature
      let now := m.range || m.temperature
      s.supplies.set n
        ⟨m.range, m.temperature,
          if s.rails[railOf n 0].state = .probe ∧ was = false ∧ now = false then m.probe else 0, was && !now⟩ := by
  rw [supplies_of_meters (afterSeat_meters n m s)]
  unfold supervised
  rw [modSupply_supplies, afterCharge_supplies]
  simp only [Fin.getElem_fin, Vector.getElem_set_self, Vector.set_set]
  congr 1
  unfold Supply.supervise Supply.faulty
  cases m.range || m.temperature <;> simp

/-- R38, R39: what rail j of the nest measures in the sample. -/
theorem afterSeat_meter (n : NestId) (m : NestReading) (s : State) (j : Fin 3) :
    (seatStep n m.seatClosed (afterRails n m s)).rails[railOf n j].meter
      = ((s.rails[railOf n j].measure m.rails[j]).charged (chargeBudget s (railOf n j))).meter := by
  rw [meter_of_meters (afterSeat_meters n m s), ← afterCharge_rail]
  rfl

/-- R38: current, voltage and history of a measured rail. -/
theorem measured_reading (x : Rail) (m : RailReading) (budget : Nat) :
    let y := (x.measure m).charged budget
    let c := if railSwitchClosed x.state then m.current else 0
    y.current = c ∧ y.voltage = m.voltage ∧ y.history = (x.history ++ [c]).drop (x.history.length - 63) := by
  have hlength : x.history.length + 1 - 64 = x.history.length - 63 := by omega
  unfold Rail.charged
  dsimp only
  split <;> exact ⟨rfl, rfl, congrArg (fun k => List.drop k _) hlength⟩

/-- R39: charge and residue of a measured rail. -/
theorem measured_charge (x : Rail) (m : RailReading) (budget : Nat) :
    let y := (x.measure m).charged budget
    y.charge = (if railSwitchClosed x.state then min 4294967295 (x.charge + (x.residue + m.current) / 1000)
        else x.charge)
      ∧ y.residue = if railSwitchClosed x.state then (x.residue + m.current) % 1000 else x.residue := by
  unfold Rail.charged Rail.measure
  dsimp only
  cases h : railSwitchClosed x.state with
  | true => exact ⟨rfl, rfl⟩
  | false => exact ⟨rfl, rfl⟩

/-- R37: the probe current reads 0 in a sample that finds or sets the supply fault flag. -/
theorem afterSeat_probe_of_faulty {n : NestId} {m : NestReading} {s : State}
    (h : s.supplies[n].range = true ∨ s.supplies[n].temperature = true ∨ m.range = true ∨ m.temperature = true) :
    (seatStep n m.seatClosed (afterRails n m s)).supplies[n].probe = 0 := by
  rw [afterSeat_supplies]
  simp only [Fin.getElem_fin, Vector.getElem_set_self]
  refine if_neg fun ⟨_, hwas, hnow⟩ => ?_
  obtain ⟨hr, ht⟩ := Bool.or_eq_false_iff.1 hwas
  obtain ⟨hmr, hmt⟩ := Bool.or_eq_false_iff.1 hnow
  simp only [Fin.getElem_fin] at h
  rw [hr, ht, hmr, hmt] at h
  simp at h

end Sys2Proof.Machine
end

section
/-! SUPPORT. The opening of a session (R8, R43, R85, R89): what an attach makes of the nest, its rails, its capture slots
and its inputs, and what it leaves. -/
namespace Sys2Proof.Machine

open Stated

/-! ### The parts that open -/

/-- What the opening of a session leaves. -/
def State.besideSession (s : State) :=
  (s.bus, s.supplies, s.tracks, s.outputs, s.ports, s.checks, s.unposted, s.nodes, s.link, s.prompts, s.post)

theorem modNest_besideSession (n : NestId) (f : Nest → Nest) (s : State) :
    (s.modNest n f).besideSession = s.besideSession := rfl

/-- R43: what the opening of a session clears in each rail. -/
def Rail.zeroed (x : Rail) : Rail := { x with charge := 0, residue := 0, crossed := false, retry := 0, dwell := 0 }

theorem openRails_besideSession (n : NestId) (s : State) : (openRails n s).besideSession = s.besideSession :=
  forEach_keeps State.besideSession (fun k s => s.modRail (railOf n k) Rail.zeroed) (fun _ _ => rfl) _ _

theorem openRails_nests (n : NestId) (s : State) : (openRails n s).nests = s.nests :=
  forEach_keeps State.nests (fun k s => s.modRail (railOf n k) Rail.zeroed) (fun _ _ => rfl) _ _

/-- R43: the record of rail j of a nest whose session opens, its probe off. -/
def Rail.opened (x : Rail) (j : Fin 3) : Rail :=
  { x with
    state := if j = 0 ∧ x.state = .probe then .off else x.state
    charge := 0, residue := 0, crossed := false, retry := 0, dwell := 0 }

theorem probeOff_get (n : NestId) (s : State) (j : Fin 3) : (probeOff n s).rails[railOf n j] =
    { s.rails[railOf n j] with
      state := if j = 0 ∧ s.rails[railOf n j].state = .probe then .off else s.rails[railOf n j].state } := by
  by_cases h : j = 0 ∧ s.rails[railOf n j].state = .probe
  · rw [probeOff_rail, if_pos (h.imp_left railOf_inj.2), if_pos h]
  · rw [probeOff_rail, if_neg (h ∘ And.imp_left railOf_inj.1), if_neg h]

theorem openRails_get (n : NestId) (s : State) (j : Fin 3) :
    (openRails n s).rails[railOf n j] = s.rails[railOf n j].opened j := by
  have h := forEach_table (t := fun s (j : Fin 3) => s.rails[railOf n j])
    (u := fun k s => s.modRail (railOf n k) Rail.zeroed)
    (f := fun _ x => x.zeroed)
    (fun k s j => by
      rw [modRail_get]
      by_cases e : j = k
      · subst e; rw [if_pos rfl, if_pos rfl]
      · rw [if_neg e, if_neg fun g => e (railOf_inj.1 g)])
    allKinds (by decide) (probeOff n s) j
  refine h.trans ((if_pos (mem_allKinds j)).trans ?_)
  rw [probeOff_get]
  rfl

theorem openRails_other {n : NestId} {r : RailId} (h : nestOfRail r ≠ n) (s : State) :
    (openRails n s).rails[r] = s.rails[r] := by
  have hne : ∀ k : Fin 3, r ≠ railOf n k := fun k e => h (by rw [e, nestOfRail_railOf])
  have hloop := forEach_keeps (fun s : State => s.rails[r]) (fun k s => s.modRail (railOf n k) Rail.zeroed)
    (fun k s => (modRail_get ..).trans (if_neg (hne k))) allKinds (probeOff n s)
  exact hloop.trans ((probeOff_rail ..).trans (if_neg fun g => hne 0 g.1))

theorem clearCapture_besideSession (n : NestId) (s : State) : (clearCapture n s).besideSession = s.besideSession :=
  forEach_keeps State.besideSession (fun j s => s.modCapture (captureOf n j) fun _ => Capture.clear)
    (fun _ _ => rfl) _ _

theorem clearCapture_nests (n : NestId) (s : State) : (clearCapture n s).nests = s.nests :=
  forEach_keeps State.nests (fun j s => s.modCapture (captureOf n j) fun _ => Capture.clear)
    (fun _ _ => rfl) _ _

theorem clearCapture_rails (n : NestId) (s : State) : (clearCapture n s).rails = s.rails :=
  forEach_keeps State.rails (fun j s => s.modCapture (captureOf n j) fun _ => Capture.clear)
    (fun _ _ => rfl) _ _

theorem captureOf_inj {n : NestId} {j k : Fin 16} : captureOf n j = captureOf n k ↔ j = k := by
  unfold captureOf; simp only [Fin.ext_iff]; omega

/-- R85: the capture slots of the nest are cleared. -/
theorem clearCapture_get (n : NestId) (s : State) (j : Fin 16) :
    (clearCapture n s).capture[captureOf n j] = Capture.clear := by
  have h := forEach_table (t := fun s (j : Fin 16) => s.capture[captureOf n j])
    (u := fun j s => s.modCapture (captureOf n j) fun _ => Capture.clear) (f := fun _ _ => Capture.clear)
    (fun i s j => by simp only [modCapture_get, captureOf_inj])
    (List.finRange 16) (List.nodup_finRange 16) s j
  exact h.trans (if_pos (List.mem_finRange j))

theorem openInputs_besideSession (n : NestId) (lines : Vector Int 8) (s : State) :
    (openInputs n lines s).besideSession = s.besideSession :=
  forEach_keeps State.besideSession (fun j s => restartInput (inputOf n j) lines[j] true s) (fun _ _ => rfl)
    (List.finRange 8) s

theorem openInputs_nests (n : NestId) (lines : Vector Int 8) (s : State) : (openInputs n lines s).nests = s.nests :=
  forEach_keeps State.nests (fun j s => restartInput (inputOf n j) lines[j] true s) (fun _ _ => rfl)
    (List.finRange 8) s

theorem openInputs_rails (n : NestId) (lines : Vector Int 8) (s : State) : (openInputs n lines s).rails = s.rails :=
  forEach_keeps State.rails (fun j s => restartInput (inputOf n j) lines[j] true s) (fun _ _ => rfl)
    (List.finRange 8) s

theorem openInputs_capture (n : NestId) (lines : Vector Int 8) (s : State) :
    (openInputs n lines s).capture = s.capture :=
  forEach_keeps State.capture (fun j s => restartInput (inputOf n j) lines[j] true s) (fun _ _ => rfl)
    (List.finRange 8) s

/-- R89: an input that starts at a nest sample with this record and line voltage. -/
def startedInput (mode : InputMode) (threshold : Nat) (line : Int) : Input where
  measuring := mode != .off
  mode := mode
  history := []
  taken := 0
  high := decide (threshold = 0 ∨ (threshold : Int) ≤ line)
  position := if mode = .off then none else some 0
  firstDone := false
  gate := Gate.clear
  edges := 0
  value := none
  lastEdge := none

theorem restartInput_atSample (i : InputId) (line : Int) (s : State) :
    restartInput i line true s = s.modInput i fun _ => startedInput (recordMode s i) (edgeThreshold s i) line := by
  have hhigh : lineHigh s i line = decide (edgeThreshold s i = 0 ∨ (edgeThreshold s i : Int) ≤ line) := by
    unfold lineHigh
    rw [Bool.decide_or]
    rfl
  unfold restartInput startedInput
  dsimp only
  rw [hhigh]
  cases recordMode s i <;> rfl

theorem recordMode_congr {s t : State} (h : t.path = s.path) (i : InputId) : recordMode t i = recordMode s i := by
  unfold recordMode gateCode edgeThreshold inputModeCode inputWord cfg; rw [h]

theorem edgeThreshold_congr {s t : State} (h : t.path = s.path) (i : InputId) :
    edgeThreshold t i = edgeThreshold s i := by
  unfold edgeThreshold inputWord cfg; rw [h]

/-- R89: each input of the nest starts with its own record. -/
theorem openInputs_get (n : NestId) (lines : Vector Int 8) (s : State) (j : Fin 8) :
    (openInputs n lines s).inputs[inputOf n j]
      = startedInput (recordMode s (inputOf n j)) (edgeThreshold s (inputOf n j)) lines[j] := by
  have h := forEach_table_under (t := fun s (j : Fin 8) => s.inputs[inputOf n j])
    (u := fun j s => restartInput (inputOf n j) lines[j] true s)
    (p := fun s => (recordMode s, edgeThreshold s))
    (f := fun p j _ => startedInput (p.1 (inputOf n j)) (p.2 (inputOf n j)) lines[j])
    (fun _ _ => rfl) (fun i s j => by
      rw [restartInput_atSample, modInput_get]
      by_cases e : j = i
      · subst e; rw [if_pos rfl, if_pos rfl]
      · rw [if_neg e, if_neg fun g => e (inputOf_inj.1 g)])
    (List.finRange 8) (List.nodup_finRange 8) s j
  exact h.trans (if_pos (List.mem_finRange j))

/-! ### The attach -/

/-- R8: the record of a nest that attaches, but for its state. -/
def Nest.begun (x : Nest) : Nest :=
  { x with
    session := nextSession x.session
    clock := 0
    cause := .none
    trip := false
    attachRun := Config.attachConfirm
    closureTime := 0
    closureReported := true }

/-- R8 before SESSION_OPEN is posted: the session is open. -/
def sessionOpened (n : NestId) (m : NestReading) (s : State) : State :=
  (openInputs n m.lines (clearCapture n (openRails n (s.modNest n Nest.begun)))).modNest n fun x =>
    { x with state := .opened }

theorem attachNest_eq (n : NestId) (m : NestReading) (s : State) : attachNest n m s =
    offerNest n (postEvent (evSessionOpen n s.supplies[n].probe) (sessionOpened n m s)) := rfl

section
variable (n : NestId) (m : NestReading) (s : State)

theorem sessionOpened_nests :
    (sessionOpened n m s).nests = s.nests.set n { s.nests[n].begun with state := .opened } := by
  unfold sessionOpened
  rw [modNest_nests, openInputs_nests, clearCapture_nests, openRails_nests, modNest_nests]
  simp

theorem sessionOpened_besideSession : (sessionOpened n m s).besideSession = s.besideSession := by
  unfold sessionOpened
  rw [modNest_besideSession, openInputs_besideSession, clearCapture_besideSession, openRails_besideSession,
    modNest_besideSession]

theorem sessionOpened_rails (r : RailId) :
    (sessionOpened n m s).rails[r] = (openRails n (s.modNest n Nest.begun)).rails[r] := by
  unfold sessionOpened
  rw [modNest_rails, openInputs_rails, clearCapture_rails]

theorem sessionOpened_rail (j : Fin 3) :
    (sessionOpened n m s).rails[railOf n j] = s.rails[railOf n j].opened j :=
  (sessionOpened_rails ..).trans (openRails_get ..)

theorem sessionOpened_otherRails : OtherRails n s (sessionOpened n m s) := fun _ h =>
  (sessionOpened_rails ..).trans (openRails_other h _)

theorem sessionOpened_capture (j : Fin 16) : (sessionOpened n m s).capture[captureOf n j] = Capture.clear := by
  unfold sessionOpened
  rw [modNest_capture, openInputs_capture]
  exact clearCapture_get ..

theorem sessionOpened_input (j : Fin 8) : (sessionOpened n m s).inputs[inputOf n j] =
    startedInput (recordMode s (inputOf n j)) (edgeThreshold s (inputOf n j)) m.lines[j] := by
  have hsame := (clearCapture_besideSession n _).trans (openRails_besideSession n (s.modNest n Nest.begun))
  have hpath := path_of_bus (congrArg Prod.fst hsame)
  unfold sessionOpened
  rw [modNest_inputs, openInputs_get, recordMode_congr hpath, edgeThreshold_congr hpath]
  rfl
end

/-- R172: what an event does is fixed by posting, the path and the nests. -/
theorem posted_congr {e : Event} {s s' t : State} (h : Posted e s t) (hpost : s'.post = s.post)
    (hpath : s'.path = s.path) (hnests : s'.nests = s.nests) : Posted e s' t := by
  unfold Posted fifoFree eventRoom eventConsumer cfg at *
  rw [hpost, hpath, words_congr hnests]
  exact h

/-- R176: an offer to a place is no event. -/
theorem posted_offer {e : Event} {s t : State} (h : Posted e s t) (p : Place) (v : List Word) :
    Posted e s (offer p v t) := h

/-- An event touches posting alone. -/
theorem postEvent_eq (e : Event) (s : State) : postEvent e s = { s with post := (postEvent e s).post } := by
  unfold postEvent; split <;> rfl

/-! ### The sample in which a nest attaches -/

theorem attaches_iff (s : State) (n : NestId) (m : NestReading) : attaches s n m = true
    ↔ s.nests[n].state = .waiting ∧ m.seatClosed = true ∧ attachThreshold s n ≤ s.supplies[n].probe
      ∧ 50 ≤ s.nests[n].attachRun + 1 := by
  unfold attaches qualifies
  simp [Config.attachConfirm, and_assoc]

theorem attachThreshold_pos (s : State) (n : NestId) : 0 < attachThreshold s n := by
  unfold attachThreshold; positivity

/-- R6: a nest that attaches does nothing else at the reading (log 17). -/
theorem attachStep_of_attaches {s : State} {n : NestId} {m : NestReading} (h : attaches s n m = true) (began : Bool) :
    attachStep n m began s = attachNest n m s := by
  unfold attachStep
  rw [if_neg (not_not.2 ((attaches_iff ..).1 h).1), if_pos h]

/-- R28, R37: no nest attaches in a sample that finds or sets the supply fault flag. -/
theorem sampleAttaches_of_faulty {n : NestId} {m : NestReading} {s : State}
    (h : s.supplies[n].range = true ∨ s.supplies[n].temperature = true ∨ m.range = true ∨ m.temperature = true) :
    sampleAttaches n m s = false := by
  have hprobe := afterSeat_probe_of_faulty h
  refine Bool.eq_false_iff.2 fun hattach => ?_
  obtain ⟨_, _, hthreshold, _⟩ := (attaches_iff ..).1 hattach
  have hpos := attachThreshold_pos (seatStep n m.seatClosed (afterRails n m s)) n
  omega

/-- ATTACH is the nest sample (log 4), and its seat reading the attach. -/
theorem exec_attach {n : NestId} {m : NestReading} {s : State} (h : sampleAttaches n m s = true) :
    exec (.attach n m) s = .next (settle (attachNest n m (seatStep n m.seatClosed (afterRails n m s)))) := by
  change Host.Outcome.next (sampleIf (sampleAttaches n m s) n m s) = _
  unfold sampleIf
  rw [if_pos h, ← attachStep_of_attaches h]
  rfl

/-- Settles O21: a sample that finds or sets the supply fault flag measures no probe current; the fiftieth qualifying
reading is the attach, from the state that the seat reading leaves. -/
theorem attachOpensASession : Obligations.AttachOpensASession := by
  refine ⟨fun n m s h => sampleAttaches_of_faulty h, fun n m s h => ?_⟩
  have hpath := afterSeat_path n m s
  obtain ⟨hwaiting, hclosed, hthreshold, hrun⟩ := (attaches_iff ..).1 h
  refine ⟨hwaiting, hclosed, (attachThreshold_congr hpath n) ▸ hthreshold, hrun, _, exec_attach h, ?_⟩
  generalize seatStep n m.seatClosed (afterRails n m s) = v at *
  have hsame := sessionOpened_besideSession n m v
  simp only [State.besideSession, Prod.mk.injEq] at hsame
  obtain ⟨hbus, hsupplies, htracks, houtputs, hports, hchecks, hunposted, hnodes, hlink, hprompts, hpost⟩ := hsame
  have hnests := sessionOpened_nests n m v
  have hrails := sessionOpened_rail n m v
  have hother := sessionOpened_otherRails n m v
  have hcapture := sessionOpened_capture n m v
  have hinputs := sessionOpened_input n m v
  rw [attachNest_eq]
  generalize sessionOpened n m v = x at *
  have hposted := posted_congr (s' := { v with nests := x.nests })
    (posted_postEvent (evSessionOpen n v.supplies[n].probe) x) hpost.symm (path_of_bus hbus).symm rfl
  rw [postEvent_eq] at hposted ⊢
  refine ⟨hnests, hrails, hother, hcapture, fun j => ?_, posted_offer hposted _ _, hsupplies, htracks, houtputs,
    hports, hchecks, hunposted, hnodes, hlink, hprompts⟩
  rw [← recordMode_congr hpath, ← edgeThreshold_congr hpath]
  exact hinputs j

end Sys2Proof.Machine
end

section
/-! SUPPORT. The steps of the nest sample in the order of R21: the supply monitor, the rail steps, the seat reading, and
what the sample has measured at its end. -/
namespace Sys2Proof.Machine

open Stated

/-- NEST_SAMPLE is the nest sample. -/
theorem exec_nestSample (n : NestId) (m : NestReading) (s : State) :
    exec (.nestSample n m) s = .next (settle (handSeat n m (afterRails n m s))) := rfl

/-- R21: after the charge the supply monitor, then the rails in order. -/
theorem afterRails_eq (n : NestId) (m : NestReading) (s : State) : afterRails n m s =
    (superviseSupply n m.range m.temperature (afterCharge n m s)).forEach allKinds (railTurn n m s) := by
  have hall : (allKinds.filter fun k => decide (k.val < 3)) = allKinds := by decide
  unfold afterRails atTurn
  rw [hall]
  rfl

/-! ### What the sample has measured at its end -/

/-- Instant current, voltage and history of a rail (R38). -/
def Rail.reading (x : Rail) := (x.current, x.voltage, x.history)

theorem reading_of_meter {x y : Rail} (h : x.meter = y.meter) : x.reading = y.reading :=
  congrArg (fun p => (p.1, p.2.1, p.2.2.1)) h

theorem supplies_of_session {s t : State} (h : s.besideSession = t.besideSession) : s.supplies = t.supplies :=
  congrArg (fun p => p.2.1) h

theorem attachNest_meters (n : NestId) (m : NestReading) (s : State) :
    (attachNest n m s).meters = (sessionOpened n m s).meters := by
  rw [attachNest_eq, offerNest_meters, postEvent_meters]

theorem attachNest_supplies (n : NestId) (m : NestReading) (s : State) : (attachNest n m s).supplies = s.supplies :=
  (supplies_of_meters (attachNest_meters n m s)).trans (supplies_of_session (sessionOpened_besideSession n m s))

/-- R43: the session opens with the readings of the sample. -/
theorem attachNest_reading (n : NestId) (m : NestReading) (s : State) (j : Fin 3) :
    (attachNest n m s).rails[railOf n j].reading = s.rails[railOf n j].reading := by
  rw [reading_of_meter (meter_of_meters (attachNest_meters n m s) _), sessionOpened_rail]
  rfl

/-- R7: what a reading that does not attach makes of a WAITING nest. -/
theorem attachStep_of_not_attaches {n : NestId} {m : NestReading} {s : State} (hw : s.nests[n].state = .waiting)
    (ha : attaches s n m = false) (began : Bool) :
    attachStep n m began s =
      let report := reportsClosure s n m began
      let t := s.modNest n fun x =>
        { x with
          attachRun := if qualifies s n m then s.nests[n].attachRun + 1 else 0
          closureTime := closureAfter x began
          closureReported := x.closureReported || report }
      if report then postEvent (evSeatWithoutLoad n s.supplies[n].probe) t else t := by
  unfold attachStep
  rw [if_neg (not_not.2 hw), ha, if_neg Bool.false_ne_true]
  rfl

theorem attachStep_meters {n : NestId} {m : NestReading} {s : State} (h : attaches s n m = false) (began : Bool) :
    (attachStep n m began s).meters = s.meters := by
  by_cases hw : s.nests[n].state = .waiting
  · rw [attachStep_of_not_attaches hw h]
    dsimp only
    split
    · rw [postEvent_meters, modNest_meters]
    · rw [modNest_meters]
  · rw [attachStep_of_not_waiting hw]

theorem attachStep_supplies (n : NestId) (m : NestReading) (began : Bool) (s : State) :
    (attachStep n m began s).supplies = s.supplies := by
  cases h : attaches s n m with
  | true => rw [attachStep_of_attaches h, attachNest_supplies]
  | false => exact supplies_of_meters (attachStep_meters h began)

theorem attachStep_reading (n : NestId) (m : NestReading) (began : Bool) (s : State) (j : Fin 3) :
    (attachStep n m began s).rails[railOf n j].reading = s.rails[railOf n j].reading := by
  cases h : attaches s n m with
  | true => rw [attachStep_of_attaches h, attachNest_reading]
  | false => exact reading_of_meter (meter_of_meters (attachStep_meters h began) _)

section
variable (n : NestId) (m : NestReading) (s : State)

theorem sampleNest_supplies :
    (sampleNest n m s).supplies = (seatStep n m.seatClosed (afterRails n m s)).supplies :=
  (settle_supplies _).trans (attachStep_supplies ..)

theorem sampleNest_reading (j : Fin 3) : (sampleNest n m s).rails[railOf n j].reading
    = ((s.rails[railOf n j].measure m.rails[j]).charged (chargeBudget s (railOf n j))).reading :=
  (reading_of_meter (meter_of_meters (settle_meters _) _)).trans
    ((attachStep_reading ..).trans (reading_of_meter (afterSeat_meter ..)))

variable {n m s} in
theorem sampleNest_meter (h : sampleAttaches n m s = false) (j : Fin 3) :
    (sampleNest n m s).rails[railOf n j].meter
      = ((s.rails[railOf n j].measure m.rails[j]).charged (chargeBudget s (railOf n j))).meter :=
  (meter_of_meters ((settle_meters _).trans (attachStep_meters h _)) _).trans (afterSeat_meter ..)
end

/-- R38: the current, voltage and history of each rail at the end of the sample. -/
theorem sampleNest_rail_reading (n : NestId) (m : NestReading) (s : State) (j : Fin 3) :
    let x := s.rails[railOf n j]
    let y := (sampleNest n m s).rails[railOf n j]
    let c := if railSwitchClosed x.state then m.rails[j].current else 0
    y.current = c ∧ y.voltage = m.rails[j].voltage ∧ y.history = (x.history ++ [c]).drop (x.history.length - 63) := by
  obtain ⟨hcurrent, hvoltage, hhistory⟩ :=
    measured_reading s.rails[railOf n j] m.rails[j] (chargeBudget s (railOf n j))
  have h := sampleNest_reading n m s j
  exact ⟨(congrArg Prod.fst h).trans hcurrent, (congrArg (fun p => p.2.1) h).trans hvoltage,
    (congrArg (fun p => p.2.2) h).trans hhistory⟩

/-- R39: the charge and residue of each rail at the end of a sample that opens no session. -/
theorem sampleNest_rail_charge {n : NestId} {m : NestReading} {s : State} (h : sampleAttaches n m s = false)
    (j : Fin 3) :
    let x := s.rails[railOf n j]
    let y := (sampleNest n m s).rails[railOf n j]
    y.charge = (if railSwitchClosed x.state then
        min 4294967295 (x.charge + (x.residue + m.rails[j].current) / 1000) else x.charge)
      ∧ y.residue = if railSwitchClosed x.state then (x.residue + m.rails[j].current) % 1000 else x.residue := by
  obtain ⟨hcharge, hresidue⟩ := measured_charge s.rails[railOf n j] m.rails[j] (chargeBudget s (railOf n j))
  have h := sampleNest_meter h j
  exact ⟨(congrArg (fun p => p.2.2.2.1) h).trans hcharge, (congrArg (fun p => p.2.2.2.2) h).trans hresidue⟩

/-- R37: what the probe path drives, in words. -/
theorem probeDrive_eq (s : State) (n : NestId) : probeDrive s n =
    if s.rails[railOf n 0].state = .probe ∧ s.supplies[n].range = false ∧ s.supplies[n].temperature = false
      ∧ s.supplies[n].resuming = false then some (2500, 20000) else none := by
  unfold probeDrive probePathOn Supply.faulty
  simp [and_assoc]

/-! ### The supply monitor (R28) -/

theorem supervised_bus (n : NestId) (m : NestReading) (s : State) : (supervised n m s).bus = s.bus := rfl

theorem afterCharge_faulty (n : NestId) (m : NestReading) (s : State) :
    (afterCharge n m s).supplies[n].faulty = (s.supplies[n].range || s.supplies[n].temperature) := by
  rw [afterCharge_supplies]
  simp [Supply.faulty]

/-- R28: the supply as the monitor leaves it, before any rail takes its fault. -/
theorem supervised_eq (n : NestId) (m : NestReading) (s : State) :
    let y := afterCharge n m s
    let was := s.supplies[n].range || s.supplies[n].temperature
    let now := m.range || m.temperature
    let q : Supply := ⟨m.range, m.temperature, if now then 0 else y.supplies[n].probe, was && !now⟩
    supervised n m y = { y with supplies := y.supplies.set n q } := by
  dsimp only
  rw [← afterCharge_faulty n m s]
  rfl

theorem supplyFault_onward (n : NestId) (k : Fin 3) (s : State) :
    Onward s (if railSwitchClosed s.rails[railOf n k].state then railFault .supply false (railOf n k) s else s) := by
  split
  · exact ownFault_onward ..
  · exact .refl s

theorem supplyFaults_onward (n : NestId) (s : State) : Onward s (supplyFaults n s) :=
  forEach_induct (Onward s) _ (fun k _ h => h.trans (supplyFault_onward n k _)) _ _ (.refl s)

/-- R28, R29: each rail whose switch is closed takes its fault, by its own policy. -/
theorem supplyFaults_rail (n : NestId) (s : State) (j : Fin 3) :
    (supplyFaults n s).rails[railOf n j] =
      if railSwitchClosed s.rails[railOf n j].state then
        s.rails[railOf n j].faulted .supply (latches s (railOf n j))
      else s.rails[railOf n j] := by
  have h := forEach_table_under (t := fun s (j : Fin 3) => s.rails[railOf n j])
    (u := fun k s => if railSwitchClosed s.rails[railOf n k].state then railFault .supply false (railOf n k) s else s)
    (p := fun s => (policyRetry s, maxRetries s))
    (f := fun p k x => if railSwitchClosed x.state then
      x.faulted .supply (!p.1 (railOf n k) || decide (p.2 (railOf n k) < x.retry + 1)) else x)
    (fun k s => Prod.ext (funext (policyRetry_congr (supplyFault_onward n k s).path))
      (funext (maxRetries_congr (supplyFault_onward n k s).path)))
    (fun k s j => by
      by_cases e : j = k
      · subst e
        rw [if_pos rfl]
        split
        · exact (ownFault_rails ..).trans (if_pos rfl)
        · rfl
      · rw [if_neg e]
        split
        · exact (ownFault_rails ..).trans (if_neg fun g => e (railOf_inj.1 g))
        · rfl)
    allKinds (by decide) s j
  exact h.trans (if_pos (mem_allKinds j))

section
variable {n : NestId} {m : NestReading} {s : State}

theorem superviseSupply_unchanged (h : s.supplies[n].faulty = (m.range || m.temperature)) :
    superviseSupply n m.range m.temperature s = supervised n m s := by
  rw [superviseSupply_eq, h]
  cases m.range || m.temperature <;> rfl

theorem superviseSupply_normal (hwas : s.supplies[n].faulty = true) (hnow : (m.range || m.temperature) = false) :
    superviseSupply n m.range m.temperature s = postEvent (evSupplyNormal n) (supervised n m s) := by
  rw [superviseSupply_eq, hwas, hnow]; rfl

theorem superviseSupply_alarm (hwas : s.supplies[n].faulty = false) (hnow : (m.range || m.temperature) = true) :
    superviseSupply n m.range m.temperature s =
      supplyFaults n (postEvent (evSupplyAlarm n m.range m.temperature) (supervised n m s)) := by
  rw [superviseSupply_eq, hwas, hnow]; rfl
end

/-! ### The turn of one rail (R21 step 4) -/

theorem forEach_append {α : Type} (f : α → State → State) (l r : List α) (s : State) :
    s.forEach (l ++ r) f = (s.forEach l f).forEach r f := List.foldl_append ..

/-- The rails take their steps in order: those before rail k, rail k, and those after it. -/
theorem afterRails_split (n : NestId) (m : NestReading) (s : State) (k : Fin 3) :
    afterRails n m s = (railTurn n m s k (atTurn n m s k.val)).forEach
      (allKinds.filter fun j => decide (k.val < j.val)) (railTurn n m s) := by
  have hsplit : (allKinds.filter fun j => decide (j.val < 3)) =
      (allKinds.filter fun j => decide (j.val < k.val)) ++ k :: allKinds.filter fun j => decide (k.val < j.val) := by
    revert k; decide
  unfold afterRails atTurn
  rw [hsplit, forEach_append, forEach_cons]

/-- A rail that no earlier step of the sample has moved takes its own, with the completion test of a drain (R13). -/
theorem railTurn_of_unmoved {n : NestId} {k : Fin 3} {r : RailId} (hr : railOf n k = r) {m : NestReading} {s0 s : State}
    (h : s.rails[r].state = s0.rails[r].state) :
    railTurn n m s0 k s = testDrain n (applyRailAct r (railAct s r m.rails[k].limiter) s) := by
  subst hr; exact if_pos h

theorem atTurn_path (n : NestId) (m : NestReading) (s : State) (j : Nat) : (atTurn n m s j).path = s.path :=
  path_of_bus (by unfold atTurn; rw [forEach_bus (fun k s => railTurn_bus ..), beforeRails_bus])

/-- What holds of the act of a rail at its turn holds at its turn. -/
theorem atRailTurn_of_act {r : RailId} {m : NestReading} {s : State} {a : RailAct} {P : State → State → Prop}
    (hstate : (atTurn (nestOfRail r) m s (kindOfRail r).val).rails[r].state = s.rails[r].state)
    (hact : railAct (atTurn (nestOfRail r) m s (kindOfRail r).val) r m.rails[kindOfRail r].limiter = a)
    (hP : P (atTurn (nestOfRail r) m s (kindOfRail r).val)
      (applyRailAct r a (atTurn (nestOfRail r) m s (kindOfRail r).val))) :
    AtRailTurn (.nestSample (nestOfRail r) m) r m s P := by
  refine ⟨_, hP, ?_⟩
  have hturn := railTurn_of_unmoved (railOf_kindOfRail r) (m := m) hstate
  rw [hact] at hturn
  rw [exec_nestSample, afterRails_split (k := kindOfRail r), hturn]
  rfl

section
variable {s : State} {r : RailId} {engaged : Bool}

/-- R27: the output of a closed switch is above the setpoint by more than 300 mV. -/
def backfed (s : State) (r : RailId) : Bool :=
  railSwitchClosed s.rails[r].state && decide (setpoint s r + 300 < s.rails[r].voltage)

theorem railAct_backfed (h : backfed s r = true) : railAct s r engaged = .backfeed := if_pos h

theorem railAct_serving (h : backfed s r = false) (hs : s.rails[r].state = .on ∨ s.rails[r].state = .limiting) :
    railAct s r engaged = limiterAct s r engaged := by
  refine (if_neg (Bool.eq_false_iff.1 h)).trans ?_
  rcases hs with e | e <;> rw [e]

theorem railAct_idle (h : backfed s r = false) (hs : s.rails[r].state = .on) : railAct s r false = .idle := by
  rw [railAct_serving h (.inl hs)]
  unfold limiterAct
  rw [if_neg Bool.false_ne_true, if_neg (by rw [hs]; decide)]

theorem railAct_release (h : backfed s r = false) (hs : s.rails[r].state = .limiting) :
    railAct s r false = .release := by
  rw [railAct_serving h (.inr hs)]
  unfold limiterAct
  rw [if_neg Bool.false_ne_true, if_pos hs]

theorem railAct_engage (h : backfed s r = false) (hs : s.rails[r].state = .on) (hd : 1 < limitingDwell s r) :
    railAct s r true = .engage := by
  rw [railAct_serving h (.inl hs)]
  unfold limiterAct
  rw [if_pos rfl]
  dsimp only
  rw [if_pos hs, if_neg (by omega), if_pos hs]

theorem railAct_dwell (h : backfed s r = false) (hs : s.rails[r].state = .limiting)
    (hd : s.rails[r].dwell + 1 < limitingDwell s r) : railAct s r true = .dwell := by
  have hon : s.rails[r].state ≠ .on := by rw [hs]; decide
  rw [railAct_serving h (.inr hs)]
  unfold limiterAct
  rw [if_pos rfl]
  dsimp only
  rw [if_neg hon, if_neg (by omega), if_neg hon]

theorem railAct_overcurrent (h : backfed s r = false)
    (hs : s.rails[r].state = .on ∧ limitingDwell s r ≤ 1
      ∨ s.rails[r].state = .limiting ∧ limitingDwell s r ≤ s.rails[r].dwell + 1) :
    railAct s r true = .overcurrent := by
  rw [railAct_serving h (hs.imp And.left And.left)]
  unfold limiterAct
  rw [if_pos rfl]
  dsimp only
  rcases hs with ⟨hon, hd⟩ | ⟨hlimiting, hd⟩
  · rw [if_pos hon, if_pos hd]
  · have hon : s.rails[r].state ≠ .on := by rw [hlimiting]; decide
    rw [if_neg hon, if_pos hd]
end

/-! ### The seat reading (R6, R7) -/

/-- R6, R7: a reading that neither attaches nor reports advances or clears the attach run and advances the closure
time. -/
theorem attachStep_of_unreported {n : NestId} {m : NestReading} {s : State} {began : Bool}
    (hw : s.nests[n].state = .waiting) (ha : attaches s n m = false) (hr : reportsClosure s n m began = false) :
    attachStep n m began s = s.modNest n fun x =>
      { x with
        attachRun := if qualifies s n m then s.nests[n].attachRun + 1 else 0
        closureTime := closureAfter x began } := by
  rw [attachStep_of_not_attaches hw ha, hr]
  dsimp only
  rw [if_neg Bool.false_ne_true]
  simp only [Bool.or_false]

theorem qualifies_iff (s : State) (n : NestId) (m : NestReading) : qualifies s n m = true
    ↔ m.seatClosed = true ∧ attachThreshold s n ≤ s.supplies[n].probe := by
  unfold qualifies; simp

/-- R7: closure time counts on while the seat is closed, from the reading after the one that begins the closure. -/
theorem closureAfter_eq (x : Nest) (closed wasClosed : Bool) : closureAfter x (closed && !wasClosed) =
    if x.seat = true ∧ ¬ (closed = true ∧ wasClosed = false) then min 2000 (x.closureTime + 1) else x.closureTime := by
  unfold closureAfter
  refine if_congr ?_ rfl rfl
  cases closed <;> simp

/-- R6, R7: the seat reading of a sample in which a WAITING nest neither attaches nor reports. -/
theorem handSeat_of_unreported {n : NestId} {m : NestReading} {s : State}
    (hw : (seatStep n m.seatClosed (afterRails n m s)).nests[n].state = .waiting) (ha : sampleAttaches n m s = false)
    (hr : sampleReports n m s = false) :
    handSeat n m (afterRails n m s) =
      let v := seatStep n m.seatClosed (afterRails n m s)
      v.modNest n fun x =>
        { x with
          attachRun :=
            if m.seatClosed = true ∧ attachThreshold s n ≤ v.supplies[n].probe then x.attachRun + 1 else 0
          closureTime :=
            if x.seat = true ∧ ¬ (m.seatClosed = true ∧ (afterRails n m s).nests[n].seat = false) then
              min 2000 (x.closureTime + 1)
            else x.closureTime } := by
  have hpath := afterSeat_path n m s
  refine (attachStep_of_unreported hw ha hr).trans ?_
  generalize seatStep n m.seatClosed (afterRails n m s) = v at *
  refine modNest_congr ?_
  have hrun := if_congr (qualifies_iff v n m) (Eq.refl (v.nests[n].attachRun + 1)) (Eq.refl 0)
  rw [attachThreshold_congr hpath] at hrun
  exact congrArg₂ (fun a c => { v.nests[n] with attachRun := a, closureTime := c }) hrun (closureAfter_eq ..)

/-- Settles O24: what the sample measures is read off the meters, which its later steps leave; the supply monitor, the
turn of a rail and the seat reading each stand in the sample with what follows them. -/
theorem nestSampleTakesItsReadings : Obligations.NestSampleTakesItsReadings := by
  refine ⟨fun n m s => ?_, fun n m s => ?_, fun r m s => ?_, fun n m s => ?_⟩
  · have hbus := sampleNest_bus n m s
    refine ⟨sampleNest n m s, rfl, fun j => ?_, (sampleNest_supplies n m s).trans (afterSeat_supplies n m s),
      probeDrive_eq s n, congrArg (fun b => b.2.1) hbus, path_of_bus hbus, congrArg Prod.fst hbus⟩
    obtain ⟨hcurrent, hvoltage, hhistory⟩ := sampleNest_rail_reading n m s j
    exact ⟨hcurrent, hvoltage, hhistory, fun h => sampleNest_rail_charge h j⟩
  · intro y was now q z
    have hwas : y.supplies[n].faulty = was := afterCharge_faulty n m s
    have hz : supervised n m y = z := supervised_eq n m s
    have hexec := exec_nestSample n m s
    rw [afterRails_eq] at hexec
    refine ⟨superviseSupply n m.range m.temperature y, hexec, fun h => ?_, fun h h' => ?_, fun h h' => ?_⟩
    · rw [superviseSupply_unchanged (hwas.trans h), hz]
    · rw [superviseSupply_normal (hwas.trans h) h', hz]
      exact ⟨postEvent_rails .., posted_postEvent ..⟩
    · rw [superviseSupply_alarm (hwas.trans h) h', hz]
      refine ⟨⟨_, posted_postEvent .., postEvent_rails .., (supplyFaults_onward ..).post.fifo⟩, fun k => ?_⟩
      have hpath : (postEvent (evSupplyAlarm n m.range m.temperature) z).path = s.path := by
        rw [← hz]
        exact path_of_bus ((postEvent_bus ..).trans ((supervised_bus ..).trans (afterCharge_bus n m s)))
      rw [supplyFaults_rail, latches, policyRetry_congr hpath, maxRetries_congr hpath, postEvent_rails]
      rfl
  · intro n x y engaged backed turn becomes hstate
    have hpath : x.path = s.path := atTurn_path ..
    have hback : backfed x r = backed := by unfold backfed; rw [setpoint_congr hpath]
    have hdwell := limitingDwell_congr hpath r
    rw [← hback, ← hdwell]
    refine ⟨fun h => ?_, fun h hs he hd => ?_, fun h hs he hd => ?_, fun h he hd => ?_, fun h hs he => ?_,
      fun h hs he => ?_⟩
    · exact atRailTurn_of_act hstate (railAct_backfed h) (railFault_faulted ..)
    · exact atRailTurn_of_act hstate (he ▸ railAct_engage h hs hd) rfl
    · exact atRailTurn_of_act hstate (he ▸ railAct_dwell h hs hd) rfl
    · exact atRailTurn_of_act hstate (he ▸ railAct_overcurrent h hd) (railFault_faulted ..)
    · exact atRailTurn_of_act hstate (he ▸ railAct_release h hs) rfl
    · exact atRailTurn_of_act hstate (he ▸ railAct_idle h hs) rfl
  · intro x v hw ha hr y
    rw [exec_nestSample, handSeat_of_unreported hw ha hr]
    rfl

end Sys2Proof.Machine
end

section
/-! SUPPORT. Host stores and the prefetch (R53, R159, R166): what a store discards of each track, what the discard
leaves, and the store outside the control block. -/
namespace Sys2Proof.Machine

open Stated

/-! ### What the discard of entries leaves -/

theorem changeTrack_get (t : TrackId) (f : Track → Track) (s : State) (j : TrackId) :
    (changeTrack t f s).tracks[j] = if j = t then (f s.tracks[t]).renew else s.tracks[j] := modTrack_get ..

/-- R67: an offered track status is that of the track. -/
theorem offerTrack_place (t : TrackId) (s : State) :
    (Place.track t, trackStatus (offerTrack t s).tracks[t]) ∈ (offerTrack t s).post.places := mem_upsertPlace ..

/-- What the discard of entries leaves, whatever track it is of. -/
def State.besidePrefetch (s : State) :=
  (s.besideTracks, s.outputs, s.claims, s.frameHolders, s.post.fifo, s.post.lost)

@[simp] theorem changeTrack_besidePrefetch (t : TrackId) (f : Track → Track) (s : State) :
    (changeTrack t f s).besidePrefetch = s.besidePrefetch := rfl

@[simp] theorem offerTrack_besidePrefetch (t : TrackId) (s : State) :
    (offerTrack t s).besidePrefetch = s.besidePrefetch := rfl

@[simp] theorem unstall_besidePrefetch (t : TrackId) (s : State) : (unstall t s).besidePrefetch = s.besidePrefetch :=
  forEach_keeps State.besidePrefetch _ (fun _ s => (rfl : (State.modPort s _ _).besidePrefetch = _)) allNests s

theorem invalidateTrack_besidePrefetch (w : Nat) (t : TrackId) (s : State) :
    (invalidateTrack w t s).besidePrefetch = s.besidePrefetch := by
  unfold invalidateTrack
  dsimp only
  repeat' split
  all_goals simp

theorem invalidateEntries_besidePrefetch (w : Nat) (s : State) :
    (invalidateEntries w s).besidePrefetch = s.besidePrefetch :=
  forEach_keeps State.besidePrefetch _ (invalidateTrack_besidePrefetch w) _ _

/-- What a store looks at and changes of track k: the shadow with its descriptor, its record, and the values that its
status place holds. -/
def State.prefetchOf (k : TrackId) (s : State) :=
  (s.path.shadow, s.tracks[k], fun v => (Place.track k, v) ∈ s.post.places)

section
variable {k t : TrackId} (h : k ≠ t) (s : State)
include h

theorem changeTrack_prefetchOf (f : Track → Track) : (changeTrack t f s).prefetchOf k = s.prefetchOf k := by
  simp only [State.prefetchOf, changeTrack_get, if_neg h]
  rfl

theorem offerTrack_prefetchOf : (offerTrack t s).prefetchOf k = s.prefetchOf k :=
  congrArg (fun p => (s.path.shadow, s.tracks[k], p))
    (funext fun v => propext (mem_upsertPlace_of_ne (by simp [h]) v _ s.post.places))

/-- R53: the discard of a track's entries leaves every other track. -/
theorem invalidateTrack_prefetchOf (w : Nat) : (invalidateTrack w t s).prefetchOf k = s.prefetchOf k := by
  have hstall (s : State) : (unstall t s).prefetchOf k = s.prefetchOf k :=
    forEach_keeps (State.prefetchOf k) _ (fun _ s => (rfl : (State.modPort s _ _).prefetchOf k = _)) allNests s
  unfold invalidateTrack
  dsimp only
  repeat' split
  all_goals simp only [changeTrack_prefetchOf h, offerTrack_prefetchOf h, hstall]
end

/-! ### What a store discards of one track (R53) -/

/-- A track that is not active, or holds no entry of the word, is left. -/
theorem invalidateTrack_of_untouched {w : Nat} {t : TrackId} {s : State}
    (h : s.tracks[t].state.active = false ∨ ∀ e ∈ s.tracks[t].held, touchesEntry s t w e = false) :
    invalidateTrack w t s = s := by
  unfold invalidateTrack
  dsimp only
  split
  · rfl
  · rename_i hdrop
    rcases h with hidle | hfree
    · exact if_pos (by rw [hidle]; rfl)
    · rw [List.takeWhile_eq_self_iff.2 fun e he => by rw [hfree e he]; rfl, List.drop_length] at hdrop
      cases hdrop

@[simp] theorem unstall_tracks (t : TrackId) (s : State) : (unstall t s).tracks = s.tracks :=
  tracks_of_claims (unstall_besideClaims t s)

section
variable {w : Nat} {t : TrackId} {s : State} {before behind : List Entry} {e : Entry}
  (hactive : s.tracks[t].state.active = true) (hheld : s.tracks[t].held = before ++ e :: behind)
  (hbefore : ∀ b ∈ before, touchesEntry s t w b = false) (he : touchesEntry s t w e = true)
include hbefore he

theorem takeWhile_untouched :
    (before ++ e :: behind).takeWhile (fun e => !touchesEntry s t w e) = before := by
  rw [List.takeWhile_append_of_pos fun b hb => by rw [hbefore b hb]; rfl, List.takeWhile_cons_of_neg (by simp [he]),
    List.append_nil]

include hactive hheld

/-- The head stays where the first entry touched is behind it. -/
theorem invalidateTrack_behind (h : before ≠ []) :
    (invalidateTrack w t s).tracks[t] = Track.renew { s.tracks[t] with
      held := before, fetchIndex := e.index, fetched := s.tracks[t].fetched - (behind.length + 1) } := by
  unfold invalidateTrack
  simp only [hheld, takeWhile_untouched hbefore he, List.drop_left, hactive, Bool.not_true, Bool.false_eq_true,
    if_false, List.isEmpty_eq_false_iff.2 h, Bool.not_false, if_true]
  rw [changeTrack_get, if_pos rfl]

/-- Where the head is discarded the track leaves the stall lists, a RUNNING track is starved and a SUSPENDING one is
SUSPENDED and offers its status. -/
theorem invalidateTrack_head (h : before = []) :
    (invalidateTrack w t s).tracks[t] = Track.renew { s.tracks[t] with
        held := before
        fetchIndex := e.index
        fetched := s.tracks[t].fetched - (behind.length + 1)
        stalled := false
        starved := s.tracks[t].starved || (s.tracks[t].state == .running)
        state := if s.tracks[t].state = .suspending then .suspended else s.tracks[t].state }
      ∧ (s.tracks[t].state = .suspending →
        (Place.track t, trackStatus (invalidateTrack w t s).tracks[t]) ∈ (invalidateTrack w t s).post.places) := by
  unfold invalidateTrack
  simp only [hheld, takeWhile_untouched hbefore he, List.drop_left, hactive, Bool.not_true, Bool.false_eq_true,
    if_false, List.isEmpty_iff.2 h]
  have hstarved (hx : s.tracks[t].state ≠ .running) :
      (s.tracks[t].starved || (s.tracks[t].state == .running)) = s.tracks[t].starved := by
    rw [beq_eq_false_iff_ne.2 hx, Bool.or_false]
  obtain ⟨x, hx⟩ : ∃ x, s.tracks[t].state = x := ⟨_, rfl⟩
  cases x with
  | running =>
    simp only [hx, changeTrack_get, unstall_tracks, if_true, h, beq_self_eq_true, Bool.or_true]
    exact ⟨rfl, nofun⟩
  | suspending =>
    rw [hstarved (by rw [hx]; nofun)]
    simp only [hx]
    refine ⟨?_, fun _ => offerTrack_place t _⟩
    simp only [offerTrack_tracks, changeTrack_get, unstall_tracks, if_true, h, hx]
    rfl
  | priming | suspended =>
    rw [hstarved (by rw [hx]; nofun)]
    simp only [hx, changeTrack_get, unstall_tracks, if_true, h]
    exact ⟨rfl, nofun⟩
  | idle | done | halted | faulted => rw [hx] at hactive; cases hactive
end

/-- R53: what a store discards of a track. -/
theorem invalidateTrack_invalidated (w : Nat) (k : TrackId) (s : State) :
    Invalidated k w s (invalidateTrack w k s) := by
  refine ⟨fun h => by rw [invalidateTrack_of_untouched h], fun before e behind hactive hheld hbefore he => ?_⟩
  exact ⟨invalidateTrack_behind hactive hheld hbefore he, invalidateTrack_head hactive hheld hbefore he⟩

/-! ### What a store discards of all tracks -/

theorem touchesEntry_congr {s t : State} (h : t.path.shadow = s.path.shadow) (k : TrackId) (w : Nat) (e : Entry) :
    touchesEntry t k w e = touchesEntry s k w e := by
  unfold touchesEntry entryWord bufferBase trackWord cfg; rw [h]

/-- What a store does to a track is read off what the track shows before and after. -/
theorem invalidated_congr {k : TrackId} {w : Nat} {s s' t t' : State} (h : Invalidated k w s t)
    (hs : s'.prefetchOf k = s.prefetchOf k) (ht : t'.prefetchOf k = t.prefetchOf k) : Invalidated k w s' t' := by
  obtain ⟨hshadow, htrack, -⟩ := Prod.ext_iff.1 hs |>.imp id Prod.ext_iff.1
  obtain ⟨-, htrack', hplaces⟩ := Prod.ext_iff.1 ht |>.imp id Prod.ext_iff.1
  have hplaces (v : List Word) : (Place.track k, v) ∈ t'.post.places ↔ (Place.track k, v) ∈ t.post.places :=
    iff_of_eq (congrFun hplaces v)
  simp only [State.prefetchOf] at hshadow htrack htrack'
  unfold Invalidated at *
  simp only [htrack, htrack', hplaces, touchesEntry_congr hshadow]
  exact h

section
variable {α β : Type} {p : State → β} {f : α → State → State} {a : α} (hp : ∀ b s, b ≠ a → p (f b s) = p s)
include hp

/-- A loop that does not come to a keeps the part that the steps of the other elements keep. -/
theorem forEach_others {l : List α} (ha : a ∉ l) (s : State) : p (s.forEach l f) = p s := by
  induction l generalizing s with
  | nil => rfl
  | cons b l ih =>
    obtain ⟨hb, hl⟩ := not_or.1 (List.mem_cons.not.1 ha)
    rw [forEach_cons, ih hl, hp b s (Ne.symm hb)]

/-- On a part that the steps of the other elements keep, a loop over distinct elements makes the one step of a. -/
theorem forEach_once {l : List α} (hl : l.Nodup) (ha : a ∈ l) (s : State) :
    ∃ u, p u = p s ∧ p (s.forEach l f) = p (f a u) := by
  induction l generalizing s with
  | nil => cases ha
  | cons b l ih =>
    obtain ⟨hb, hl⟩ := List.nodup_cons.1 hl
    rw [forEach_cons]
    by_cases hab : b = a
    · subst hab
      exact ⟨s, rfl, forEach_others hp hb _⟩
    · obtain ⟨u, hu, hend⟩ := ih hl ((List.mem_cons.1 ha).resolve_left (Ne.symm hab)) (f b s)
      exact ⟨u, hu.trans (hp b s hab), hend⟩
end

/-- R53: what a store discards of each track. -/
theorem invalidateEntries_invalidated (w : Nat) (s : State) (k : TrackId) :
    Invalidated k w s (invalidateEntries w s) := by
  obtain ⟨u, hu, hend⟩ := forEach_once (p := State.prefetchOf k)
    (fun t s h => invalidateTrack_prefetchOf (Ne.symm h) s w) (List.nodup_finRange 8) (List.mem_finRange k) s
  exact invalidated_congr (invalidateTrack_invalidated w k u) hu.symm hend

/-- R53: no entry of the word stays in the prefetch of an active track. -/
theorem untouched_of_invalidated {k : TrackId} {w : Nat} {s t : State} (h : Invalidated k w s t)
    (hactive : s.tracks[k].state.active = true) {e : Entry} (he : e ∈ t.tracks[k].held) :
    touchesEntry s k w e = false := by
  obtain ⟨hleft, hdiscards⟩ := h
  cases hfind : s.tracks[k].held.find? (touchesEntry s k w) with
  | none =>
    have hfree : ∀ e ∈ s.tracks[k].held, touchesEntry s k w e = false := by simpa using hfind
    rw [hleft (.inr hfree)] at he
    exact hfree e he
  | some x =>
    obtain ⟨hx, before, behind, hheld, hfree⟩ := List.find?_eq_some_iff_append.1 hfind
    have hfree : ∀ b ∈ before, touchesEntry s k w b = false := by simpa using hfree
    obtain ⟨hbehind, hhead⟩ := hdiscards before x behind hactive hheld hfree hx
    refine hfree e ?_
    by_cases hbefore : before = []
    · rw [(hhead hbefore).1] at he; exact he
    · rw [hbehind hbefore] at he; exact he

/-! ### The store outside the control block (R159) -/

/-- R159: of all that no discard touches the store changes memory alone. -/
theorem plainStore_besidePrefetch (a : HostAccess) (s : State) : (plainStore a s).besidePrefetch
    = (s.setMem (writeLanes s.mem a.word.toNat a.lanes a.data)).besidePrefetch := invalidateEntries_besidePrefetch ..

/-- The lanes reach memory before the store is handed to the tracks, which do not look at it. -/
theorem plainStore_invalidated (a : HostAccess) (s : State) (k : TrackId) :
    Invalidated k a.word.toNat s (plainStore a s) :=
  invalidated_congr (s := s.setMem (writeLanes s.mem a.word.toNat a.lanes a.data))
    (invalidateEntries_invalidated a.word.toNat _ k) rfl rfl

/-- The granted store of a row outside the control block is performed as a plain one. -/
theorem exec_hostStore_plain {s : State} {a : HostAccess} (line : Int) (h : grantedHost s .store = some a)
    (hlanes : a.lanes ≠ 0) (hout : inBlock s a.word = false) :
    exec (.hostStore line) s = .next (plainStore a (clearHost s)) := by
  have heffect : storeEffect a line (clearHost s) = plainStore a (clearHost s) := by
    unfold storeEffect
    rw [if_neg hlanes, show inBlock (clearHost s) a.word = false from hout]
    rfl
  rw [← heffect]
  change Host.Outcome.next (withHost .store (fun a s => storeEffect a line s) s) = _
  unfold withHost
  rw [h]

/-- Settles O10: the lanes reach memory first, then each track discards what it holds of the word. -/
theorem storeOutsideTheBlockWritesItsLanes : Obligations.StoreOutsideTheBlockWritesItsLanes := by
  intro s a line hwf hgrant hlanes hout
  have hkept := plainStore_besidePrefetch a (clearHost s)
  have hinv (k : TrackId) : Invalidated k a.word.toNat s (plainStore a (clearHost s)) :=
    invalidated_congr (plainStore_invalidated a (clearHost s) k) rfl rfl
  refine ⟨_, exec_hostStore_plain line hgrant hlanes hout, ?_⟩
  generalize plainStore a (clearHost s) = t at hkept hinv ⊢
  simp only [State.besidePrefetch, State.besideTracks, State.bus, Prod.mk.injEq] at hkept
  obtain ⟨⟨⟨-, hmem, hpath⟩, hnests, hsupplies, hrails, hcapture, hinputs, hchecks⟩, houtputs, hclaims, -, hposted⟩ :=
    hkept
  refine ⟨fun i hi => ?_, fun x hx => ?_, hpath, fun k e hactive he => untouched_of_invalidated (hinv k) hactive he,
    hinv, hnests, hsupplies, hrails, houtputs, hclaims, hcapture, hinputs, hchecks, hposted⟩
  · rw [hmem]; exact readByte_writeLanes a.word.toNat a.lanes a.data i hi hwf
  · rw [hmem]; exact readByte_writeLanes_ne s.mem a.word.toNat a.lanes a.data x (hx 0 Nat.one_pos)

end Sys2Proof.Machine
end

section
/-! SUPPORT. The stimulus outputs by their numbers, and the release of claims by a track that halts (R46, R47, R64); and
the extension of a track (R65). -/
namespace Sys2Proof.Machine

open Stated

/-! ### The outputs of a nest by their numbers in the claim map (R46, R47) -/

/-- The value of output o: of a pulse output, a level output or a discrete line. -/
def Outputs.value (x : Outputs) (o : Fin 16) : Pulse ⊕ Nat ⊕ Bool :=
  if h : o.val < 4 then .inl x.pulse[o.val]
  else if h : o.val < 8 then .inr (.inl x.level[o.val - 4])
  else .inr (.inr x.line[o.val - 8])

section
variable (x : Outputs)

theorem value_pulse (k : Fin 4) : x.value ⟨k.val, by omega⟩ = .inl x.pulse[k] := dif_pos k.isLt

theorem value_level (k : Fin 4) : x.value ⟨4 + k.val, by omega⟩ = .inr (.inl x.level[k]) := by
  simp [Outputs.value, show ¬ 4 + k.val < 4 by omega, show 4 + k.val < 8 by omega]

theorem value_line (k : Fin 8) : x.value ⟨8 + k.val, by omega⟩ = .inr (.inr x.line[k]) := by
  simp [Outputs.value, show ¬ 8 + k.val < 4 by omega, show ¬ 8 + k.val < 8 by omega]
end

theorem modOutputs_get (n : NestId) (f : Outputs → Outputs) (s : State) (j : NestId) :
    (s.modOutputs n f).outputs[j] = if j = n then f s.outputs[n] else s.outputs[j] := by
  simp only [modOutputs_outputs, Fin.getElem_fin, Vector.getElem_set, ← Fin.ext_iff, eq_comm]

theorem modHolders_get (n : NestId) (f : Vector Bool 8 → Vector Bool 8) (s : State) (j : NestId) :
    (s.modHolders n f).frameHolders[j] = if j = n then f s.frameHolders[n] else s.frameHolders[j] := by
  simp only [modHolders_frameHolders, Fin.getElem_fin, Vector.getElem_set, ← Fin.ext_iff, eq_comm]

/-- R47: the output named goes to its idle value, every other output keeps its value. -/
theorem idleOutput_value (m n : NestId) (j o : Fin 16) (s : State) : (idleOutput m j s).outputs[n].value o =
    if n = m ∧ o = j then Outputs.idle.value o else s.outputs[n].value o := by
  unfold idleOutput
  rw [modOutputs_get]
  by_cases hn : n = m
  · subst hn
    unfold Outputs.value
    rw [if_pos rfl]
    by_cases ho : o = j
    · subst ho
      split_ifs <;> simp [Outputs.idle]
    · have hne : j.val ≠ o.val := fun h => ho (Fin.ext h.symm)
      simp only [ho, and_false, if_false]
      split_ifs <;> simp [Vector.getElem_set] <;> intro <;> omega
  · simp [hn]

/-- A track whose claimed outputs alone have gone to their idle values, output by output. -/
theorem claimedIdle_of_value {t : TrackId} {s u : State}
    (h : ∀ n o, u.outputs[n].value o =
      if s.claims[claimOf n o] = some t then Outputs.idle.value o else s.outputs[n].value o) : ClaimedIdle t s u := by
  intro n
  refine ⟨fun k => ?_, fun k => ?_, fun k => ?_⟩
  · have hk := h n ⟨k.val, by omega⟩
    simp only [value_pulse, ← apply_ite Sum.inl] at hk
    simpa [Outputs.idle] using Sum.inl.inj hk
  · have hk := h n ⟨4 + k.val, by omega⟩
    simp only [value_level, ← apply_ite Sum.inl, ← apply_ite Sum.inr] at hk
    simpa [Outputs.idle] using Sum.inl.inj (Sum.inr.inj hk)
  · have hk := h n ⟨8 + k.val, by omega⟩
    simp only [value_line, ← apply_ite Sum.inr] at hk
    simpa [Outputs.idle] using Sum.inr.inj (Sum.inr.inj hk)

/-! ### The release of claims (R46, R75) -/

/-- One output of the loop over the outputs that track t claims. -/
def idleIfClaimed (t : TrackId) (n : NestId) (o : Fin 16) (s : State) : State :=
  if s.claims[claimOf n o] = some t then idleOutput n o s else s

theorem idleClaimed_eq (t : TrackId) (s : State) :
    idleClaimed t s = s.forEach allNests fun n s => s.forEach (List.finRange 16) (idleIfClaimed t n) := rfl

/-- The claims, and what output o of nest n shows. -/
def State.outputOf (n : NestId) (o : Fin 16) (s : State) := (s.claims, s.outputs[n].value o)

/-- Every other output is left. -/
theorem idleIfClaimed_outputOf {m n : NestId} {j o : Fin 16} (h : ¬ (n = m ∧ o = j)) (t : TrackId) (s : State) :
    (idleIfClaimed t m j s).outputOf n o = s.outputOf n o := by
  unfold idleIfClaimed State.outputOf
  split
  · rw [idleOutput_value, if_neg h]; rfl
  · rfl

/-- R47, R64: the outputs that the track claims go to their idle values, and no other. -/
theorem idleClaimed_value (t : TrackId) (s : State) (n : NestId) (o : Fin 16) :
    (idleClaimed t s).outputs[n].value o =
      if s.claims[claimOf n o] = some t then Outputs.idle.value o else s.outputs[n].value o := by
  obtain ⟨u, hu, hloop⟩ := forEach_once (p := State.outputOf n o) (a := n)
    (f := fun n s => s.forEach (List.finRange 16) (idleIfClaimed t n))
    (fun m s hm => forEach_keeps _ _ (fun j s => idleIfClaimed_outputOf (fun h => hm h.1.symm) t s) _ s)
    (l := allNests) (by decide) (mem_allNests n) s
  obtain ⟨v, hv, hstep⟩ := forEach_once (p := State.outputOf n o) (f := idleIfClaimed t n) (a := o)
    (fun j s hj => idleIfClaimed_outputOf (fun h => hj h.2.symm) t s) (List.nodup_finRange 16) (List.mem_finRange o) u
  obtain ⟨hclaims, hvalue⟩ := Prod.mk.inj (hv.trans hu)
  rw [idleClaimed_eq, ← hclaims, ← hvalue, (Prod.mk.inj (hloop.trans hstep)).2]
  unfold idleIfClaimed
  split
  · rw [idleOutput_value, if_pos ⟨rfl, rfl⟩]
  · rfl

/-- What idling outputs leaves: who claims what, and the ports with their stall lists. -/
def State.claimSide (s : State) := (s.claims, s.frameHolders, s.ports)

theorem idleClaimed_claimSide (t : TrackId) (s : State) : (idleClaimed t s).claimSide = s.claimSide :=
  forEach_keeps State.claimSide _ (fun n s => forEach_keeps State.claimSide _ (fun o s => by split <;> rfl) _ s) _ s

/-- What taking a track off the stall lists leaves: the outputs and who claims them. -/
def State.outputSide (s : State) := (s.outputs, s.claims, s.frameHolders)

theorem unstall_outputSide (t : TrackId) (s : State) : (unstall t s).outputSide = s.outputSide :=
  forEach_keeps State.outputSide _ (fun _ s => (rfl : (State.modPort s _ _).outputSide = _)) allNests s

/-- What releasing claims leaves: the outputs and the ports. -/
theorem releaseClaims_outputs_ports (t : TrackId) (s : State) :
    ((releaseClaims t s).outputs, (releaseClaims t s).ports) = (s.outputs, s.ports) :=
  forEach_keeps (fun s => (s.outputs, s.ports)) _
    (fun n s => (rfl : ((s.modHolders n _).outputs, (s.modHolders n _).ports) = _)) allNests (s.setClaims _)

theorem releaseClaims_claims (t : TrackId) (s : State) (o : Fin 32) :
    (releaseClaims t s).claims[o] = if s.claims[o] = some t then none else s.claims[o] := by
  have hkept : (releaseClaims t s).claims = s.claims.map fun o => if o = some t then none else o :=
    forEach_keeps State.claims _ (fun n s => modHolders_claims s n _) allNests _
  rw [hkept]; simp

theorem releaseClaims_frameHolders (t : TrackId) (s : State) (n : NestId) :
    (releaseClaims t s).frameHolders[n] = s.frameHolders[n].set t false :=
  (forEach_table (t := fun s (n : NestId) => s.frameHolders[n]) (fun n s j => modHolders_get n _ s j) allNests
    (by decide) _ n).trans (if_pos (mem_allNests n))

/-- R75: the track leaves the stall lists of both ports. -/
theorem unstall_ports (t : TrackId) (s : State) (p : NestId) :
    (unstall t s).ports[p] = { s.ports[p] with stall := s.ports[p].stall.filter fun u => u != t } :=
  (forEach_table (t := fun s (p : NestId) => s.ports[p]) (fun p s j => modPort_get p _ s j) allNests (by decide) s
    p).trans (if_pos (mem_allNests p))

/-! ### The halt of a track (R64) -/

section
variable (c : TrackCause) (t : TrackId) (s : State)

/-- The outputs are idled while the claims still stand, and the claims are released after. -/
theorem released_claimsReleased : ClaimsReleased t s (released t s) := by
  have hstall := unstall_outputSide t (releaseClaims t (idleClaimed t s))
  have hidle := idleClaimed_claimSide t s
  simp only [State.outputSide, State.claimSide, Prod.mk.injEq] at hstall hidle
  obtain ⟨-, hclaims, hholders⟩ := hstall
  obtain ⟨hclaims', hholders', -⟩ := hidle
  unfold ClaimsReleased released
  rw [hclaims, hholders]
  simp only [releaseClaims_claims, releaseClaims_frameHolders, hclaims', hholders', implies_true, and_self]

theorem released_claimedIdle : ClaimedIdle t s (released t s) := by
  have houtputs : (released t s).outputs = (idleClaimed t s).outputs :=
    (Prod.mk.inj (unstall_outputSide t _)).1.trans (Prod.mk.inj (releaseClaims_outputs_ports t _)).1
  exact claimedIdle_of_value fun n o => by rw [houtputs]; exact idleClaimed_value t s n o

theorem released_ports (p : NestId) : (released t s).ports[p] =
    { s.ports[p] with stall := s.ports[p].stall.filter fun j => j != t } := by
  have hidle := idleClaimed_claimSide t s
  simp only [State.claimSide, Prod.mk.injEq] at hidle
  obtain ⟨-, -, hports⟩ := hidle
  unfold released
  rw [unstall_ports, (Prod.mk.inj (releaseClaims_outputs_ports t _)).2, hports]

/-- Of outputs, claims and ports a halt changes what it releases. -/
theorem haltTrack_released : (haltTrack c t s).outputs = (released t s).outputs
    ∧ (haltTrack c t s).claims = (released t s).claims ∧ (haltTrack c t s).frameHolders = (released t s).frameHolders
    ∧ (haltTrack c t s).ports = (released t s).ports := by
  rw [haltTrack_eq]
  generalize released t s = u
  dsimp only
  rw [postEvent_eq]
  exact ⟨rfl, rfl, rfl, rfl⟩

/-- The event of a halt is offered as the track stood before it. -/
theorem haltTrack_posted :
    Posted (evTrackHalted (trackNest s t) t c s.tracks[t].played) s (haltTrack c t s) := by
  have hkept := released_besideClaims t s
  have hbeside := besideRails_of_tracks (besideTracks_of_claims hkept)
  have hpath := path_of_besideRails hbeside
  have hnests := nests_of_besideRails hbeside
  have htracks := tracks_of_claims hkept
  have hpost := post_of_claims hkept
  rw [haltTrack_eq]
  generalize released t s = u at hpath hnests htracks hpost ⊢
  dsimp only
  rw [modTrack_get, if_pos rfl, htracks, trackNest_congr ((modTrack_path u t _).trans hpath)]
  exact posted_offer (posted_congr (s := u.modTrack t fun x => x.halted c) (posted_postEvent _ _) hpost.symm hpath.symm
    hnests.symm) ..
end

/-- R64, R66: track t of state s has halted with a cause, and its status is offered as the record then stands. -/
structure TrackHalted (c : TrackCause) (t : TrackId) (s u : State) : Prop where
  tracks : u.tracks = s.tracks.set t (s.tracks[t].halted c)
  claims : ClaimsReleased t s u
  outputs : ClaimedIdle t s u
  ports : ∀ p : NestId, u.ports[p] = { s.ports[p] with stall := s.ports[p].stall.filter fun j => j != t }
  event : Posted (evTrackHalted (trackNest s t) t c s.tracks[t].played) s u
  place : (Place.track t, trackStatus u.tracks[t]) ∈ u.post.places
  beside : u.besideTracks = s.besideTracks

theorem haltTrack_halted (c : TrackCause) (t : TrackId) (s : State) : TrackHalted c t s (haltTrack c t s) := by
  obtain ⟨houtputs, hclaims, hholders, hports⟩ := haltTrack_released c t s
  refine ⟨?_, ?_, ?_, fun p => ?_, haltTrack_posted c t s, ?_, haltTrack_besideTracks c t s⟩
  · rw [haltTrack_eq]
    dsimp only
    rw [offerTrack_tracks, postEvent_tracks, modTrack_tracks, tracks_of_claims (released_besideClaims t s)]
  · unfold ClaimsReleased
    rw [hclaims, hholders]
    exact released_claimsReleased t s
  · unfold ClaimedIdle
    rw [houtputs]
    exact released_claimedIdle t s
  · rw [hports, released_ports]
  · rw [haltTrack_eq]; exact offerTrack_place t _

/-! ### The actions (R64, R65) -/

theorem onTrack_val (act : TrackId → State → Except Reason State) (t : TrackId) (s : State) :
    onTrack act t.val s = act t s := by
  unfold onTrack; exact dif_pos t.isLt

/-- R165: the result of an action leaves the places of tracks. -/
theorem mem_offerResult_track {k : SlotId} {w : Word} {r : Option Reason} {t : TrackId} {v : List Word} {s : State}
    (h : (Place.track t, v) ∈ s.post.places) : (Place.track t, v) ∈ (offerResult k w r s).post.places :=
  (mem_upsertPlace_of_ne (by simp) _ _ _).2 h

section
variable {t : TrackId} {s : State} (opd : Nat)

theorem actTrackStop_idle (h : s.tracks[t].state = .idle) : actTrackStop t.val opd s = .error .wrongState := by
  unfold actTrackStop; rw [onTrack_val]; simp only [h]

/-- A track that has ended stays as it is. -/
theorem actTrackStop_ended (h : s.tracks[t].state ≠ .idle) (hended : s.tracks[t].state.active = false) :
    actTrackStop t.val opd s = .ok s := by
  unfold actTrackStop
  rw [onTrack_val]
  obtain ⟨x, hx⟩ : ∃ x, s.tracks[t].state = x := ⟨_, rfl⟩
  simp only [hx] at h hended ⊢
  cases x with
  | done | halted | faulted => rfl
  | idle => exact absurd rfl h
  | priming | running | suspending | suspended => cases hended

theorem actTrackStop_active (h : s.tracks[t].state.active = true) :
    ∃ u, actTrackStop t.val opd s = .ok u ∧ TrackHalted .stop t s u := by
  refine ⟨haltTrack .stop t s, ?_, haltTrack_halted .stop t s⟩
  unfold actTrackStop
  rw [onTrack_val]
  obtain ⟨x, hx⟩ : ∃ x, s.tracks[t].state = x := ⟨_, rfl⟩
  simp only [hx] at h ⊢
  cases x with
  | priming | running | suspending | suspended => rfl
  | idle | done | halted | faulted => cases h
end

/-- R65: the tests of TRACK_EXTEND on the record of a track, in order. -/
def extendRefusal (x : Track) (operand : Nat) : Option Reason :=
  if operand = 0 then some .badOperand
  else if x.state = .done then some .done
  else if x.state.active = false then some .wrongState
  else if 16777215 < x.total + operand then some .overflow
  else none

/-- An operand has 16 bits, and so is no greater than 65,535. -/
theorem wordOperand_lt (w : Word) : wordOperand w < 65536 := Nat.mod_lt _ (by decide)

section
variable {t : TrackId} {s : State} {operand : Nat} (hopd : operand < 65536)
include hopd

theorem actTrackExtend_eq : actTrackExtend t.val operand s = (extendRefusal s.tracks[t] operand).elim
    (.ok (changeTrack t (fun x => { x with total := x.total + operand }) s)) .error := by
  have hbound : ¬ 65535 < operand := by omega
  unfold actTrackExtend extendRefusal
  rw [onTrack_val]
  simp only [hbound, or_false, Bool.not_eq_true']
  split_ifs <;> rfl

theorem actTrackExtend_refused {r : Reason} (h : extendRefusal s.tracks[t] operand = some r) :
    actTrackExtend t.val operand s = .error r := by
  rw [actTrackExtend_eq hopd, h]; rfl

theorem actTrackExtend_accepted (h : extendRefusal s.tracks[t] operand = none) :
    actTrackExtend t.val operand s
      = .ok (changeTrack t (fun x => { x with total := x.total + operand }) s) := by
  rw [actTrackExtend_eq hopd, h]; rfl
end

/-- Settles O33: a stopped track is halted whole, and an extension changes its total alone. -/
theorem stopHaltsAndExtendLengthens : Obligations.StopHaltsAndExtendLengthens := by
  intro s k a t x
  refine ⟨fun hg => ?_, fun hg => ?_⟩
  · by_cases hidle : x.state = .idle
    · rw [if_pos hidle]
      exact answers_of_error rfl hg (actTrackStop_idle (s := writeAction a (clearHost s)) _ hidle)
    · rw [if_neg hidle]
      cases hactive : x.state.active with
      | false =>
        refine answers_of_ok rfl hg (actTrackStop_ended (s := writeAction a (clearHost s)) _ hidle hactive) rfl ?_
        exact ⟨fun _ => ⟨rfl, rfl, rfl, rfl, rfl, rfl⟩, nofun, rfl, ⟨rfl, rfl, rfl, rfl⟩, ⟨rfl, rfl, rfl, rfl, rfl⟩⟩
      | true =>
        obtain ⟨u, hact, hhalted⟩ := actTrackStop_active (s := writeAction a (clearHost s)) (wordOperand a.data) hactive
        obtain ⟨htracks, hclaims, houtputs, hports, hevent, hplace, hbeside⟩ := hhalted
        simp only [State.besideTracks, State.bus, Prod.mk.injEq] at hbeside
        obtain ⟨⟨-, -, hpath⟩, hnests, hsupplies, hrails, hcapture, hinputs, hchecks⟩ := hbeside
        refine answers_of_ok rfl hg hact (by rw [hpath]; rfl)
          ⟨nofun, fun _ => ?_, hcapture, ⟨hnests, hsupplies, hrails, hinputs⟩, hchecks⟩
        exact ⟨htracks, hclaims, houtputs, hports, hevent, mem_offerResult_track hplace⟩
  · change Answers _ _ _ _ (extendRefusal x (wordOperand a.data)) _
    cases hr : extendRefusal x (wordOperand a.data) with
    | some r =>
      exact answers_of_error rfl hg
        (actTrackExtend_refused (s := writeAction a (clearHost s)) (wordOperand_lt _) hr)
    | none =>
      refine answers_of_ok rfl hg
        (actTrackExtend_accepted (s := writeAction a (clearHost s)) (wordOperand_lt _) hr) rfl ?_
      exact ⟨rfl, rfl, rfl, rfl, ⟨rfl, rfl, rfl, rfl⟩, ⟨rfl, rfl, rfl, rfl, rfl⟩, ⟨rfl, rfl⟩⟩

end Sys2Proof.Machine
end

section
/-! SUPPORT. Reception and capture (R81 to R84, R113): what a frame of the DUT makes of the slot of the first filter that
it matches, and of the checks that are fed from that slot. -/
namespace Sys2Proof.Machine

open Stated

/-! ### The feeding of SIGNATURE checks (R84, R113) -/

/-- Every block but capture slots and checks. -/
def State.besideCapture (s : State) :=
  (s.bus, s.nests, s.supplies, s.rails, s.inputs, s.tracks, s.outputs, s.claims, s.frameHolders, s.ports, s.unposted,
    s.nodes, s.link, s.prompts, s.post)

@[simp] theorem modCheck_besideCapture (s : State) (c : CheckId) (f : Check → Check) :
    (s.modCheck c f).besideCapture = s.besideCapture := rfl
@[simp] theorem modCapture_besideCapture (s : State) (i : CaptureId) (f : Capture → Capture) :
    (s.modCapture i f).besideCapture = s.besideCapture := rfl

@[simp] theorem feedSignatures_besideCapture (n : NestId) (j : Fin 16) (payload : List Byte) (s : State) :
    (feedSignatures n j payload s).besideCapture = s.besideCapture := by
  unfold feedSignatures
  exact forEach_keeps State.besideCapture _ (fun c s => by split <;> simp) _ _

theorem capture_of_plant {s t : State} (h : s.plant = t.plant) : s.capture = t.capture :=
  congrArg (fun p => p.1.2.2.2.2.2.2.2) h

/-- R84, R113: what a frame with these bytes in slot j of nest n makes of the record of check c, which the configuration
of state s describes. -/
def fedCheck (n : NestId) (j : Fin 16) (payload : List Byte) (s : State) (c : CheckId) (k : Check) : Check :=
  if k.state = .sampling ∧ checkNest s c = n ∧ checkKind s c = some .signature ∧ sourceSlot s c = some j then
    { k with
      fed := satAdd max32 k.fed 1
      signature := signatureFrame (signatureWidth s c) (polynomial s c) k.signature payload }
  else k

/-- The configuration of a check is in the shadow, which the feeding leaves. -/
@[simp] theorem fedCheck_modCheck (n : NestId) (j : Fin 16) (payload : List Byte) (s : State) (c : CheckId)
    (f : Check → Check) : fedCheck n j payload (s.modCheck c f) = fedCheck n j payload s := rfl

theorem feedSignatures_get (n : NestId) (j : Fin 16) (payload : List Byte) (s : State) (c : CheckId) :
    (feedSignatures n j payload s).checks[c] = fedCheck n j payload s c s.checks[c] := by
  unfold feedSignatures
  refine (forEach_table_under (t := fun s (c : CheckId) => s.checks[c]) (p := fedCheck n j payload) (f := fun g => g)
    (fun i s => by split <;> simp) (fun i s k => ?_) allChecks (List.nodup_finRange 64) s c).trans
    (if_pos (List.mem_finRange c))
  unfold fedCheck
  split
  · exact modCheck_get i _ s k
  · by_cases hk : k = i
    · rw [if_pos hk, hk]
    · rw [if_neg hk]

/-! ### The slot update (R83) -/

section
variable {x : Capture} (f : DutFrame) (arrival : Clock)

/-- The first frame since the base was cleared begins a period and ends none. -/
theorem Capture.update_periods_of_first (h : x.base = none) :
    (x.update f arrival).lastPeriod = x.lastPeriod ∧ (x.update f arrival).minPeriod = x.minPeriod
      ∧ (x.update f arrival).maxPeriod = x.maxPeriod := by
  simp [Capture.update, h]

/-- A later frame ends a period, which is the last, and the least or the greatest where it passes the old one. -/
theorem Capture.update_periods_of_next {b : Clock} (h : x.base = some b) :
    (x.update f arrival).lastPeriod = some (arrival - b)
      ∧ (x.update f arrival).minPeriod
          = some (match x.minPeriod with
              | none => arrival - b
              | some o => if arrival - b < o then arrival - b else o)
      ∧ (x.update f arrival).maxPeriod
          = some (match x.maxPeriod with
              | none => arrival - b
              | some o => if o < arrival - b then arrival - b else o) := by
  unfold Capture.update
  rw [h]
  refine ⟨rfl, ?_, ?_⟩
  · cases x.minPeriod with
    | none => rfl
    | some o => simp only [Option.map_some, decide_eq_true_eq, apply_ite some]
  · cases x.maxPeriod with
    | none => rfl
    | some o => simp only [Option.map_some, decide_eq_true_eq, apply_ite some]

theorem Capture.update_payload (i : Fin 8) :
    (x.update f arrival).payload[i] = if i.val < f.length then f.payload[i] else 0 := by
  simp [Capture.update]
end

/-! ### The first matching filter (R82) -/

section
variable {n : NestId} {f : DutFrame} {s : State}

theorem captureFrame_of_noMatch (h : ∀ j, filterMatches s n f j = false) : captureFrame n f s = s := by
  unfold captureFrame
  rw [← Fin.find?_eq_find?_finRange, Fin.find?_eq_none_iff.2 h]

theorem captureFrame_of_first {j : Fin 16} (hj : filterMatches s n f j = true)
    (hfirst : ∀ i < j, filterMatches s n f i = false) :
    captureFrame n f s = feedSignatures n j (frameBytes f)
      (s.modCapture (captureOf n j) fun x => x.update f s.nests[n].clock) := by
  unfold captureFrame
  rw [← Fin.find?_eq_find?_finRange, Fin.find?_eq_some_iff.2 ⟨hj, hfirst⟩]
end

theorem captureFrame_besideCapture (n : NestId) (f : DutFrame) (s : State) :
    (captureFrame n f s).besideCapture = s.besideCapture := by
  unfold captureFrame
  split <;> simp

/-! ### The reception of a frame (R81) -/

/-- The port with the acknowledgement that it drives on the bus. -/
def acknowledged (p : NestId) (heard : Bool) (s : State) : State := s.modPort p fun x => { x with ackDriven := heard }

theorem hears_eq (x : Port) (f : DutFrame) :
    hears x f = (decide (x.state ≠ .off) && f.intact && decide (f.length ≤ 8) && !f.cut) := by
  have hstate : (x.state != .off) = decide (x.state ≠ .off) := by rw [Bool.eq_iff_iff]; simp
  unfold hears frameSound
  rw [hstate, ← Bool.and_assoc (decide (x.state ≠ .off))]

section
variable {p : NestId} {f : DutFrame} {s : State}

theorem receiveFrame_heard (h : hears s.ports[p] f = true) :
    receiveFrame p f s = captureFrame p f (acknowledged p true s) := by
  unfold receiveFrame; rw [h]; rfl

theorem receiveFrame_unheard (h : hears s.ports[p] f = false) : receiveFrame p f s = acknowledged p false s := by
  unfold receiveFrame; rw [h]; rfl

variable (p f s) in
/-- Beside capture slots and checks a reception changes the acknowledgement alone. -/
theorem receiveFrame_besideCapture :
    (receiveFrame p f s).besideCapture = (acknowledged p (hears s.ports[p] f) s).besideCapture := by
  cases h : hears s.ports[p] f with
  | false => rw [receiveFrame_unheard h]
  | true => rw [receiveFrame_heard h, captureFrame_besideCapture]

/-- A frame that is not heard, or that no filter matches, is captured by no slot and fed to no check. -/
theorem receiveFrame_of_ignored (h : hears s.ports[p] f = false ∨ ∀ j, filterMatches s p f j = false) :
    receiveFrame p f s = acknowledged p (hears s.ports[p] f) s := by
  cases hheard : hears s.ports[p] f with
  | false => exact receiveFrame_unheard hheard
  | true =>
    have hnone := h.resolve_left (ne_false_of_eq_true hheard)
    exact (receiveFrame_heard hheard).trans (captureFrame_of_noMatch (s := acknowledged p true s) hnone)

section
variable (hheard : hears s.ports[p] f = true) {j : Fin 16} (hj : filterMatches s p f j = true)
  (hfirst : ∀ i < j, filterMatches s p f i = false)
include hheard hj hfirst

theorem receiveFrame_of_first : receiveFrame p f s = feedSignatures p j (frameBytes f)
    ((acknowledged p true s).modCapture (captureOf p j) fun x => x.update f s.nests[p].clock) :=
  (receiveFrame_heard hheard).trans (captureFrame_of_first (s := acknowledged p true s) hj hfirst)

/-- R83: the slot of the first matching filter takes the frame, and no other slot does. -/
theorem receiveFrame_capture (i : CaptureId) : (receiveFrame p f s).capture[i] =
    if i = captureOf p j then s.capture[captureOf p j].update f s.nests[p].clock else s.capture[i] := by
  rw [receiveFrame_of_first hheard hj hfirst, capture_of_plant (feedSignatures_plant ..), modCapture_get]
  rfl

/-- R84: each check takes the frame as its source slot has it. -/
theorem receiveFrame_checks (c : CheckId) :
    (receiveFrame p f s).checks[c] = fedCheck p j (frameBytes f) s c s.checks[c] := by
  rw [receiveFrame_of_first hheard hj hfirst, feedSignatures_get]
  rfl
end
end

/-- Settles O41: a reception is the acknowledgement alone where the frame is not heard or matches no filter; otherwise
the first matching filter's slot is updated and its SIGNATURE checks are fed. -/
theorem firstMatchingFilterCapturesTheFrame : Obligations.FirstMatchingFilterCapturesTheFrame := by
  intro s p f heard
  have hhears : hears s.ports[p] f = heard := hears_eq ..
  have hbeside := receiveFrame_besideCapture p f s
  rw [hhears] at hbeside
  simp only [State.besideCapture, State.bus, Prod.mk.injEq] at hbeside
  obtain ⟨⟨-, hmem, hpath⟩, hnests, hsupplies, hrails, hinputs, htracks, houtputs, -, -, hports, -, hnodes,
    hlink, hprompts, hpost⟩ := hbeside
  refine ⟨receiveFrame p f s, rfl, hports, fun hignored => ?_, fun j hheard hj hfirst => ?_, htracks, houtputs,
    ⟨hnests, hsupplies, hrails, hinputs⟩, hlink, hprompts, hnodes, ?_, hmem, hpath⟩
  · rw [receiveFrame_of_ignored (by rwa [hhears])]
    exact ⟨rfl, rfl⟩
  · have hslot := receiveFrame_capture (hhears.trans hheard) hj hfirst
    have htaken := (hslot (captureOf p j)).trans (if_pos rfl)
    rw [htaken]
    refine ⟨fun i hi => (hslot i).trans (if_neg hi), rfl, rfl, Capture.update_payload f _, rfl,
      Capture.update_periods_of_first f _, fun b hb => Capture.update_periods_of_next f _ hb,
      receiveFrame_checks (hhears.trans hheard) hj hfirst⟩
  · exact ⟨congrArg Post.fifo hpost, congrArg Post.lost hpost⟩

end Sys2Proof.Machine
end

section
/-! SUPPORT. The AFTER chain of a decision (R105): what every step of the chain keeps, the chain keeps; and what it makes of
the checks that wait for the decision. -/
namespace Sys2Proof.Machine

open Stated

/-! ### Induction over a decision with its chain -/

/-- The waiting list of nest n is cut down to `rest`. -/
def dequeue (n : NestId) (rest : List Arming) (s : State) : State := s.modPrompt n fun p => { p with waiting := rest }

/-- P is kept by each step of a chain, where the checks in `ok` are the ones decided and started. The conditions under
which a step is made stand with it. -/
structure KeptByChain (ok : CheckId → Prop) (P : State → Prop) : Prop where
  record : ∀ {e d s}, ok e → P s → P (recordDecision e d s)
  start : ∀ {e s}, ok e → s.checks[e].state = .armed → P s → P (startCheck e s).1
  passed : ∀ {n : NestId} {a rest} {s : State}, s.prompts[n].state = .free → s.prompts[n].waiting = a :: rest → P s →
    P (dequeue n rest s)
  opened : ∀ {n : NestId} {a rest d} {s : State}, s.prompts[n].state = .free → readyPanel s n = some d →
    P (dequeue n rest s) → P (openPrompt n a d (dequeue n rest s))
  asked : ∀ {e s}, P s → s.checks[e].state = .prompting ∨ s.checks[e].state = .promptWait → ok e
  follows : ∀ {a e p s}, ok a → P s → waitsAfter s a e = some p → ok e

/-- R146: the head of a list is taken only into a FREE context; it is decided, or opened on the ready panel. -/
theorem takeHead_cases {decide : CheckId → Decision → State → State} {n : NestId} {s t : State}
    (h : takeHead decide n s = some t) : ∃ a rest, s.prompts[n].state = .free ∧ s.prompts[n].waiting = a :: rest
      ∧ (readyPanel s n = none
          ∧ t = admitOutcome decide a { verdict := .sourceFault, detail := detailPanelNotReady } (dequeue n rest s)
        ∨ ∃ d, readyPanel s n = some d ∧ t = openPrompt n a d (dequeue n rest s)) := by
  unfold takeHead at h
  split at h
  · rename_i a rest hfree hwaiting
    refine ⟨a, rest, hfree, hwaiting, ?_⟩
    dsimp only at h
    split at h <;> cases h
    · rename_i hready; exact .inl ⟨hready, rfl⟩
    · rename_i d hready; exact .inr ⟨d, hready, rfl⟩
  · cases h

/-- R105: e waits with AFTER c. -/
theorem waitsAfter_iff (s : State) (c e : CheckId) (p : Bool) : waitsAfter s c e = some p
    ↔ s.checks[e].state = .armed ∧ checkNest s e = checkNest s c ∧ checkTrigger s e = some (.after c p) := by
  unfold waitsAfter
  split
  · rename_i h
    split
    · rename_i d q htrigger
      rw [htrigger]
      constructor
      · intro hp
        split at hp
        · rename_i hd; cases hp; exact ⟨h.1, h.2, hd ▸ rfl⟩
        · cases hp
      · rintro ⟨-, -, hp⟩; cases hp; exact if_pos rfl
    · rename_i hother
      constructor
      · intro h; cases h
      · rintro ⟨-, -, htrigger⟩; exact absurd htrigger (hother c p)
  · rename_i h
    constructor
    · intro h; cases h
    · rintro ⟨harmed, hnest, -⟩; exact absurd ⟨harmed, hnest⟩ h

/-- R105: what the decision d of check c, with f levels of the chain left, does to check e. -/
def takeDependant (f : Nat) (c : CheckId) (d : Decision) (e : CheckId) (s : State) : State :=
  match waitsAfter s c e with
  | none => s
  | some passOnly =>
    if passOnly && d.verdict != .pass then decideFuel f e { verdict := .notRun, detail := d.verdict.code } s
    else beginCheck (decideFuel f) e s

theorem decideFuel_succ (f : Nat) (c : CheckId) (d : Decision) (s : State) :
    decideFuel (f + 1) c d s = (recordDecision c d s).forEach allChecks (takeDependant f c d) := rfl

theorem decideCheck_eq (c : CheckId) (d : Decision) (s : State) :
    decideCheck c d s = (recordDecision c d s).forEach allChecks (takeDependant 63 c d) := decideFuel_succ 63 c d s

section
variable {ok : CheckId → Prop} {P : State → Prop} {decide : CheckId → Decision → State → State}

theorem KeptByChain.takeHeads (h : KeptByChain ok P) (hd : ∀ {e d s}, ok e → P s → P (decide e d s)) (n : NestId)
    {s : State} (hs : P s) : P (takeHeads decide n s) := by
  unfold Machine.takeHeads
  generalize s.prompts[n].waiting.length = k
  induction k generalizing s with
  | zero => exact hs
  | succ k ih =>
    unfold takeHeadsFuel
    split
    · exact hs
    · rename_i t ht
      obtain ⟨a, rest, hfree, hwaiting, ⟨-, rfl⟩ | ⟨d, hready, rfl⟩⟩ := takeHead_cases ht
      · have hp := h.passed hfree hwaiting hs
        refine ih ?_
        unfold admitOutcome
        split
        · rename_i hasked; exact hd (h.asked hp hasked.1) hp
        · exact hp
      · exact ih (h.opened hfree hready (h.passed hfree hwaiting hs))

theorem KeptByChain.beginCheck (h : KeptByChain ok P) (hd : ∀ {e d s}, ok e → P s → P (decide e d s)) {e : CheckId}
    {s : State} (he : ok e) (harmed : s.checks[e].state = .armed) (hs : P s) : P (beginCheck decide e s) := by
  have hstart := h.start he harmed hs
  unfold Machine.beginCheck
  split <;> rename_i heq <;> rw [heq] at hstart
  · exact hd he hstart
  · split
    · exact h.takeHeads hd _ hstart
    · exact hstart

theorem KeptByChain.takeDependant (h : KeptByChain ok P) {f : Nat}
    (hd : ∀ {e d s}, ok e → P s → P (Machine.decideFuel f e d s)) {c : CheckId} (hc : ok c) (d : Decision)
    (e : CheckId) {s : State} (hs : P s) : P (takeDependant f c d e s) := by
  unfold Machine.takeDependant
  split
  · exact hs
  · rename_i passOnly hw
    have he := h.follows hc hs hw
    split
    · exact hd he hs
    · exact h.beginCheck hd he (armed_of_waitsAfter hw) hs

theorem KeptByChain.decideFuel (h : KeptByChain ok P) (f : Nat) {c : CheckId} {d : Decision} {s : State} (hc : ok c)
    (hs : P s) : P (decideFuel f c d s) := by
  induction f generalizing c d s with
  | zero => exact h.record hc hs
  | succ f ih =>
    rw [decideFuel_succ]
    exact forEach_induct P _ (fun e s hs => h.takeDependant ih hc d e hs) _ _ (h.record hc hs)

theorem KeptByChain.decideCheck (h : KeptByChain ok P) {c : CheckId} {d : Decision} {s : State} (hc : ok c)
    (hs : P s) : P (decideCheck c d s) := h.decideFuel 64 hc hs

theorem KeptByChain.triggerCheck (h : KeptByChain ok P) {c : CheckId} {s : State} (hc : ok c) (hs : P s) :
    P (triggerCheck c s) := by
  unfold Machine.triggerCheck
  split
  · rename_i harmed; exact h.beginCheck h.decideCheck hc harmed hs
  · exact hs
end

/-- A step that brings about Q from P at one element of a list, where the other steps keep P and every step keeps Q, has
brought Q about at the end. -/
theorem forEach_turns {α : Type} {P Q : State → Prop} {f : α → State → State} {a : α}
    (hP : ∀ b s, b ≠ a → P s → P (f b s)) (ha : ∀ s, P s → Q (f a s)) (hQ : ∀ b s, Q s → Q (f b s)) {l : List α}
    (hl : a ∈ l) {s : State} (hs : P s) : Q (s.forEach l f) := by
  refine forEach_reaches (P := fun s => P s ∨ Q s) (fun b s h => ?_) (fun b s _ => hQ b s) (fun s h => ?_) hl (.inl hs)
  · rcases h with h | h
    · by_cases hb : b = a
      · subst hb; exact .inr (ha s h)
      · exact .inl (hP b s hb h)
    · exact .inr (hQ b s h)
  · exact h.elim (ha s) (hQ a s)

theorem mem_allChecks (c : CheckId) : c ∈ allChecks := List.mem_finRange c

/-! ### A check that waits for another -/

theorem recordDecision_path (c : CheckId) (d : Decision) (s : State) : (recordDecision c d s).path = s.path :=
  path_of_bus (bus_of_plant (recordDecision_plant c d s))

theorem startCheck_path (c : CheckId) (s : State) : (startCheck c s).1.path = s.path :=
  path_of_bus (bus_of_plant (startCheck_plant c s))

theorem openPrompt_check {c : CheckId} {s : State} (h : s.checks[c].state ≠ .promptWait) (n : NestId) (a : Arming)
    (d : NodeId) : (openPrompt n a d s).checks[c] = s.checks[c] := by
  rw [openPrompt_checks]
  by_cases e : a.check = c
  · subst e
    have htaken : s.checks[a.check].taken a = s.checks[a.check] := if_neg fun g => h g.1
    rw [htaken]; simp
  · have hv : (a.check : Nat) ≠ c := fun g => e (Fin.ext g)
    simp [Vector.getElem_set_ne _ _ hv]

/-- The verdict v of check c stands, and check e, whose record is k, waits for c in the state s. -/
structure WaitsBehind (c : CheckId) (v : Verdict) (e : CheckId) (k : Check) (passOnly : Bool) (s t : State) : Prop where
  stands : VerdictStands c v t
  check : t.checks[e] = k
  plant : t.plant = s.plant
  armed : k.state = .armed
  trigger : checkTrigger s e = some (.after c passOnly)

section
variable {c e : CheckId} {v : Verdict} {k : Check} {passOnly : Bool} {s t : State}

theorem WaitsBehind.path (h : WaitsBehind c v e k passOnly s t) : t.path = s.path := path_of_bus (bus_of_plant h.plant)

theorem WaitsBehind.armedIn (h : WaitsBehind c v e k passOnly s t) : t.checks[e].state = .armed := by
  rw [h.check, h.armed]

theorem WaitsBehind.of_sameCheck {u : State} (h : WaitsBehind c v e k passOnly s t) (hc : SameCheck c t u)
    (he : u.checks[e] = t.checks[e]) (hplant : u.plant = t.plant) : WaitsBehind c v e k passOnly s u :=
  ⟨verdictStands_of_eq h.stands hc.1 hc.2.1 hc.2.2, he.trans h.check, hplant.trans h.plant, h.armed, h.trigger⟩

/-- R105: a check that waits for c is left by the decisions of the checks that are neither c nor itself. -/
theorem waitsBehind_keptByChain (c : CheckId) (v : Verdict) (e : CheckId) (k : Check) (passOnly : Bool) (s : State) :
    KeptByChain (fun a => a ≠ c ∧ a ≠ e) (WaitsBehind c v e k passOnly s) where
  record {a d t} ha h :=
    ⟨verdictStands_recordDecision h.stands ha.1,
      (recordDecision_check ha.2 d (by rw [h.armedIn]; decide)).trans h.check,
      (recordDecision_plant ..).trans h.plant, h.armed, h.trigger⟩
  start ha _ h := h.of_sameCheck (startCheck_sameCheck ha.1 _) (startCheck_sameCheck ha.2 _).1 (startCheck_plant ..)
  passed _ _ h := h.of_sameCheck ⟨rfl, rfl, rfl⟩ rfl rfl
  opened {n a rest d t} _ _ h :=
    h.of_sameCheck
      ⟨openPrompt_check (by rcases h.stands.settled with g | g <;> rw [g] <;> decide) n a d, openPrompt_unposted ..,
        congrArg Post.fifo (openPrompt_post ..)⟩
      (openPrompt_check (by rw [h.armedIn]; decide) n a d) (openPrompt_plant ..)
  asked {a t} h hasked := by
    constructor <;> rintro rfl
    · rcases h.stands.settled with g | g <;> rw [g] at hasked <;> simp at hasked
    · rw [h.armedIn] at hasked; simp at hasked
  follows {a b p t} ha h hw := by
    refine ⟨ne_of_waitsAfter h.stands hw, ?_⟩
    rintro rfl
    have htrigger := ((waitsAfter_iff ..).1 hw).2.2
    rw [checkTrigger_congr h.path, h.trigger] at htrigger
    cases htrigger
    exact ha.1 rfl
end

/-! ### A check that has been started -/

/-- R104: the check has left ARMED with trigger time t. -/
def Check.startedAt (k : Check) (t : Clock) : Prop := k.state ≠ .armed ∧ k.trigger = some t

section
variable {e : CheckId} {t : Clock} {s : State}

theorem modCheck_startedAt {c : CheckId} {f : Check → Check} (hstate : ∀ k, k.state ≠ .armed → (f k).state ≠ .armed)
    (htrigger : ∀ k, (f k).trigger = k.trigger) (h : s.checks[e].startedAt t) :
    (s.modCheck c f).checks[e].startedAt t := by
  rw [modCheck_get]
  split
  · rename_i heq; subst heq; exact ⟨hstate _ h.1, (htrigger _).trans h.2⟩
  · exact h

theorem takeVerdict_startedAt {u : State} (h : s.checks[e].startedAt t) (hu : takeVerdict s = some u) :
    u.checks[e].startedAt t := by
  unfold takeVerdict at hu
  split at hu
  · cases hu
  · split at hu
    · cases hu
    · split at hu
      · cases hu
        rw [setUnposted_checks]
        exact modCheck_startedAt (fun _ _ => by simp) (fun _ => rfl) h
      · cases hu

theorem recordDecision_startedAt (h : s.checks[e].startedAt t) (c : CheckId) (d : Decision) :
    (recordDecision c d s).checks[e].startedAt t :=
  takeVerdicts_induct (P := fun u => u.checks[e].startedAt t) takeVerdict_startedAt _
    (by
      rw [setUnposted_checks]
      exact modCheck_startedAt (fun _ _ => by simp) (fun _ => rfl) h)

theorem recordDecision_startedAt_self (h : s.checks[e].trigger = some t) (d : Decision) :
    (recordDecision e d s).checks[e].startedAt t :=
  takeVerdicts_induct (P := fun u => u.checks[e].startedAt t) takeVerdict_startedAt _
    (by
      rw [setUnposted_checks, modCheck_get, if_pos rfl]
      exact ⟨by simp, h⟩)

theorem openPrompt_startedAt (h : s.checks[e].startedAt t) (n : NestId) (a : Arming) (d : NodeId) :
    (openPrompt n a d s).checks[e].startedAt t := by
  by_cases hw : s.checks[e].state = .promptWait
  · have hchecks : (openPrompt n a d s).checks = (s.modCheck a.check fun k => k.taken a).checks := openPrompt_checks ..
    rw [hchecks]
    refine modCheck_startedAt (fun k hk => ?_) (fun k => ?_) h <;> unfold Check.taken <;> split
    · simp
    · exact hk
    · rfl
    · rfl
  · rwa [openPrompt_check hw]

/-- R104: a started check keeps its trigger time and is not ARMED again, whatever is decided besides. -/
theorem startedAt_keptByChain (e : CheckId) (t : Clock) :
    KeptByChain (fun _ => True) fun s => s.checks[e].startedAt t where
  record _ h := recordDecision_startedAt h ..
  start {a s} _ harmed h := by
    rwa [(startCheck_sameCheck (c := e) (e := a) (by rintro rfl; exact h.1 harmed) s).1]
  passed _ _ h := h
  opened _ _ h := openPrompt_startedAt h ..
  asked _ _ := trivial
  follows _ _ _ := trivial

/-- R104, R117: a check decided at its trigger has been started. -/
theorem decideFuel_startedAt (f : Nat) (h : s.checks[e].trigger = some t) (d : Decision) :
    (decideFuel f e d s).checks[e].startedAt t := by
  have hrecord := recordDecision_startedAt_self h d
  cases f with
  | zero => exact hrecord
  | succ f =>
    rw [decideFuel_succ]
    exact forEach_induct (fun s => s.checks[e].startedAt t) _
      (fun a s hs => (startedAt_keptByChain e t).takeDependant ((startedAt_keptByChain e t).decideFuel f) trivial d a hs)
      _ _ hrecord

theorem offerQuery_startedAt (h : s.checks[e].startedAt t) : (offerQuery e s).checks[e].startedAt t := by
  unfold offerQuery
  split
  · exact modCheck_startedAt (fun _ h => h) (fun _ => rfl) h
  · exact modCheck_startedAt (fun _ h => h) (fun _ => rfl) h

theorem endDelay_startedAt (h : s.checks[e].startedAt t) : (endDelay e s).1.checks[e].startedAt t := by
  have hsampling : (s.modCheck e fun k => { k with state := .sampling, phase := checkClock s e }).checks[e].startedAt t :=
    modCheck_startedAt (fun _ _ => by simp) (fun _ => rfl) h
  unfold endDelay
  dsimp only
  split
  · unfold takeLevelSample; split
    · exact h
    · exact modCheck_startedAt (fun _ h => h) (fun _ => rfl) h
  · unfold takeWindowSample; split
    · exact hsampling
    · exact modCheck_startedAt (fun _ h => h) (fun _ => rfl) hsampling
  · have hdue := modCheck_startedAt (c := e) (f := fun k => { k with due := none }) (fun _ h => h) (fun _ => rfl)
      hsampling
    unfold takeProfileSample; dsimp only
    split
    · exact hdue
    · repeat' split
      all_goals exact modCheck_startedAt (fun _ h => h) (fun _ => rfl) hdue
  · exact hsampling
  · exact offerQuery_startedAt (modCheck_startedAt (fun _ _ => by simp) (fun _ => rfl) h)
  all_goals exact h

theorem startDelay_startedAt (h : s.checks[e].trigger = some t) : (startDelay e s).1.checks[e].startedAt t := by
  have hdelaying : (s.modCheck e fun k => { k with state := .delaying, phase := checkClock s e }).checks[e].startedAt t := by
    rw [modCheck_get, if_pos rfl]; exact ⟨by simp, h⟩
  unfold startDelay
  dsimp only
  split
  · exact endDelay_startedAt hdelaying
  · exact hdelaying
end

/-- R104: a check that is started takes the clock as trigger time, and leaves ARMED unless it is decided at once. -/
theorem startCheck_startedAt (e : CheckId) (s : State) :
    (startCheck e s).1.checks[e].trigger = some (checkClock s e)
      ∧ (checkKind s e ≠ none → (startCheck e s).2 = none →
          (startCheck e s).1.checks[e].startedAt (checkClock s e)) := by
  have htriggered : (s.modCheck e fun k => { k with trigger := some (checkClock s e) }).checks[e].trigger
      = some (checkClock s e) := by rw [modCheck_get, if_pos rfl]
  have hdelay {u : State} (h : (startDelay e u).1.checks[e].startedAt (checkClock s e)) :
      (startDelay e u).1.checks[e].trigger = some (checkClock s e) ∧ (checkKind s e ≠ none → (startDelay e u).2 = none →
        (startDelay e u).1.checks[e].startedAt (checkClock s e)) := ⟨h.2, fun _ _ => h⟩
  unfold startCheck
  dsimp only
  split
  · exact hdelay (startDelay_startedAt htriggered)
  · exact hdelay (startDelay_startedAt htriggered)
  · exact hdelay (startDelay_startedAt htriggered)
  · split
    · rw [modCheck_get, if_pos rfl]
      exact ⟨htriggered, fun _ _ => ⟨by simp, htriggered⟩⟩
    · exact hdelay (startDelay_startedAt htriggered)
  · unfold startCharge
    split
    · exact ⟨htriggered, fun _ h => by cases h⟩
    · dsimp only
      split
      · rw [modCheck_get, if_pos rfl]
        exact ⟨htriggered, fun _ _ => ⟨by simp, htriggered⟩⟩
      · exact ⟨htriggered, fun _ h => by cases h⟩
  · exact hdelay (startDelay_startedAt (by rw [modCheck_get, if_pos rfl]; exact htriggered))
  · have hwait : ((s.modCheck e fun k => { k with trigger := some (checkClock s e) }).modCheck e fun k =>
        { k with state := .promptWait, phase := checkClock s e }).checks[e].startedAt (checkClock s e) := by
      rw [modCheck_get, if_pos rfl]; exact ⟨by simp, htriggered⟩
    exact ⟨hwait.2, fun _ _ => hwait⟩
  · rename_i hnone
    exact ⟨htriggered, fun h => absurd hnone h⟩

theorem beginCheck_startedAt {s : State} {e : CheckId} (hkind : checkKind s e ≠ none) (f : Nat) :
    (beginCheck (decideFuel f) e s).checks[e].startedAt (checkClock s e) := by
  obtain ⟨htrigger, hstarted⟩ := startCheck_startedAt e s
  unfold beginCheck
  split <;> rename_i heq <;> rw [heq] at htrigger hstarted
  · exact decideFuel_startedAt f htrigger _
  · split
    · exact (startedAt_keptByChain e _).takeHeads (fun he hs => (startedAt_keptByChain e _).decideFuel f he hs) _
        (hstarted hkind rfl)
    · exact hstarted hkind rfl

/-! ### What a decision does to the checks that wait for it -/

theorem clock_of_plant {s t : State} (h : t.plant = s.plant) (c : CheckId) : checkClock t c = checkClock s c := by
  unfold checkClock
  have hnests : t.nests = s.nests := congrArg (fun p => p.2.1) h
  simp only [hnests, checkNest_congr (path_of_bus (bus_of_plant h))]

theorem checkKind_congr {s t : State} (h : t.path = s.path) (c : CheckId) : checkKind t c = checkKind s c := by
  unfold checkKind; rw [checkWord_congr h]

section
variable {c e : CheckId} {v : Verdict} {passOnly : Bool} {s t : State}

theorem WaitsBehind.waitsAfter (h : WaitsBehind c v e s.checks[e] passOnly s t) (hnest : checkNest s e = checkNest s c) :
    waitsAfter t c e = some passOnly :=
  (waitsAfter_iff ..).2 ⟨h.armedIn, by rw [checkNest_congr h.path, checkNest_congr h.path, hnest],
    (checkTrigger_congr h.path e).trans h.trigger⟩

/-- R105: an earlier dependant of c leaves the check that waits for c too. -/
theorem WaitsBehind.takeDependant {k : Check} (h : WaitsBehind c v e k passOnly s t) {a : CheckId} (ha : a ≠ e) (f : Nat)
    (d : Decision) : WaitsBehind c v e k passOnly s (takeDependant f c d a t) := by
  have hkept := waitsBehind_keptByChain c v e k passOnly s
  unfold Machine.takeDependant
  split
  · exact h
  · rename_i p hw
    have hok : a ≠ c ∧ a ≠ e := ⟨ne_of_waitsAfter h.stands hw, ha⟩
    split
    · exact hkept.decideFuel f hok h
    · exact hkept.beginCheck (fun he hs => hkept.decideFuel f he hs) hok (armed_of_waitsAfter hw) h

/-- R105: a standing verdict stands through what the decision of a check does to its dependants. -/
theorem verdictStands_takeDependant (h : VerdictStands c v t) (f : Nat) (a e : CheckId) (d : Decision) :
    VerdictStands c v (takeDependant f a d e t) := by
  unfold takeDependant
  split
  · exact h
  · rename_i p hw
    have hne := ne_of_waitsAfter h hw
    split
    · exact verdictStands_decideFuel f h hne
    · exact verdictStands_beginCheck (fun _ _ _ h hne => verdictStands_decideFuel f h hne) h hne
end

/-- R105: after a decision, what waits for it with AFTER has been decided NOT_RUN or started. -/
theorem decideCheck_dependants {c : CheckId} {s : State} (hc : s.checks[c].state ≠ .armed) (d : Decision) :
    DependantsTaken c d s (decideCheck c d s) := by
  intro e passOnly harmed hnest htrigger
  have hne : c ≠ e := by rintro rfl; exact hc harmed
  have hbehind : WaitsBehind c (verdictOf s c d) e s.checks[e] passOnly s (recordDecision c d s) :=
    ⟨recordDecision_stands c d s, recordDecision_check hne d (by rw [harmed]; decide), recordDecision_plant ..,
      harmed, htrigger⟩
  rw [decideCheck_eq]
  constructor
  · intro hpass hverdict
    refine forEach_turns (P := WaitsBehind c (verdictOf s c d) e s.checks[e] passOnly s)
      (Q := VerdictStands e (verdictOf s e { verdict := .notRun, detail := d.verdict.code }))
      (fun a t ha ht => ht.takeDependant ha 63 d) (fun t ht => ?_)
      (fun a t ht => verdictStands_takeDependant ht 63 c a d) (mem_allChecks e) hbehind
    have hturn : takeDependant 63 c d e t = decideFuel 63 e { verdict := .notRun, detail := d.verdict.code } t := by
      unfold takeDependant
      rw [ht.waitsAfter hnest]
      exact if_pos (by simp [hpass, hverdict])
    rw [hturn, ← verdictOf_congr (besideRails_of_plant ht.plant) ht.check]
    exact decideFuel_stands 63 e _ t
  · intro hgoes hkind
    have hclock : s.nests[checkNest s c].clock = checkClock s e := by unfold checkClock; simp only [hnest]
    rw [hclock]
    refine forEach_turns (P := WaitsBehind c (verdictOf s c d) e s.checks[e] passOnly s)
      (Q := fun t => t.checks[e].startedAt (checkClock s e))
      (fun a t ha ht => ht.takeDependant ha 63 d) (fun t ht => ?_)
      (fun a t ht => (startedAt_keptByChain e _).takeDependant ((startedAt_keptByChain e _).decideFuel 63) trivial d a ht)
      (mem_allChecks e) hbehind
    have hturn : takeDependant 63 c d e t = beginCheck (decideFuel 63) e t := by
      unfold takeDependant
      rw [ht.waitsAfter hnest]
      exact if_neg (by rcases hgoes with h | h <;> simp [h])
    rw [hturn, ← clock_of_plant ht.plant]
    exact beginCheck_startedAt (by rwa [checkKind_congr ht.path]) 63

/-! ### Windows -/

theorem samePlant_of_plant {s t : State} (h : t.plant = s.plant) : SamePlant s t :=
  ⟨congrArg (fun p => p.2.1) h, congrArg (fun p => p.1.2.1) h, congrArg (fun p => p.2.2.1) h,
    congrArg (fun p => p.2.2.2) h⟩

theorem sameStimulus_of_bench {s t : State} (h : t.bench = s.bench) : SameStimulus s t :=
  ⟨congrArg (fun p => p.2.1) h, congrArg (fun p => p.2.2.1) h, congrArg (fun p => p.2.2.2.1) h,
    congrArg (fun p => p.2.2.2.2.1) h, congrArg (fun p => p.2.2.2.2.2.1) h, congrArg (fun p => p.2.2.2.2.2.2.1) h,
    congrArg (fun p => p.2.2.2.2.2.2.2) h⟩

theorem takeVerdict_nodes {s t : State} (h : takeVerdict s = some t) : t.nodes = s.nodes := by
  unfold takeVerdict at h
  split at h
  · cases h
  · split at h
    · cases h
    · split at h
      · cases h; rfl
      · cases h

theorem recordDecision_nodes (c : CheckId) (d : Decision) (s : State) : (recordDecision c d s).nodes = s.nodes :=
  takeVerdicts_induct (P := fun t => t.nodes = s.nodes) (fun hs ht => (takeVerdict_nodes ht).trans hs) _ rfl

theorem offerStep_nodes (n : NestId) (k : PromptStep) (s : State) : (offerStep n k s).nodes = s.nodes := by
  unfold offerStep; split <;> rfl

theorem openPrompt_nodes (n : NestId) (a : Arming) (d : NodeId) (s : State) :
    (openPrompt n a d s).nodes = s.nodes := offerStep_nodes ..

theorem offerQuery_nodes_prompts (c : CheckId) (s : State) :
    ((offerQuery c s).nodes, (offerQuery c s).prompts) = (s.nodes, s.prompts) := by
  unfold offerQuery; split <;> rfl

theorem endDelay_nodes_prompts (c : CheckId) (s : State) :
    ((endDelay c s).1.nodes, (endDelay c s).1.prompts) = (s.nodes, s.prompts) := by
  unfold endDelay
  dsimp only
  split
  · unfold takeLevelSample; split <;> rfl
  · unfold takeWindowSample; split <;> rfl
  · unfold takeProfileSample; dsimp only; repeat' split
    all_goals rfl
  · rfl
  · exact offerQuery_nodes_prompts ..
  all_goals rfl

theorem startDelay_nodes_prompts (c : CheckId) (s : State) :
    ((startDelay c s).1.nodes, (startDelay c s).1.prompts) = (s.nodes, s.prompts) := by
  unfold startDelay
  dsimp only
  split
  · exact endDelay_nodes_prompts ..
  · rfl

/-- The nodes are as they were, and the context of nest n but for its waiting list. -/
def ContextStands (n : NestId) (s t : State) : Prop :=
  t.nodes = s.nodes ∧ t.prompts[n] = { s.prompts[n] with waiting := t.prompts[n].waiting }

theorem contextStands_of_eq {n : NestId} {s t : State} (h : (t.nodes, t.prompts) = (s.nodes, s.prompts)) :
    ContextStands n s t := by
  obtain ⟨hnodes, hprompts⟩ := Prod.mk.inj h
  refine ⟨hnodes, ?_⟩
  rw [hprompts]

/-- R115: a waiting list alone has changed. -/
theorem contextStands_of_waiting (n m : NestId) (f : List Arming → List Arming) (s : State) :
    ContextStands n s (s.modPrompt m fun p => { p with waiting := f p.waiting }) := by
  refine ⟨rfl, ?_⟩
  rw [modPrompt_get]
  split
  · rename_i h; subst h; rfl
  · rfl

/-- R104, R115: a check that is started changes at most a waiting list. -/
theorem startCheck_contextStands (n : NestId) (c : CheckId) (s : State) : ContextStands n s (startCheck c s).1 := by
  unfold startCheck
  dsimp only
  split
  · exact contextStands_of_eq (startDelay_nodes_prompts ..)
  · exact contextStands_of_eq (startDelay_nodes_prompts ..)
  · exact contextStands_of_eq (startDelay_nodes_prompts ..)
  · split
    · exact contextStands_of_eq rfl
    · exact contextStands_of_eq (startDelay_nodes_prompts ..)
  · refine contextStands_of_eq ?_
    unfold startCharge; dsimp only; repeat' split
    all_goals rfl
  · exact contextStands_of_eq (startDelay_nodes_prompts ..)
  · exact contextStands_of_waiting n _ (fun l => l ++ [_]) s
  · exact contextStands_of_eq rfl

theorem startCheck_nodes (c : CheckId) (s : State) : (startCheck c s).1.nodes = s.nodes :=
  (startCheck_contextStands 0 c s).1

theorem nodes_keptByDecisions (l : Vector Node 15) : KeptByDecisions (fun _ => True) fun s => s.nodes = l where
  record _ h := (recordDecision_nodes ..).trans h
  start _ h := (startCheck_nodes ..).trans h
  waiting h := h
  opened h := (openPrompt_nodes ..).trans h
  movable _ _ := trivial

theorem decideCheck_nodes (c : CheckId) (d : Decision) (s : State) : (decideCheck c d s).nodes = s.nodes :=
  (nodes_keptByDecisions s.nodes).decideCheck trivial rfl

/-- A window that ends decides its check, and the checks that wait for it follow. -/
theorem windowEnd_decides {s : State} {c : CheckId} {d : Decision} (h : windowEnded s c = some d)
    (hc : s.checks[c].state ≠ .armed) : Leaves (.windowEnd c) s fun u =>
      Decided c d s u ∧ DependantsTaken c d s u ∧ u.nodes = s.nodes ∧ SamePlant s u ∧ SameStimulus s u := by
  refine ⟨decideCheck c d s, ?_, decideCheck_stands c d s, decideCheck_dependants hc d, decideCheck_nodes c d s,
    samePlant_of_plant (decideCheck_plant c d s), sameStimulus_of_bench (bench_of_plant (decideCheck_plant c d s))⟩
  change execWindowEnd c s = _
  unfold execWindowEnd
  rw [h]

/-- Settles O48: by kind, the window's end gives the decision of its rule (R109 to R114), and the decision takes its
dependants (R105). -/
theorem windowsEndInADecision : Obligations.WindowsEndInADecision := by
  intro s c
  dsimp only
  refine ⟨fun lo hi hkind hstate hw hsamples hlo hhi => ?_, fun t hkind hstate ht hw => ?_,
    fun t j hkind hstate ht hw hj => ?_, fun hkind hstate hw => ?_, fun t hkind hstate ht hw => ?_⟩
  · refine windowEnd_decides ?_ (by rw [hstate]; decide)
    unfold windowEnded
    rw [hkind]
    refine (if_pos ⟨hstate, decide_eq_true hw, hsamples⟩).trans (congrArg some ?_)
    unfold windowDecision
    simp only [hlo, hhi, Option.getD_some]
  · refine windowEnd_decides ?_ (by rcases hstate with h | h <;> rw [h] <;> decide)
    unfold windowEnded
    rw [hkind]
    exact if_pos ⟨hstate, by rw [ht]; exact decide_eq_true hw⟩
  · refine windowEnd_decides ?_ (by rw [hstate]; decide)
    unfold windowEnded
    rw [hkind]
    refine (if_pos ⟨hstate, by rw [ht]; exact decide_eq_true hw⟩).trans (congrArg some ?_)
    unfold chargeDecision
    rw [hj]
    rfl
  · refine windowEnd_decides ?_ (by rw [hstate]; decide)
    unfold windowEnded
    rw [hkind]
    exact if_pos ⟨hstate, decide_eq_true hw⟩
  · refine windowEnd_decides ?_ (by rcases hstate with h | h <;> rw [h] <;> decide)
    unfold windowEnded
    rw [hkind]
    exact if_pos ⟨hstate, by rw [ht]; exact decide_eq_true hw⟩

end Sys2Proof.Machine
end

section
/-! SUPPORT. The play of a due entry (R56): what it leaves, its outputs, its track, and the delivery of its mark. -/
namespace Sys2Proof.Machine

open Stated

/-! ### Outputs (R47) -/

/-- R56 step 2: a target acts on the outputs of its nest alone. -/
theorem applyTarget_eq (n : NestId) (e : Entry) (s : State) :
    applyTarget n e s = { s with outputs := (applyTarget n e s).outputs } := by
  unfold applyTarget; split <;> rfl

theorem applyTarget_other {n j : NestId} (h : j ≠ n) (e : Entry) (s : State) :
    (applyTarget n e s).outputs[j] = s.outputs[j] := by
  unfold applyTarget; split
  · rw [modOutputs_get, if_neg h]
  · rw [modOutputs_get, if_neg h]
  · rw [modOutputs_get, if_neg h]
  all_goals rfl

section
variable (n : NestId) {e : Entry} (s : State)

theorem applyTarget_pulse {k : Fin 4} (h : e.target = some (.pulse k)) : (applyTarget n e s).outputs[n]
    = { s.outputs[n] with
        pulse := s.outputs[n].pulse.set k (s.outputs[n].pulse[k].apply e.w1.toNat e.duty) } := by
  unfold applyTarget; rw [h]; dsimp only; rw [modOutputs_get, if_pos rfl]

theorem applyTarget_level {k : Fin 4} (h : e.target = some (.level k)) : (applyTarget n e s).outputs[n]
    = { s.outputs[n] with level := s.outputs[n].level.set k e.w1.toNat } := by
  unfold applyTarget; rw [h]; dsimp only; rw [modOutputs_get, if_pos rfl]

theorem applyTarget_discrete (h : e.target = some .discrete) : (applyTarget n e s).outputs[n]
    = { s.outputs[n] with line := applyDiscrete e s.outputs[n].line } := by
  unfold applyTarget; rw [h]; dsimp only; rw [modOutputs_get, if_pos rfl]

theorem applyTarget_wait (h : e.target = some .wait) : applyTarget n e s = s := by
  unfold applyTarget; rw [h]
end

theorem applyDiscrete_line (e : Entry) (v : Vector Bool 8) (i : Fin 8) :
    (applyDiscrete e v)[i] = if e.setMask i then true else if e.clearMask i then false else v[i] := by
  unfold applyDiscrete; simp

/-- R47: a frequency of 0, or an output that is off, takes the entry's values at once. -/
theorem Pulse.apply_eq (p : Pulse) (frequency duty : Nat) : p.apply frequency duty =
    if frequency = 0 ∨ p.frequency = 0 then ⟨frequency, if duty = 0 then p.duty else duty, none⟩
    else { p with waiting := some (frequency, if duty = 0 then p.duty else duty) } := by
  unfold Pulse.apply
  dsimp only
  by_cases hf : frequency = 0
  · simp [hf]
  · simp [hf]

/-! ### The track (R56) -/

/-- A change that looks at no fetch request needs no renewal before it. -/
theorem changeTrack_changeTrack {t : TrackId} {f g : Track → Track} (hg : ∀ x : Track, (g x.renew).renew = (g x).renew)
    (s : State) : changeTrack t g (changeTrack t f s) = changeTrack t (fun x => g (f x)) s := by
  unfold changeTrack State.modTrack
  simp [hg]

theorem changeTrack_self (t : TrackId) (f : Track → Track) (s : State) :
    (changeTrack t f s).tracks[t] = (f s.tracks[t]).renew := (modTrack_get ..).trans (if_pos rfl)

/-- Every block but the tracks, and of posting the FIFO and the lost count: what a change of a track and an offer of its
status leave. -/
def State.besideStatus (s : State) :=
  (s.besideTracks, s.outputs, s.claims, s.frameHolders, s.ports, s.post.fifo, s.post.lost)

theorem afterPlay_of_last {t : TrackId} {s : State} (h : s.tracks[t].played = s.tracks[t].total) :
    afterPlay t s = completeTrack t s := if_pos h

/-- R56 step 5: the counts that a play which is not the last leaves. -/
def Track.goesOn (x : Track) : Track :=
  { x with
    starved := x.starved || x.held.isEmpty
    state := if x.state = .suspending then .suspended else x.state }

/-- R56 steps 5 and 6: where entries remain, blocks beside the track and its status are left. -/
theorem afterPlay_of_more {t : TrackId} {s : State} (h : s.tracks[t].played ≠ s.tracks[t].total) :
    (afterPlay t s).besideStatus = s.besideStatus := by
  unfold afterPlay
  dsimp only
  rw [if_neg h]
  split_ifs <;> rfl

/-- R56 step 5, R62: where entries remain, the track may starve, and a SUSPENDING one is suspended. -/
theorem afterPlay_tracks_of_more {t : TrackId} {s : State} (h : s.tracks[t].played ≠ s.tracks[t].total)
    (hrenewed : s.tracks[t].renew = s.tracks[t]) :
    (afterPlay t s).tracks = (changeTrack t Track.goesOn s).tracks := by
  have hstays {f : Track → Track} (hf : f s.tracks[t] = s.tracks[t].goesOn) :
      (changeTrack t f s).tracks = (changeTrack t Track.goesOn s).tracks := by
    unfold changeTrack State.modTrack; simp only [hf]
  have hself : s.tracks = (changeTrack t (fun x => x) s).tracks := by
    unfold changeTrack
    rw [modTrack_tracks, hrenewed]
    simp
  have hboth := changeTrack_changeTrack (t := t) (f := fun x => { x with starved := true })
    (g := fun x => { x with state := .suspended }) (fun _ => rfl) s
  unfold afterPlay
  dsimp only
  rw [if_neg h]
  by_cases hempty : s.tracks[t].held.isEmpty <;> by_cases hsuspends : s.tracks[t].state = .suspending
  · refine Eq.trans ?_ ((congrArg State.tracks hboth).trans (hstays ?_))
    · rw [if_pos hempty, if_pos hsuspends]; split_ifs <;> rfl
    · unfold Track.goesOn; rw [hempty, if_pos hsuspends, Bool.or_true]
  · refine Eq.trans ?_ (hstays (f := fun x => { x with starved := true }) ?_)
    · rw [if_pos hempty, if_neg hsuspends]; split_ifs <;> rfl
    · unfold Track.goesOn; rw [hempty, if_neg hsuspends, Bool.or_true]
  · refine Eq.trans ?_ (hstays (f := fun x => { x with state := .suspended }) ?_)
    · rw [if_neg hempty, if_pos hsuspends]; split_ifs <;> rfl
    · unfold Track.goesOn; rw [Bool.eq_false_iff.2 hempty, if_pos hsuspends, Bool.or_false]
  · refine Eq.trans ?_ (hself.trans (hstays ?_))
    · rw [if_neg hempty, if_neg hsuspends]; split_ifs <;> rfl
    · unfold Track.goesOn; rw [Bool.eq_false_iff.2 hempty, if_neg hsuspends, Bool.or_false]

/-- R60: the record of a track that completes. -/
theorem completeTrack_tracks (t : TrackId) (s : State) : (completeTrack t s).tracks
    = (changeTrack t (fun x => { x with state := .done, cause := .none }) s).tracks := by
  unfold completeTrack
  dsimp only
  rw [offerTrack_tracks, postEvent_tracks]
  unfold changeTrack
  rw [modTrack_tracks, modTrack_tracks, tracks_of_claims (releaseClaims_besideClaims t s)]

/-- What the release of claims and the report of a completed track leave. -/
def State.besideCompletion (s : State) := (s.besideTracks, s.outputs, s.ports)

theorem completeTrack_besideCompletion (t : TrackId) (s : State) :
    (completeTrack t s).besideCompletion = s.besideCompletion := by
  obtain ⟨houtputs, hports⟩ := Prod.mk.inj (releaseClaims_outputs_ports t s)
  have hbeside := besideTracks_of_claims (releaseClaims_besideClaims t s)
  unfold completeTrack State.besideCompletion
  rw [offerTrack_besideTracks, postEvent_besideTracks, changeTrack_besideTracks, hbeside]
  dsimp only
  rw [postEvent_eq]
  exact congrArg _ (Prod.ext houtputs hports)

/-- R46, R60: a completed track holds no claim. -/
theorem completeTrack_released (t : TrackId) (s : State) : ClaimsReleased t s (completeTrack t s) := by
  have hclaims : (completeTrack t s).claims = (releaseClaims t s).claims
      ∧ (completeTrack t s).frameHolders = (releaseClaims t s).frameHolders := by
    unfold completeTrack; dsimp only; rw [postEvent_eq]; exact ⟨rfl, rfl⟩
  unfold ClaimsReleased
  rw [hclaims.1, hclaims.2]
  exact ⟨releaseClaims_claims t s, releaseClaims_frameHolders t s⟩

/-- R60: TRACK_DONE is offered with the counts of the track. -/
theorem completeTrack_posted (t : TrackId) (s : State) :
    Posted (evTrackDone (trackNest s t) t s.tracks[t].played s.tracks[t].underruns s.tracks[t].lateness) s
      (completeTrack t s) := by
  have hkept := releaseClaims_besideClaims t s
  have hbeside := besideRails_of_tracks (besideTracks_of_claims hkept)
  have hpath := path_of_besideRails hbeside
  have hnests := nests_of_besideRails hbeside
  have htracks := tracks_of_claims hkept
  have hpost := post_of_claims hkept
  unfold completeTrack
  generalize releaseClaims t s = r at hpath hnests htracks hpost ⊢
  dsimp only
  rw [changeTrack_self, htracks, ← trackNest_congr hpath]
  exact posted_offer (posted_congr (s := changeTrack t (fun x => { x with state := .done, cause := .none }) r)
    (posted_postEvent _ _) hpost.symm hpath.symm hnests.symm) ..

theorem completeTrack_grows (t : TrackId) (s : State) : s.post.Grows (completeTrack t s).post := by
  unfold completeTrack
  dsimp only
  rw [← post_of_claims (releaseClaims_besideClaims t s)]
  exact (postEvent_grows _ (changeTrack t _ (releaseClaims t s))).trans (offerTrack_grows _ _)

theorem besideCompletion_of_status {s t : State} (h : s.besideStatus = t.besideStatus) :
    s.besideCompletion = t.besideCompletion := congrArg (fun p => (p.1, p.2.1, p.2.2.2.2.1)) h

/-- R56: after a play the checks, the link, the plant, the outputs and the ports are as the play left them. -/
theorem afterPlay_besideCompletion (t : TrackId) (s : State) :
    (afterPlay t s).besideCompletion = s.besideCompletion := by
  by_cases h : s.tracks[t].played = s.tracks[t].total
  · rw [afterPlay_of_last h]; exact completeTrack_besideCompletion t s
  · exact besideCompletion_of_status (afterPlay_of_more h)

theorem afterPlay_grows (t : TrackId) (s : State) : s.post.Grows (afterPlay t s).post := by
  by_cases h : s.tracks[t].played = s.tracks[t].total
  · rw [afterPlay_of_last h]; exact completeTrack_grows t s
  · have hstatus := afterPlay_of_more h
    simp only [State.besideStatus, Prod.mk.injEq] at hstatus
    obtain ⟨-, -, -, -, -, hfifo, hlost⟩ := hstatus
    exact .of_eq hfifo hlost

/-! ### The play of the head -/

section
variable (t : TrackId) (e : Entry) (rest : List Entry) (s : State)

/-- R56 steps 1 and 2: the head has left the prefetch and its target is set. -/
def targetSet : State := applyTarget (trackNest s t) e (changeTrack t (fun x => { x with held := rest }) s)

/-- R56 step 3: its mark is delivered. -/
def markTaken : State :=
  if e.mark = 0 then targetSet t e rest s else deliverMark (trackNest s t) e.mark (targetSet t e rest s)

/-- R56 step 4: the track's counts have advanced. -/
def countsTaken : State := changeTrack t (fun x => x.takePlay e.required) (markTaken t e rest s)

variable {t e rest s}

theorem playHead_eq (h : s.tracks[t].held = e :: rest) : playHead t s = afterPlay t (countsTaken t e rest s) := by
  unfold playHead; rw [h]; rfl

theorem targetSet_eq : targetSet t e rest s =
    { s with
      tracks := s.tracks.set t (Track.renew { s.tracks[t] with held := rest })
      outputs := (targetSet t e rest s).outputs } := applyTarget_eq ..

theorem targetSet_outputs : (targetSet t e rest s).outputs = (applyTarget (trackNest s t) e s).outputs := by
  unfold targetSet applyTarget; split <;> rfl

theorem markTaken_plant : (markTaken t e rest s).plant = (targetSet t e rest s).plant := by
  unfold markTaken; split
  · rfl
  · exact deliverMark_plant ..

/-- R54, R56: the record of the track before it goes on or completes. -/
theorem countsTaken_tracks : (countsTaken t e rest s).tracks
    = (changeTrack t (fun x => Track.takePlay { x with held := rest } e.required) s).tracks := by
  have hmark : (markTaken t e rest s).tracks = (changeTrack t (fun x => { x with held := rest }) s).tracks := by
    rw [tracks_of_plant markTaken_plant, targetSet_eq]; rfl
  rw [← changeTrack_changeTrack (g := fun x => x.takePlay e.required) (fun _ => rfl) s]
  unfold countsTaken changeTrack at *
  rw [modTrack_tracks, hmark]
  rfl

theorem countsTaken_track : (countsTaken t e rest s).tracks[t]
    = Track.renew (Track.takePlay { s.tracks[t] with held := rest } e.required) := by
  simp only [countsTaken_tracks, changeTrack_self]

theorem countsTaken_besideCompletion :
    (countsTaken t e rest s).besideCompletion = (markTaken t e rest s).besideCompletion := rfl

/-- R54 to R56: the record that the play of the head leaves. -/
theorem playHead_tracks (h : s.tracks[t].held = e :: rest) :
    (playHead t s).tracks = s.tracks.set t (playedTrack s.tracks[t] e rest) := by
  have hcounts : ∀ f : Track → Track, (∀ x : Track, (f x.renew).renew = (f x).renew) →
      (changeTrack t f (countsTaken t e rest s)).tracks
        = s.tracks.set t (f (Track.takePlay { s.tracks[t] with held := rest } e.required)).renew := fun f hf => by
    unfold changeTrack
    rw [modTrack_tracks, countsTaken_track, countsTaken_tracks, hf]
    unfold changeTrack
    simp
  rw [playHead_eq h]
  by_cases hlast : s.tracks[t].played + 1 = s.tracks[t].total
  · rw [afterPlay_of_last (by rw [countsTaken_track]; exact hlast), completeTrack_tracks, hcounts _ fun _ => rfl]
    unfold playedTrack
    exact congrArg (s.tracks.set t · t.isLt) (if_pos hlast).symm
  · rw [afterPlay_tracks_of_more (by rw [countsTaken_track]; exact hlast) (by rw [countsTaken_track]; rfl),
      hcounts _ fun _ => rfl]
    unfold playedTrack
    exact congrArg (s.tracks.set t · t.isLt) (if_neg hlast).symm

/-- The blocks that a play leaves as the delivery of its mark leaves them. -/
theorem playHead_besideCompletion (h : s.tracks[t].held = e :: rest) :
    (playHead t s).besideCompletion = (markTaken t e rest s).besideCompletion := by
  rw [playHead_eq h, afterPlay_besideCompletion, countsTaken_besideCompletion]

theorem playHead_outputs (h : s.tracks[t].held = e :: rest) :
    (playHead t s).outputs = (applyTarget (trackNest s t) e s).outputs := by
  have hbeside := congrArg (fun p => p.2.1) (playHead_besideCompletion h)
  exact hbeside.trans ((congrArg (fun p => p.1.2.2.2.1) markTaken_plant).trans targetSet_outputs)

/-- A play leaves the checks as the delivery of its mark leaves them. -/
theorem playHead_sameChecks (h : s.tracks[t].held = e :: rest) : SameChecks (markTaken t e rest s) (playHead t s) := by
  have hbeside := congrArg Prod.fst (playHead_besideCompletion h)
  simp only [State.besideCompletion, State.besideTracks, Prod.mk.injEq] at hbeside
  obtain ⟨-, -, -, -, -, -, hchecks, hunposted, hnodes, hlink, hprompts⟩ := hbeside
  exact ⟨hchecks, hunposted, hnodes, hlink, hprompts⟩

theorem playHead_samePlant (h : s.tracks[t].held = e :: rest) : SamePlant s (playHead t s) := by
  have hbeside := congrArg Prod.fst (playHead_besideCompletion h)
  have hplant := samePlant_of_plant (markTaken_plant (t := t) (e := e) (rest := rest) (s := s))
  rw [targetSet_eq] at hplant
  obtain ⟨hnests', hsupplies', hrails', hinputs'⟩ := hplant
  simp only [State.besideCompletion, State.besideTracks, Prod.mk.injEq] at hbeside
  obtain ⟨-, hnests, hsupplies, hrails, -, hinputs, -⟩ := hbeside
  exact ⟨hnests.trans hnests', hsupplies.trans hsupplies', hrails.trans hrails', hinputs.trans hinputs'⟩

theorem playHead_capture_ports (h : s.tracks[t].held = e :: rest) :
    (playHead t s).capture = s.capture ∧ (playHead t s).ports = s.ports := by
  have hbeside := playHead_besideCompletion h
  have hplant := markTaken_plant (t := t) (e := e) (rest := rest) (s := s)
  rw [targetSet_eq] at hplant
  simp only [State.besideCompletion, State.besideTracks, Prod.mk.injEq] at hbeside
  obtain ⟨⟨-, -, -, -, hcapture, -⟩, -, hports⟩ := hbeside
  exact ⟨hcapture.trans (congrArg (fun p => p.1.2.2.2.2.2.2.2) hplant),
    hports.trans (congrArg (fun p => p.1.2.2.2.2.2.2.1) hplant)⟩

theorem countsTaken_claims : (countsTaken t e rest s).claims = s.claims
    ∧ (countsTaken t e rest s).frameHolders = s.frameHolders := by
  have hplant := markTaken_plant (t := t) (e := e) (rest := rest) (s := s)
  rw [targetSet_eq] at hplant
  exact ⟨congrArg (fun p => p.1.2.2.2.2.1) hplant, congrArg (fun p => p.1.2.2.2.2.2.1) hplant⟩

/-- R60: the last play releases what the track claims. -/
theorem playHead_released (h : s.tracks[t].held = e :: rest) (hlast : s.tracks[t].played + 1 = s.tracks[t].total) :
    ClaimsReleased t s (playHead t s) := by
  have hreleased := completeTrack_released t (countsTaken t e rest s)
  rw [playHead_eq h, afterPlay_of_last (by rw [countsTaken_track]; exact hlast)]
  unfold ClaimsReleased at *
  rwa [countsTaken_claims.1, countsTaken_claims.2] at hreleased

theorem playHead_claims (h : s.tracks[t].held = e :: rest) (hmore : s.tracks[t].played + 1 ≠ s.tracks[t].total) :
    (playHead t s).claims = s.claims ∧ (playHead t s).frameHolders = s.frameHolders := by
  have hstatus := afterPlay_of_more (t := t) (s := countsTaken t e rest s) (by rw [countsTaken_track]; exact hmore)
  simp only [State.besideStatus, Prod.mk.injEq] at hstatus
  obtain ⟨-, -, hclaims, hholders, -⟩ := hstatus
  rw [playHead_eq h, hclaims, hholders]
  exact countsTaken_claims

section
variable (hmark : e.mark = 0)
include hmark

theorem markTaken_of_unmarked : markTaken t e rest s = targetSet t e rest s := if_pos hmark

/-- R60: the last entry of a track, unmarked, reports TRACK_DONE. -/
theorem playHead_posted (h : s.tracks[t].held = e :: rest) (hlast : s.tracks[t].played + 1 = s.tracks[t].total) :
    Posted (evTrackDone (trackNest s t) t (s.tracks[t].played + 1) s.tracks[t].underruns
      (playedTrack s.tracks[t] e rest).lateness) s (playHead t s) := by
  have hdone := completeTrack_posted t (countsTaken t e rest s)
  have hcounts : countsTaken t e rest s
      = changeTrack t (fun x => x.takePlay e.required) (targetSet t e rest s) := by
    unfold countsTaken; rw [markTaken_of_unmarked hmark]
  have hpath : (countsTaken t e rest s).path = s.path := by rw [hcounts, targetSet_eq]; rfl
  have hnests : (countsTaken t e rest s).nests = s.nests := by rw [hcounts, targetSet_eq]; rfl
  have hpost : (countsTaken t e rest s).post = s.post := by rw [hcounts, targetSet_eq]; rfl
  rw [countsTaken_track, trackNest_congr hpath] at hdone
  have hlateness : (playedTrack s.tracks[t] e rest).lateness
      = max s.tracks[t].lateness (min 65535 (s.tracks[t].interval - e.required)) := by
    unfold playedTrack; dsimp only; split <;> rfl
  rw [playHead_eq h, afterPlay_of_last (by rw [countsTaken_track]; exact hlast), hlateness]
  exact posted_congr hdone hpost.symm hpath.symm hnests.symm

/-- An unmarked play that is not the last posts nothing. -/
theorem playHead_nothingPosted (h : s.tracks[t].held = e :: rest)
    (hmore : s.tracks[t].played + 1 ≠ s.tracks[t].total) : NothingPosted s (playHead t s) := by
  have hstatus := afterPlay_of_more (t := t) (s := countsTaken t e rest s) (by rw [countsTaken_track]; exact hmore)
  simp only [State.besideStatus, Prod.mk.injEq] at hstatus
  obtain ⟨-, -, -, -, -, hfifo, hlost⟩ := hstatus
  have hpost : (countsTaken t e rest s).post = s.post := by
    unfold countsTaken; rw [markTaken_of_unmarked hmark, targetSet_eq]; rfl
  unfold NothingPosted
  rw [playHead_eq h, hfifo, hlost, hpost]
  exact ⟨rfl, rfl⟩

theorem playHead_unmarked (h : s.tracks[t].held = e :: rest) : SameChecks s (playHead t s) := by
  have hsame := playHead_sameChecks h
  rwa [markTaken_of_unmarked hmark, targetSet_eq] at hsame
end

theorem playHead_grows (h : s.tracks[t].held = e :: rest) :
    (markTaken t e rest s).post.Grows (playHead t s).post := by
  rw [playHead_eq h]
  exact afterPlay_grows t (countsTaken t e rest s)
end

end Sys2Proof.Machine
end

section
/-! SUPPORT. The delivery of a mark (R57, R104, R111): where one check alone takes it, what that check makes of it. -/
namespace Sys2Proof.Machine

open Stated

/-! ### One pass in which a single element acts -/

/-- A pass in which a single element acts is that element's step, where what makes the others idle holds before and after
it. -/
theorem forEach_only {α : Type} {P : State → Prop} {f : α → State → State} {a : α}
    (hidle : ∀ b s, b ≠ a → P s → f b s = s) {l : List α} (hl : l.Nodup) (ha : a ∈ l) {s : State} (hs : P s)
    (hstep : P (f a s)) : s.forEach l f = f a s := by
  have hrest {l : List α} (hl : a ∉ l) {s : State} (hs : P s) : s.forEach l f = s := by
    induction l with
    | nil => rfl
    | cons b l ih =>
      rw [forEach_cons, hidle b s (fun h => hl (h ▸ List.mem_cons_self)) hs]
      exact ih fun h => hl (List.mem_cons_of_mem b h)
  induction l with
  | nil => cases ha
  | cons b l ih =>
    obtain ⟨hb, hl⟩ := List.nodup_cons.1 hl
    rw [forEach_cons]
    rcases List.mem_cons.1 ha with rfl | ha
    · exact hrest hb hstep
    · rw [hidle b s (fun h => hb (h ▸ ha)) hs]
      exact ih hl ha

/-- A pass in which no element acts changes nothing. -/
theorem forEach_idle {α : Type} {f : α → State → State} {s : State} (h : ∀ a, f a s = s) (l : List α) :
    s.forEach l f = s := by
  induction l with
  | nil => rfl
  | cons a l ih => rw [forEach_cons, h a]; exact ih

/-! ### Decisions arm no check -/

/-- A check that is ARMED in t was so in s. -/
def ArmsNone (s t : State) : Prop := ∀ e : CheckId, t.checks[e].state = .armed → s.checks[e].state = .armed

theorem ArmsNone.trans {s t u : State} (h : ArmsNone s t) (g : ArmsNone t u) : ArmsNone s u := fun e he => h e (g e he)

theorem modCheck_armsNone {s : State} {c : CheckId} {f : Check → Check}
    (hf : (f s.checks[c]).state = .armed → s.checks[c].state = .armed) : ArmsNone s (s.modCheck c f) := by
  intro e he
  rw [modCheck_get] at he
  split at he
  · rename_i heq; subst heq; exact hf he
  · exact he

theorem takeVerdict_armsNone {s t : State} (h : takeVerdict s = some t) : ArmsNone s t := by
  unfold takeVerdict at h
  split at h
  · cases h
  · split at h
    · cases h
    · split at h
      · rename_i c _ _ _ _ _ _
        cases h
        exact modCheck_armsNone (s := s) (c := c) (f := fun k => { k with state := .idle, held := none }) nofun
      · cases h

theorem recordDecision_armsNone (c : CheckId) (d : Decision) (s : State) : ArmsNone s (recordDecision c d s) :=
  takeVerdicts_induct (P := ArmsNone s) (fun hs ht => hs.trans (takeVerdict_armsNone ht)) _ (by
    intro e he
    rw [setUnposted_checks] at he
    exact modCheck_armsNone (s := s) (by simp) e he)

/-- R97: no decision, whatever follows it, arms a check. -/
theorem armsNone_keptByChain (s : State) : KeptByChain (fun _ => True) (ArmsNone s) where
  record _ h := h.trans (recordDecision_armsNone _ _ _)
  start {c t} _ harmed h e he := by
    by_cases hc : c = e
    · subst hc; exact h c harmed
    · rw [(startCheck_sameCheck hc t).1] at he; exact h e he
  passed _ _ h := h
  opened {n a rest d t} _ _ h := by
    refine h.trans fun e he => ?_
    by_cases hw : (dequeue n rest t).checks[e].state = .promptWait
    · rw [openPrompt_checks] at he
      refine modCheck_armsNone (c := a.check) (f := fun k => k.taken a) ?_ e he
      unfold Check.taken
      split
      · nofun
      · exact id
    · rwa [openPrompt_check hw] at he
  asked _ _ := trivial
  follows _ _ _ := trivial

theorem decideCheck_armsNone (c : CheckId) (d : Decision) (s : State) : ArmsNone s (decideCheck c d s) :=
  (armsNone_keptByChain s).decideCheck trivial fun _ h => h

theorem triggerCheck_armsNone (c : CheckId) (s : State) : ArmsNone s (triggerCheck c s) :=
  (armsNone_keptByChain s).triggerCheck trivial fun _ h => h

/-! ### One sample of a PROFILE (R110, R111) -/

theorem modCheck_modCheck (s : State) (c : CheckId) (f g : Check → Check) :
    (s.modCheck c f).modCheck c g = s.modCheck c fun k => g (f k) := by
  unfold State.modCheck; simp

theorem modCheck_limitCount (s : State) (c e : CheckId) (f : Check → Check) :
    limitCount (s.modCheck c f) e = limitCount s e := rfl

theorem judge_failLow_iff (v low high : Int) : judge v low high = .failLow ↔ v < low := by
  unfold judge; split_ifs <;> simp [*]

theorem judge_failHigh_iff (v low high : Int) : judge v low high = .failHigh ↔ ¬ v < low ∧ high < v := by
  unfold judge; split_ifs <;> simp [*]

/-- R110: the record after a sample. -/
def Check.sampled (k : Check) (v : Int) : Check := { k with due := none, samples := k.samples + 1, last := some v }

/-- R110: what the sample v decides, or none where the profile goes on. -/
def profileOutcome (s : State) (c : CheckId) (v : Int) : Option Decision :=
  let i := s.checks[c].samples
  let low := limitLow s (limitIndex s c + i)
  let high := limitHigh s (limitIndex s c + i)
  if v < low then some { verdict := .failLow, detail := i, a := v, b := low }
  else if high < v then some { verdict := .failHigh, detail := i, a := v, b := high }
  else if limitCount s c ≤ i + 1 then some { verdict := .pass, detail := limitCount s c, a := v }
  else none

section
variable {s : State} {c : CheckId}

theorem takeProfileSample_none (h : sample s c = none) : takeProfileSample c s
    = (s.modCheck c fun k => { k with due := none }, some { verdict := .noData, detail := s.checks[c].samples }) := by
  have hsample : sample (s.modCheck c fun k => { k with due := none }) c = none := h
  unfold takeProfileSample
  dsimp only
  rw [hsample]

theorem takeProfileSample_some {v : Int} (h : sample s c = some v) : takeProfileSample c s
    = (s.modCheck c fun k => k.sampled v, profileOutcome s c v) := by
  have hsample : sample (s.modCheck c fun k => { k with due := none }) c = some v := h
  have hstate : ((s.modCheck c fun k => { k with due := none }).modCheck c fun k =>
      { k with samples := s.checks[c].samples + 1, last := some v }) = s.modCheck c fun k => k.sampled v := by
    rw [modCheck_modCheck]; rfl
  unfold takeProfileSample
  dsimp only
  rw [hsample]
  dsimp only
  rw [hstate]
  unfold profileOutcome
  dsimp only
  split
  · rename_i hjudged
    exact congrArg (Prod.mk _) (if_pos ((judge_failLow_iff ..).1 hjudged)).symm
  · rename_i hjudged
    obtain ⟨hlow, hhigh⟩ := (judge_failHigh_iff ..).1 hjudged
    exact congrArg (Prod.mk _) ((if_neg hlow).trans (if_pos hhigh)).symm
  · rename_i hnotLow hnotHigh
    have hlow : ¬ v < limitLow s (limitIndex s c + s.checks[c].samples) := fun h =>
      hnotLow ((judge_failLow_iff ..).2 h)
    have hhigh : ¬ limitHigh s (limitIndex s c + s.checks[c].samples) < v := fun h =>
      hnotHigh ((judge_failHigh_iff ..).2 ⟨hlow, h⟩)
    rw [if_neg hlow, if_neg hhigh, modCheck_limitCount]
    split <;> rfl

/-- A verdict takes from its check what no sample changes. -/
theorem verdictOf_modCheck {f : Check → Check}
    (hf : ∀ k : Check, (f k).arming = k.arming ∧ (f k).session = k.session ∧ (f k).trigger = k.trigger) (d : Decision) :
    verdictOf (s.modCheck c f) c d = verdictOf s c d := by
  obtain ⟨harming, hsession, htrigger⟩ := hf s.checks[c]
  unfold verdictOf
  rw [modCheck_get, if_pos rfl, harming, hsession, htrigger]
  rfl

theorem finishCheck_some (c : CheckId) (d : Decision) (s : State) : finishCheck c (s, some d) = decideCheck c d s := rfl

theorem finishCheck_decided {f : Check → Check} {d : Decision}
    (hf : ∀ k : Check, (f k).arming = k.arming ∧ (f k).session = k.session ∧ (f k).trigger = k.trigger) :
    Decided c d s (finishCheck c (s.modCheck c f, some d)) := by
  rw [finishCheck_some]
  change VerdictStands c (verdictOf s c d) _
  rw [← verdictOf_modCheck hf]
  exact decideCheck_stands c d (s.modCheck c f)

/-- R110, R111: what the sample decides has been decided, or the profile goes on. -/
theorem finishProfileSample (s : State) (c : CheckId) :
    ProfileDecides c s.checks[c].samples s (finishCheck c (takeProfileSample c s))
      ∧ ProfileGoesOn c s.checks[c] s (finishCheck c (takeProfileSample c s)) := by
  have houtcome {v : Int} {d : Decision} (hv : sample s c = some v) (hd : profileOutcome s c v = some d) :
      Decided c d s (finishCheck c (takeProfileSample c s)) := by
    rw [takeProfileSample_some hv, hd]
    exact finishCheck_decided fun k => ⟨rfl, rfl, rfl⟩
  refine ⟨⟨fun hnone => ?_, fun v hv => ⟨fun hlow => houtcome hv ?_, fun hlow hhigh => houtcome hv ?_,
    fun hlow hhigh hlast => houtcome hv ?_⟩⟩, fun v hgoes => ?_⟩
  · rw [takeProfileSample_none hnone]
    exact finishCheck_decided fun k => ⟨rfl, rfl, rfl⟩
  · exact if_pos hlow
  · exact (if_neg (Int.not_lt.2 hlow)).trans (if_pos hhigh)
  · exact (if_neg (Int.not_lt.2 hlow)).trans ((if_neg (Int.not_lt.2 hhigh)).trans (if_pos hlast))
  · obtain ⟨hv, hlow, hhigh, hmore⟩ := hgoes
    have hnone : profileOutcome s c v = none :=
      (if_neg (Int.not_lt.2 hlow)).trans ((if_neg (Int.not_lt.2 hhigh)).trans (if_neg (Nat.not_le.2 hmore)))
    rw [takeProfileSample_some hv, hnone]
    exact ⟨rfl, rfl, rfl, rfl⟩
end

/-! ### The pass of a mark -/

theorem takeProfileSample_armsNone (c : CheckId) (s : State) :
    ArmsNone s (finishCheck c (takeProfileSample c s)) := by
  have hfinish {f : Check → Check} (hf : ∀ k, (f k).state = k.state) (d : Option Decision) :
      ArmsNone s (finishCheck c (s.modCheck c f, d)) := by
    have hmod : ArmsNone s (s.modCheck c f) := modCheck_armsNone fun h => (hf _).symm.trans h
    cases d with
    | none => exact hmod
    | some d => rw [finishCheck_some]; exact hmod.trans (decideCheck_armsNone c d _)
  cases hsample : sample s c with
  | none => rw [takeProfileSample_none hsample]; exact hfinish (f := fun k => { k with due := none }) (fun _ => rfl) _
  | some v => rw [takeProfileSample_some hsample]; exact hfinish (f := fun k => k.sampled v) (fun _ => rfl) _

theorem takeSampleMark_armsNone (c : CheckId) (s : State) : ArmsNone s (takeSampleMark c s) := by
  unfold takeSampleMark
  split
  · exact decideCheck_armsNone _ _ _
  · split
    · exact takeProfileSample_armsNone c s
    · exact modCheck_armsNone id

theorem awaitsMark_iff (s : State) (n : NestId) (m : Nat) (c : CheckId) : awaitsMark s n m c = true
    ↔ s.checks[c].state = .sampling ∧ checkNest s c = n ∧ markedProfile s c = true ∧ sampleMark s c = m := by
  simp [awaitsMark, and_assoc]

/-- R104 MARK: the check waits for mark m of nest n. -/
def marks (n : NestId) (m : Nat) (s : State) (c : CheckId) : Prop :=
  s.checks[c].state = .armed ∧ checkNest s c = n ∧ checkTrigger s c = some (.mark m)

/-- R57: what the mark does to one check, where v is the state before the delivery. -/
def takeMark (n : NestId) (m : Nat) (v : State) (c : CheckId) (s : State) : State :=
  if s.checks[c].state = .armed ∧ checkNest s c = n ∧ checkTrigger s c = some (.mark m) then triggerCheck c s
  else if awaitsMark v n m c && awaitsMark s n m c then takeSampleMark c s
  else s

theorem deliverMark_eq (n : NestId) (m : Nat) (v : State) :
    deliverMark n m v = v.forEach allChecks (takeMark n m v) := rfl

section
variable {n : NestId} {m : Nat} {v : State} {c : CheckId}

theorem takeMark_of_marks {s : State} (h : marks n m s c) : takeMark n m v c s = triggerCheck c s := if_pos h

theorem takeMark_of_awaits (h : awaitsMark v n m c = true) : takeMark n m v c v = takeSampleMark c v := by
  have hstate := ((awaitsMark_iff ..).1 h).1
  unfold takeMark
  rw [if_neg (by rw [hstate]; rintro ⟨h, -⟩; cases h), if_pos (by rw [h]; rfl)]

theorem takeMark_of_idle {s : State} (hmarks : ¬ marks n m s c) (hawaits : ¬ awaitsMark v n m c = true) :
    takeMark n m v c s = s := by
  refine (if_neg hmarks).trans (if_neg ?_)
  rw [Bool.eq_false_iff.2 hawaits, Bool.false_and]
  exact Bool.false_ne_true

/-- R57: what one check makes of a mark arms no other. -/
theorem takeMark_armsNone (c : CheckId) (s : State) : ArmsNone s (takeMark n m v c s) := by
  unfold takeMark
  split
  · exact triggerCheck_armsNone c s
  · split
    · exact takeSampleMark_armsNone c s
    · exact fun _ h => h

theorem takeMark_path (c : CheckId) (s : State) : (takeMark n m v c s).path = s.path := by
  refine path_of_bus (bus_of_plant ?_)
  unfold takeMark
  split
  · exact triggerCheck_plant c s
  · split
    · exact takeSampleMark_plant c s
    · rfl

/-- A mark that one check alone takes is delivered to it. -/
theorem deliverMark_only (hothers : ∀ e, e ≠ c → ¬ marks n m v e ∧ ¬ awaitsMark v n m e = true) :
    deliverMark n m v = takeMark n m v c v := by
  rw [deliverMark_eq]
  refine forEach_only (P := fun s => ArmsNone v s ∧ s.path = v.path) (fun e s he hs => ?_) (List.nodup_finRange 64)
    (mem_allChecks c) ⟨fun _ h => h, rfl⟩ ⟨takeMark_armsNone c v, takeMark_path c v⟩
  obtain ⟨harms, hpath⟩ := hs
  refine takeMark_of_idle (fun hmarks => (hothers e he).1 ?_) (hothers e he).2
  obtain ⟨harmed, hnest, htrigger⟩ := hmarks
  exact ⟨harms e harmed, (checkNest_congr hpath e).symm.trans hnest, (checkTrigger_congr hpath e).symm.trans htrigger⟩

/-- R57: a mark that no check takes changes nothing. -/
theorem deliverMark_idle (h : ∀ e, ¬ marks n m v e ∧ ¬ awaitsMark v n m e = true) : deliverMark n m v = v := by
  rw [deliverMark_eq]
  exact forEach_idle (fun e => takeMark_of_idle (h e).1 (h e).2) allChecks
end

theorem decided_of_sameChecks {c : CheckId} {d : Decision} {v s u : State} (h : Decided c d v s)
    (hsame : SameChecks s u) (hpost : s.post.Grows u.post) : Decided c d v u :=
  VerdictStands.mono (v := verdictOf v c d) h hsame.1 hsame.2.1 hpost

theorem profileDecides_of_sameChecks {c : CheckId} {i : Nat} {v s u : State} (h : ProfileDecides c i v s)
    (hsame : SameChecks s u) (hpost : s.post.Grows u.post) : ProfileDecides c i v u := by
  obtain ⟨hnone, hsome⟩ := h
  refine ⟨fun h => decided_of_sameChecks (hnone h) hsame hpost, fun x hx => ?_⟩
  obtain ⟨hlow, hhigh, hpass⟩ := hsome x hx
  exact ⟨fun h => decided_of_sameChecks (hlow h) hsame hpost, fun h g => decided_of_sameChecks (hhigh h g) hsame hpost,
    fun h g l => decided_of_sameChecks (hpass h g l) hsame hpost⟩

theorem profileGoesOn_of_sameChecks {c : CheckId} {x : Check} {v s u : State} (h : ProfileGoesOn c x v s)
    (hsame : SameChecks s u) : ProfileGoesOn c x v u := by
  obtain ⟨hchecks, hunposted, -, hlink, hprompts⟩ := hsame
  intro w hw
  obtain ⟨hc, hu, hl, hp⟩ := h w hw
  exact ⟨hchecks.trans hc, hunposted.trans hu, hlink.trans hl, hprompts.trans hp⟩

/-- R57, R104, R111: a state whose check side is the one that the delivery leaves, with posts added, has the mark
delivered. -/
theorem markDelivered {n : NestId} {m : Nat} {v u : State} (hsame : SameChecks (deliverMark n m v) u)
    (hpost : (deliverMark n m v).post.Grows u.post) : MarkDelivered n m v u := by
  refine ⟨hsame, fun hnone => ?_, fun c hothers => ?_⟩
  · rwa [deliverMark_idle fun e => ⟨(hnone e).1, fun h => (hnone e).2 ((awaitsMark_iff ..).1 h)⟩] at hsame
  · rw [deliverMark_only (c := c) fun e he =>
      ⟨(hothers e he).1, fun h => (hothers e he).2 ((awaitsMark_iff ..).1 h)⟩] at hsame hpost
    refine ⟨fun hfires => ?_, fun t hsamples hdue => ?_, fun hsamples hdue hdelay => ?_,
      fun hsamples hdue hdelay => ?_⟩
    · rwa [takeMark_of_marks hfires] at hsame
    all_goals
      rw [takeMark_of_awaits ((awaitsMark_iff ..).2 hsamples)] at hsame hpost
      unfold takeSampleMark at hsame hpost
      rw [hdue] at hsame hpost
    · exact decided_of_sameChecks (decideCheck_stands c _ v) hsame hpost
    · dsimp only at hsame hpost
      rw [if_pos hdelay] at hsame hpost
      obtain ⟨hdecides, hgoes⟩ := finishProfileSample v c
      exact ⟨profileDecides_of_sameChecks hdecides hsame hpost, profileGoesOn_of_sameChecks hgoes hsame⟩
    · dsimp only at hsame
      rw [if_neg hdelay] at hsame
      obtain ⟨-, rfl, -⟩ := hsamples
      exact hsame.1

/-! ### The due entry -/

/-- R56: a due entry that is good and no FRAME is played. -/
theorem handleDue_plays {s : State} {t : TrackId} {e : Entry} {rest : List Entry} (h : s.tracks[t].held = e :: rest)
    (hgood : entryFault s t e = .none) (htarget : e.target ≠ some .frame) : handleDue t s = playHead t s := by
  unfold handleDue
  rw [h]
  dsimp only
  rw [hgood]
  exact if_neg htarget

/-- Settles O35: the due entry is played, and a play is its target, its mark, its counts and the end of its track, each
said by a lemma of its own. -/
theorem dueEntryIsPlayedOnItsTarget : Obligations.DueEntryIsPlayedOnItsTarget := by
  intro s t e rest hdue hheld hgood htarget
  dsimp only
  have houtputs := playHead_outputs hheld
  obtain ⟨hcapture, hports⟩ := playHead_capture_ports hheld
  refine ⟨playHead t s, ?_, playHead_tracks hheld, fun j hj => ?_, fun hwait => ?_, fun k hpulse => ?_,
    fun k hlevel => ?_, fun hdiscrete => ?_, playHead_released hheld, playHead_claims hheld,
    fun hmark hlast => playHead_posted hmark hheld hlast, fun hmark hmore => playHead_nothingPosted hmark hheld hmore,
    fun hmark => playHead_unmarked hmark hheld, fun hmark => ?_, hports, hcapture, playHead_samePlant hheld⟩
  · change takenIf (headDue s t) _ s = _
    rw [hdue, handleDue_plays hheld hgood htarget]
    rfl
  · rw [houtputs, applyTarget_other hj]
  · rw [houtputs, applyTarget_wait _ s hwait]
  · rw [houtputs, applyTarget_pulse _ s hpulse, Pulse.apply_eq]
  · rw [houtputs, applyTarget_level _ s hlevel]
  · rw [houtputs, applyTarget_discrete _ s hdiscrete]
    exact ⟨applyDiscrete_line e _, rfl, rfl⟩
  · have hsame := playHead_sameChecks hheld
    have hpost := playHead_grows hheld
    have htaken : markTaken t e rest s = deliverMark (trackNest s t) e.mark (targetSet t e rest s) := if_neg hmark
    rw [htaken] at hsame hpost
    rw [houtputs, ← targetSet_outputs (rest := rest), ← targetSet_eq]
    exact markDelivered hsame hpost

end Sys2Proof.Machine
end

section
/-! SUPPORT. The end of a drain with what it posts (R13, R14), and a force-off of the rails of a nest (R36). -/
namespace Sys2Proof.Machine

open Stated

/-! ### The end of a drain (R13, R14) -/

/-- The check and link side with the post FIFO, its reserve and its lost count: what offers to places leave. -/
def State.ledger (s : State) :=
  (s.checks, s.unposted, s.nodes, s.link, s.prompts, s.post.fifo, s.post.eventReserve, s.post.lost)

theorem sameChecks_of_ledger {s t : State} (h : t.ledger = s.ledger) : SameChecks s t := by
  simp only [State.ledger, Prod.mk.injEq] at h
  obtain ⟨hchecks, hunposted, hnodes, hlink, hprompts, -⟩ := h
  exact ⟨hchecks, hunposted, hnodes, hlink, hprompts⟩

theorem nothingPosted_of_ledger {s t : State} (h : t.ledger = s.ledger) : NothingPosted s t := by
  simp only [State.ledger, Prod.mk.injEq] at h
  obtain ⟨-, -, -, -, -, hfifo, -, hlost⟩ := h
  exact ⟨hfifo, hlost⟩

theorem posted_of_ledger {e : Event} {s t u : State} (h : Posted e s t) (hledger : u.ledger = t.ledger) :
    Posted e s u := by
  simp only [State.ledger, Prod.mk.injEq] at hledger
  obtain ⟨-, -, -, -, -, hfifo, hreserve, hlost⟩ := hledger
  unfold Posted at *
  rwa [hfifo, hreserve, hlost]

theorem offerInputs_ledger (n : NestId) (s : State) : (offerInputs n s).ledger = s.ledger :=
  forEach_keeps State.ledger _ (fun j s => (rfl : (offerInput (inputOf n j) s).ledger = s.ledger)) _ s

theorem closeInputs_ledger (n : NestId) (s : State) : (closeInputs n s).ledger = s.ledger := by
  have hstop : (s.forEach (List.finRange 8) fun j s => s.modInput (inputOf n j) Input.stop).ledger = s.ledger :=
    forEach_keeps State.ledger _ (fun j s => (rfl : (s.modInput (inputOf n j) Input.stop).ledger = s.ledger)) _ s
  unfold closeInputs
  dsimp only
  split
  · exact hstop
  · rw [offerInputs_ledger, hstop]

theorem leaveHeld_ledger (n : NestId) (s : State) : (leaveHeld n s).ledger = s.ledger := by
  unfold leaveHeld
  split
  · obtain ⟨places, -, h⟩ := enterWaiting_eq n s
    rw [h]; rfl
  · rfl

/-- R13: the end of a drain posts SESSION_CLOSE and nothing else. -/
theorem drainEnd_ledger (n : NestId) (s : State) :
    (drainEnd n s).ledger = (postEvent (evSessionClose n s.nests[n].cause) s).ledger := by
  have hclose := closeInputs_ledger n (postEvent (evSessionClose n s.nests[n].cause) s)
  unfold drainEnd
  dsimp only
  split
  · exact hclose
  · rw [leaveHeld_ledger, hclose]

theorem postEvent_sameChecks (e : Event) (s : State) : SameChecks s (postEvent e s) := by
  rw [postEvent_eq]; exact ⟨rfl, rfl, rfl, rfl, rfl⟩

theorem sameChecks_trans {s t u : State} (h : SameChecks s t) (g : SameChecks t u) : SameChecks s u := by
  obtain ⟨h1, h2, h3, h4, h5⟩ := h
  obtain ⟨g1, g2, g3, g4, g5⟩ := g
  exact ⟨g1.trans h1, g2.trans h2, g3.trans h3, g4.trans h4, g5.trans h5⟩

/-- R13, R14, R95: the drain has ended and SESSION_CLOSE is posted. -/
theorem drainEnd_closed {n : NestId} {s : State} (h : drainComplete s n = true) : SessionClosed n s (drainEnd n s) :=
  ⟨drainEnd_ended h, posted_of_ledger (posted_postEvent _ s) (drainEnd_ledger n s),
    fun _ hj => nestKept_of_ofNest (drainEnd_ofNest hj.symm s), sameStimulus_of_bench (drainEnd_bench n s),
    sameChecks_trans (postEvent_sameChecks _ s) (sameChecks_of_ledger (drainEnd_ledger n s))⟩

/-- R13: what the completion test makes of a DRAINING nest. -/
theorem testDrain_drainTested {n : NestId} {v : State} (h : v.nests[n].state = .draining) :
    DrainTested n v (testDrain n v) := by
  constructor
  · rintro ⟨hfree, hrails⟩
    have hcomplete := (drainComplete_iff v n).2 ⟨h, hfree, hrails⟩
    rw [testDrain_of_complete hcomplete]
    exact drainEnd_closed hcomplete
  · intro hnot
    rw [testDrain_of_incomplete (Bool.eq_false_iff.2 fun hc => hnot ((drainComplete_iff v n).1 hc).2)]
    exact ⟨⟨rfl, rfl, rfl, rfl⟩, ⟨rfl, rfl, rfl, rfl, rfl, rfl, rfl⟩, ⟨rfl, rfl, rfl, rfl, rfl⟩, ⟨rfl, rfl⟩⟩

/-! ### A force-off of the rails of a nest (R36) -/

/-- R36: the record of a rail that a force-off takes. -/
def Rail.forcedTo (x : Rail) (c : RailCause) : Rail :=
  { x with
    state := if x.state = .latched then .off else .discharging
    cause := c
    retry := 0
    dwell := 0
    timer := if x.state = .latched then none else some 0 }

/-- R36: rail k of the nest is forced off and reported, and a loss of service is handed on. -/
def forceRail (n : NestId) (c : RailCause) (handOff : Bool) (k : Fin 3) (s : State) : State :=
  let left := s.rails[railOf n k].state
  let s := postEvent (evRailForcedOff (railOf n k) c left) (s.modRail (railOf n k) fun x => x.forcedTo c)
  if handOff && left.serving then railLost (railOf n k) s else s

theorem forceOff_eq (n : NestId) (c : RailCause) (handOff : Bool) (s : State) :
    forceOff n c handOff s = s.forEach (forcedKinds s n) (forceRail n c handOff) := rfl

theorem forceRail_onward (n : NestId) (c : RailCause) (handOff : Bool) (k : Fin 3) (s : State) :
    Onward s (forceRail n c handOff k s) := by
  have hforced := (modRail_onward (railOf n k) (fun x => x.forcedTo c) s).trans
    (postEvent_onward (evRailForcedOff (railOf n k) c s.rails[railOf n k].state) _)
  unfold forceRail
  dsimp only
  split
  · exact hforced.trans (railLost_onward _ _)
  · exact hforced

theorem forceOff_onward (n : NestId) (c : RailCause) (handOff : Bool) (s : State) : Onward s (forceOff n c handOff s) := by
  rw [forceOff_eq]
  exact forEach_induct (Onward s) _ (fun k t h => h.trans (forceRail_onward n c handOff k t)) _ _ (.refl s)

theorem forceRail_rails (n : NestId) (c : RailCause) (handOff : Bool) (k : Fin 3) (s : State) (r : RailId) :
    (forceRail n c handOff k s).rails[r] = if r = railOf n k then s.rails[r].forcedTo c else s.rails[r] := by
  have hrails : (forceRail n c handOff k s).rails = (s.modRail (railOf n k) fun x => x.forcedTo c).rails := by
    unfold forceRail
    dsimp only
    split
    · rw [railLost_rails, postEvent_rails]
    · rw [postEvent_rails]
  rw [hrails, modRail_get]
  split
  · rename_i h; subst h; rfl
  · rfl

theorem mem_forcedKinds (s : State) (n : NestId) (k : Fin 3) : k ∈ forcedKinds s n
    ↔ s.rails[railOf n k].state.forcible = true ∨ s.rails[railOf n k].state = .latched := by
  have hk : k ∈ allKinds := by fin_cases k <;> decide
  unfold forcedKinds
  simp [hk]

/-- R36: the rails of the nest are forced off. -/
theorem forceOff_rail (n : NestId) (c : RailCause) (handOff : Bool) (s : State) (k : Fin 3) :
    (forceOff n c handOff s).rails[railOf n k] = forcedRail c s.rails[railOf n k] := by
  have htable := forEach_table (t := fun s (k : Fin 3) => s.rails[railOf n k]) (u := forceRail n c handOff)
    (f := fun _ x => x.forcedTo c) (fun k s j => by
      rw [forceRail_rails]
      simp only [railOf_inj]
      split
      · rename_i h; subst h; rfl
      · rfl)
    (forcedKinds s n) ((by decide : allKinds.Nodup).filter _) s k
  rw [forceOff_eq]
  refine htable.trans ?_
  simp only [mem_forcedKinds]
  unfold forcedRail Rail.forcedTo
  cases hs : s.rails[railOf n k].state <;> simp [RailState.forcible]

/-- R36: the rails of another nest are left. -/
theorem forceOff_otherRails (n : NestId) (c : RailCause) (handOff : Bool) (s : State) :
    OtherRails n s (forceOff n c handOff s) := by
  intro r hr
  rw [forceOff_eq]
  refine forEach_keeps (fun s => s.rails[r]) _ (fun k s => ?_) _ s
  rw [forceRail_rails]
  exact if_neg fun h => hr (by rw [h, nestOfRail_railOf])

/-- No track of the nest is active, and no check of the nest waits or runs. -/
structure Quiet (n : NestId) (s : State) : Prop where
  tracks : ∀ t : TrackId, trackNest s t = n → s.tracks[t].state.active = false
  checks : ∀ c : CheckId, checkNest s c = n → s.checks[c].state.undecided = false

/-- Every block but the rails and posting. -/
def State.besideForce (s : State) :=
  ((s.bus, s.nests, s.supplies, s.inputs, s.capture), s.tracks, s.outputs, s.claims, s.frameHolders, s.ports,
    (s.checks, s.unposted, s.nodes, s.link, s.prompts))

/-- R33: a loss of service meets nothing in a nest at rest. -/
theorem railLost_of_quiet {r : RailId} {s : State} (h : Quiet (nestOfRail r) s) : railLost r s = s := by
  have hhalt : haltForRail r s = s := by
    unfold haltForRail
    apply forEach_idle
    intro t
    refine if_neg ?_
    rintro ⟨hactive, hnest, -⟩
    rw [h.tracks t hnest] at hactive
    cases hactive
  unfold railLost
  rw [hhalt]
  unfold checksRailLost
  apply forEach_idle
  intro c
  refine if_neg fun hrunning => ?_
  simp only [Bool.and_self, Bool.and_eq_true, Bool.or_eq_true, beq_iff_eq] at hrunning
  have hdecided := h.checks c hrunning.1.2
  rcases hrunning.1.1 with g | g <;> rw [g] at hdecided <;> cases hdecided

theorem Quiet.of_besideForce {n : NestId} {s t : State} (h : Quiet n s) (heq : t.besideForce = s.besideForce) :
    Quiet n t := by
  simp only [State.besideForce, State.bus, Prod.mk.injEq] at heq
  obtain ⟨⟨⟨-, -, hpath⟩, -⟩, htracks, -, -, -, -, hchecks, -⟩ := heq
  refine ⟨fun k hk => ?_, fun c hc => ?_⟩
  · rw [htracks]; exact h.tracks k ((trackNest_congr hpath k).symm.trans hk)
  · rw [hchecks]; exact h.checks c ((checkNest_congr hpath c).symm.trans hc)

/-- R36: in a nest at rest a force-off changes rails and posts, and nothing else. -/
theorem forceOff_of_quiet {n : NestId} {s : State} (h : Quiet n s) (c : RailCause) (handOff : Bool) :
    (forceOff n c handOff s).besideForce = s.besideForce := by
  rw [forceOff_eq]
  refine forEach_induct (fun t => t.besideForce = s.besideForce) _ (fun k t ht => ?_) _ _ rfl
  have hforced : (postEvent (evRailForcedOff (railOf n k) c t.rails[railOf n k].state)
      (t.modRail (railOf n k) fun x => x.forcedTo c)).besideForce = s.besideForce := by
    rw [postEvent_eq]; exact ht
  unfold forceRail
  dsimp only
  split
  · rw [railLost_of_quiet (by rw [nestOfRail_railOf]; exact h.of_besideForce hforced)]
    exact hforced
  · exact hforced

end Sys2Proof.Machine
end

section
/-! SUPPORT. A drain entry block by block (R12): tracks and outputs (R66), the port (R85), checks (R120) and the prompt
context (R152). -/
namespace Sys2Proof.Machine

open Stated

/-! ### Tracks and outputs (R66) -/

section
variable (n : NestId) (s : State)

/-- R66: one track of the pass that a drain makes. -/
def haltForDrain (t : TrackId) (s : State) : State :=
  if s.tracks[t].state.active ∧ trackNest s t = n then haltTrack .drain t s else s

theorem drainTracks_eq : drainTracks n s = idleNest n (s.forEach allTracks (haltForDrain n)) := rfl

theorem idleNest_tracks : (idleNest n s).tracks = s.tracks := rfl
theorem idleNest_ports : (idleNest n s).ports = s.ports := rfl

theorem haltForDrain_trackNest (t : TrackId) : trackNest (haltForDrain n t s) = trackNest s := by
  unfold haltForDrain
  split
  · exact funext fun k => trackNest_congr (path_of_bus (haltTrack_bus .drain t s)) k
  · rfl

theorem haltForDrain_track (t j : TrackId) : (haltForDrain n t s).tracks[j] = if j = t then
      (if s.tracks[t].state.active = true ∧ trackNest s t = n then s.tracks[t].halted .drain else s.tracks[t])
    else s.tracks[j] := by
  unfold haltForDrain
  split
  · rw [haltTrack_track]
  · split
    · rename_i hj; subst hj; rfl
    · rfl

/-- R66: the active tracks of the nest halt with cause DRAIN. -/
theorem drainTracks_track (t : TrackId) : (drainTracks n s).tracks[t] =
    if s.tracks[t].state.active = true ∧ trackNest s t = n then s.tracks[t].halted .drain else s.tracks[t] := by
  have htable := forEach_table_under (t := fun s (t : TrackId) => s.tracks[t]) (u := haltForDrain n) (p := trackNest)
    (f := fun nest t x => if x.state.active = true ∧ nest t = n then x.halted .drain else x)
    (fun t s => haltForDrain_trackNest n s t) (fun t s j => haltForDrain_track n s t j) allTracks
    (List.nodup_finRange 8) s t
  rw [drainTracks_eq, idleNest_tracks, htable]
  exact if_pos (List.mem_finRange t)

theorem drainTracks_outputs : (drainTracks n s).outputs[n] = Outputs.idle := by
  rw [drainTracks_eq]
  unfold idleNest
  rw [modOutputs_get, if_pos rfl]

theorem haltForDrain_portState (p : NestId) (t : TrackId) :
    (haltForDrain n t s).ports[p].state = s.ports[p].state := by
  unfold haltForDrain
  split
  · rw [(haltTrack_halted .drain t s).ports p]
  · rfl

theorem drainTracks_portState (p : NestId) : (drainTracks n s).ports[p].state = s.ports[p].state := by
  rw [drainTracks_eq, idleNest_ports]
  exact forEach_keeps (fun s => s.ports[p].state) (haltForDrain n) (fun t s => haltForDrain_portState n s p t) allTracks s
end

/-! ### The port (R85) -/

/-- What drops of frames leave of a track. -/
def Track.standing (x : Track) := (x.state, x.cause, x.held)

section
variable (p : NestId) (s : State)

theorem reportDrop_standing (f : Frame) (s : State) (t : TrackId) :
    (reportDrop f s).tracks[t].standing = s.tracks[t].standing := by
  unfold reportDrop
  split
  · unfold countDrop changeTrack
    simp only [offerTrack_tracks, modTrack_get]
    split
    · rename_i h; subst h; rfl
    · rfl
  · rfl

theorem reportDrop_outputs_ports (f : Frame) (s : State) :
    ((reportDrop f s).outputs, (reportDrop f s).ports) = (s.outputs, s.ports) := by
  unfold reportDrop; split <;> rfl

theorem dropQueue_standing (t : TrackId) : (dropQueue p s).tracks[t].standing = s.tracks[t].standing :=
  forEach_keeps (fun s => s.tracks[t].standing) _ (fun f s => reportDrop_standing f s t) _ _

theorem dropQueue_outputs_ports : ((dropQueue p s).outputs, (dropQueue p s).ports)
    = (s.outputs, (s.modPort p fun x => { x with queue := [], inFlight := none }).ports) :=
  forEach_keeps (fun s => (s.outputs, s.ports)) _ reportDrop_outputs_ports _ _

theorem drainPort_standing (t : TrackId) : (drainPort p s).tracks[t].standing = s.tracks[t].standing := by
  unfold drainPort; split
  · rfl
  · exact dropQueue_standing p s t

theorem drainPort_outputs : (drainPort p s).outputs = s.outputs := by
  unfold drainPort; split
  · rfl
  · exact (Prod.mk.inj (dropQueue_outputs_ports p s)).1

/-- R85: the port of a draining nest is OFF, and its queue is empty. -/
theorem drainPort_port : (drainPort p s).ports[p].state = .off
    ∧ (s.ports[p].state ≠ .off → (drainPort p s).ports[p].queue = [] ∧ (drainPort p s).ports[p].inFlight = none) := by
  unfold drainPort; split
  · rename_i h; exact ⟨h, fun hne => absurd h hne⟩
  · rw [modPort_get, if_pos rfl, (Prod.mk.inj (dropQueue_outputs_ports p s)).2, modPort_get, if_pos rfl]
    exact ⟨rfl, fun _ => ⟨rfl, rfl⟩⟩

end

/-! ### Checks (R120) -/

section
variable {n : NestId} {s : State} {e : CheckId}

/-- R120: one check of the pass that a drain makes. -/
def abortCheck (n : NestId) (c : CheckId) (s : State) : State :=
  if s.checks[c].state.undecided ∧ checkNest s c = n then
    recordDecision c { verdict := .aborted, detail := s.checks[c].state.code } s
  else s

theorem abortChecks_eq (n : NestId) (s : State) : abortChecks n s = s.forEach allChecks (abortCheck n) := rfl

theorem abortCheck_plant (c : CheckId) (s : State) : (abortCheck n c s).plant = s.plant := by
  unfold abortCheck; split
  · exact recordDecision_plant ..
  · rfl

theorem takeVerdict_nodes_link_prompts {s t : State} (h : takeVerdict s = some t) :
    (t.nodes, t.link, t.prompts) = (s.nodes, s.link, s.prompts) := by
  unfold takeVerdict at h
  split at h
  · cases h
  · split at h
    · cases h
    · split at h
      · cases h; rfl
      · cases h

theorem recordDecision_nodes_link_prompts (c : CheckId) (d : Decision) (s : State) :
    ((recordDecision c d s).nodes, (recordDecision c d s).link, (recordDecision c d s).prompts)
      = (s.nodes, s.link, s.prompts) :=
  takeVerdicts_induct (P := fun t => (t.nodes, t.link, t.prompts) = (s.nodes, s.link, s.prompts))
    (fun hs ht => (takeVerdict_nodes_link_prompts ht).trans hs) _ rfl

theorem abortChecks_prompts (n : NestId) (s : State) : (abortChecks n s).prompts = s.prompts :=
  forEach_keeps State.prompts (abortCheck n) (fun c s => by
    unfold abortCheck; split
    · exact congrArg (fun p => p.2.2) (recordDecision_nodes_link_prompts ..)
    · rfl) allChecks s

/-- R120: an undecided check of the nest is decided ABORTED with the state it left. -/
theorem abortChecks_stands (hnest : checkNest s e = n) (hundecided : s.checks[e].state.undecided = true) :
    VerdictStands e (verdictOf s e { verdict := .aborted, detail := s.checks[e].state.code }) (abortChecks n s) := by
  have hdecided : s.checks[e].state ≠ .decided := fun h => by rw [h] at hundecided; cases hundecided
  rw [abortChecks_eq]
  refine forEach_turns (P := fun t => t.checks[e] = s.checks[e] ∧ t.plant = s.plant)
    (fun c t hc ht => ⟨?_, (abortCheck_plant c t).trans ht.2⟩) (fun t ht => ?_) (fun c t ht => ?_) (mem_allChecks e)
    ⟨rfl, rfl⟩
  · unfold abortCheck; split
    · exact (recordDecision_check hc _ (by rw [ht.1]; exact hdecided)).trans ht.1
    · exact ht.1
  · obtain ⟨hcheck, hplant⟩ := ht
    unfold abortCheck
    rw [if_pos ⟨by rw [hcheck]; exact hundecided, (checkNest_congr (path_of_bus (bus_of_plant hplant)) e).trans hnest⟩,
      hcheck, ← verdictOf_congr (besideRails_of_plant hplant) hcheck]
    exact recordDecision_stands e _ t
  · unfold abortCheck; split
    · rename_i hother
      refine verdictStands_recordDecision ht ?_
      rintro rfl
      rcases ht.settled with g | g <;> rw [g] at hother <;> cases hother.1
    · exact ht

theorem VerdictStands.not_undecided {v : Verdict} (h : VerdictStands e v s) : s.checks[e].state.undecided = false := by
  rcases h.settled with g | g <;> rw [g] <;> rfl

theorem takeVerdict_decided {t : State} (h : s.checks[e].state.undecided = false) (ht : takeVerdict s = some t) :
    t.checks[e].state.undecided = false := by
  unfold takeVerdict at ht
  split at ht
  · cases ht
  · split at ht
    · cases ht
    · split at ht
      · cases ht
        rw [setUnposted_checks, modCheck_get]
        split
        · rfl
        · exact h
      · cases ht

theorem recordDecision_decided (h : s.checks[e].state.undecided = false) (c : CheckId) (d : Decision) :
    (recordDecision c d s).checks[e].state.undecided = false :=
  takeVerdicts_induct (P := fun t => t.checks[e].state.undecided = false) takeVerdict_decided _ (by
    rw [setUnposted_checks, modCheck_get]
    split
    · rfl
    · exact h)

/-- R120: a drain leaves no check of its nest undecided. -/
theorem abortChecks_decided (hnest : checkNest s e = n) : (abortChecks n s).checks[e].state.undecided = false := by
  by_cases hundecided : s.checks[e].state.undecided = true
  · exact (abortChecks_stands hnest hundecided).not_undecided
  · refine forEach_induct (fun t => t.checks[e].state.undecided = false) (abortCheck n) (fun c t ht => ?_) allChecks s
      (Bool.eq_false_iff.2 hundecided)
    unfold abortCheck; split
    · exact recordDecision_decided ht ..
    · exact ht
end

/-! ### The prompt context (R152) -/

/-- Every block but the prompt contexts and the link queue. -/
def State.besidePrompts (s : State) := (s.plant, s.checks, s.unposted, s.nodes, s.post)

theorem offerStep_besidePrompts (n : NestId) (k : PromptStep) (s : State) :
    (offerStep n k s).besidePrompts = s.besidePrompts := by
  unfold offerStep; split <;> rfl

theorem enterClearing_besidePrompts (n : NestId) (s : State) :
    (enterClearing n s).besidePrompts = s.besidePrompts := offerStep_besidePrompts ..

theorem modPrompt_self (n : NestId) (f : Prompt → Prompt) (s : State) :
    (s.modPrompt n f).prompts[n] = f s.prompts[n] := (modPrompt_get ..).trans (if_pos rfl)

/-- R147: the context enters CLEARING with the CLEAR step offered or held. -/
theorem enterClearing_prompt (n : NestId) (s : State) : ∃ held, (enterClearing n s).prompts[n]
    = { s.prompts[n] with state := .clearing, timer := none, step := some (.clear, held) } := by
  unfold enterClearing offerStep
  split
  · refine ⟨false, ?_⟩
    rw [modPrompt_self]
    simp [joinQueue]
  · refine ⟨true, ?_⟩
    rw [modPrompt_self, modPrompt_self]

theorem enterClearing_clearing (n : NestId) (s : State) : Clearing s.prompts[n] (enterClearing n s).prompts[n] := by
  obtain ⟨held, h⟩ := enterClearing_prompt n s
  rw [h]
  exact ⟨rfl, rfl, rfl, rfl, rfl, held, rfl⟩

/-- R151: with no prompt waiting and no drain to end, an entry into FREE clears the context. -/
theorem freeContext_idle {n : NestId} {s : State} (hnest : s.nests[n].state ≠ .draining)
    (hwaiting : s.prompts[n].waiting = []) : freeContext n s = s.modPrompt n Prompt.free := by
  have htest : testDrain n (s.modPrompt n Prompt.free) = s.modPrompt n Prompt.free :=
    testDrain_of_incomplete (Bool.eq_false_iff.2 fun h => hnest ((drainComplete_iff ..).1 h).1)
  unfold freeContext takeHeads
  rw [htest, modPrompt_self, show (Prompt.free s.prompts[n]).waiting = [] from hwaiting]
  rfl

/-- R152: what a withdrawal makes of the context of a nest that does not drain, with no prompt waiting. -/
structure WithdrawnFrom (n : NestId) (s u : State) : Prop where
  beside : u.besidePrompts = s.besidePrompts
  waiting : u.prompts[n].waiting = []
  withdrawn : Withdrawn s.prompts[n] u.prompts[n]
  freed : ∀ k, s.prompts[n].state = .free ∨ s.prompts[n].state = .loading ∧ s.prompts[n].step = some (k, true) →
    u.prompts[n].state = .free

theorem withdrawPrompt_withdrawn {n : NestId} {s : State} (hnest : s.nests[n].state ≠ .draining)
    (hwaiting : s.prompts[n].waiting = []) : WithdrawnFrom n s (withdrawPrompt n s) := by
  have hclearing : (enterClearing n s).prompts[n].waiting = [] := by
    obtain ⟨held, h⟩ := enterClearing_prompt n s
    rw [h]; exact hwaiting
  have hmarked (hnotShown : s.prompts[n].state ≠ .shown) (hnotClearing : s.prompts[n].state ≠ .clearing)
      (hnotFree : s.prompts[n].state ≠ .free) (hoffered : ∀ k, s.prompts[n].step ≠ some (k, true)) :
      WithdrawnFrom n s (s.modPrompt n fun p => { p with withdrawn := true }) := by
    have hself := modPrompt_self n (fun p => { p with withdrawn := true }) s
    refine ⟨rfl, by rw [hself]; exact hwaiting, ⟨fun h => absurd h hnotShown, fun _ ⟨k, h⟩ => absurd h (hoffered k),
      fun _ _ => ?_, fun h => absurd h hnotClearing⟩, fun k h => ?_⟩
    · rw [hself]; exact ⟨rfl, rfl, rfl, rfl, rfl⟩
    · exact h.elim (fun h => absurd h hnotFree) fun h => absurd h.2 (hoffered k)
  unfold withdrawPrompt
  split
  case h_1 k hstate hstep =>
    rw [freeContext_idle hnest hwaiting]
    have hself := modPrompt_self n Prompt.free s
    refine ⟨rfl, by rw [hself]; exact hwaiting, ⟨fun h => ?_, fun h => ?_, fun _ h => ?_, fun h => ?_⟩,
      fun _ _ => by rw [hself]; rfl⟩
    · exact nomatch hstate.symm.trans h
    · exact nomatch hstate.symm.trans h
    · exact absurd hstep (h k)
    · exact nomatch hstate.symm.trans h
  case h_2 k hstate hstep =>
    refine ⟨enterClearing_besidePrompts n s, hclearing, ⟨fun h => ?_, fun _ _ => enterClearing_clearing n s,
      fun _ h => ?_, fun h => ?_⟩, fun _ h => ?_⟩
    · exact nomatch hstate.symm.trans h
    · exact absurd hstep (h k)
    · exact nomatch hstate.symm.trans h
    · rcases h with h | h
      · exact nomatch hstate.symm.trans h
      · exact nomatch hstate.symm.trans h.1
  case h_3 hstate hoffered =>
    exact hmarked (by rw [hstate]; decide) (by rw [hstate]; decide) (by rw [hstate]; decide) fun k hk => hoffered k hk
  case h_4 hstate hoffered =>
    exact hmarked (by rw [hstate]; decide) (by rw [hstate]; decide) (by rw [hstate]; decide) fun k hk => hoffered k hk
  case h_5 hstate =>
    refine ⟨enterClearing_besidePrompts n s, hclearing, ⟨fun _ => enterClearing_clearing n s, fun h => ?_, fun h => ?_,
      fun h => ?_⟩, fun _ h => ?_⟩
    · exact nomatch hstate.symm.trans h
    · rcases h with h | h <;> exact nomatch hstate.symm.trans h
    · exact nomatch hstate.symm.trans h
    · rcases h with h | h
      · exact nomatch hstate.symm.trans h
      · exact nomatch hstate.symm.trans h.1
  case h_6 hstate =>
    refine ⟨rfl, hwaiting, ⟨fun h => ?_, fun h => ?_, fun h => ?_, fun h => ?_⟩, fun _ _ => hstate⟩
    · exact nomatch hstate.symm.trans h
    · exact nomatch hstate.symm.trans h
    · rcases h with h | h <;> exact nomatch hstate.symm.trans h
    · exact nomatch hstate.symm.trans h
  case h_7 hstate =>
    refine ⟨rfl, hwaiting, ⟨fun h => ?_, fun h => ?_, fun h => ?_, fun _ => ⟨hstate, rfl, rfl, rfl⟩⟩, fun _ h => ?_⟩
    · exact nomatch hstate.symm.trans h
    · exact nomatch hstate.symm.trans h
    · rcases h with h | h <;> exact nomatch hstate.symm.trans h
    · rcases h with h | h
      · exact nomatch hstate.symm.trans h
      · exact nomatch hstate.symm.trans h.1

end Sys2Proof.Machine
end

section
/-! SUPPORT. The whole of a drain entry, and what the opening of a seat and a closure without load make of a nest (R2, R7,
R11, R12). -/
namespace Sys2Proof.Machine

open Stated

/-! ### Drain entry (R12) -/

/-- R12: the state in which the cause is set. -/
def causeSet (n : NestId) (c : DrainCause) (s : State) : State :=
  s.modNest n fun x => { x with cause := c, trip := false }

/-- R12: the state in which the cause is set and tracks, port and checks have stopped. -/
def blocksStopped (n : NestId) (c : DrainCause) (s : State) : State :=
  abortChecks n (drainPort n (drainTracks n (causeSet n c s)))

/-- R12: the state in which the prompt context has been withdrawn too. -/
def contextWithdrawn (n : NestId) (c : DrainCause) (s : State) : State :=
  withdrawPrompt n ((blocksStopped n c s).modPrompt n fun p => { p with waiting := [] })

theorem enterDrain_eq (n : NestId) (c : DrainCause) (s : State) : enterDrain n c s =
    offerNest n ((forceOff n .drain true (contextWithdrawn n c s)).modNest n fun x => { x with state := .draining }) :=
  rfl

theorem prompts_of_tracks {s t : State} (h : s.besideTracks = t.besideTracks) : s.prompts = t.prompts :=
  congrArg (fun p => p.2.2.2.2.2.2.2.2.2.2) h

theorem outputs_of_plant {s t : State} (h : s.plant = t.plant) : s.outputs = t.outputs :=
  congrArg (fun p => p.1.2.2.2.1) h

theorem ports_of_plant {s t : State} (h : s.plant = t.plant) : s.ports = t.ports :=
  congrArg (fun p => p.1.2.2.2.2.2.2.1) h

/-- R12: the waiting list of the context empties before the withdrawal. -/
theorem emptied_withdrawn {n : NestId} {s : State} (h : s.nests[n].state ≠ .draining) :
    WithdrawnFrom n s (withdrawPrompt n (s.modPrompt n fun p => { p with waiting := [] })) := by
  have hself := modPrompt_self n (fun p => { p with waiting := [] }) s
  obtain ⟨hbeside, hwaiting, hwithdrawn, hfreed⟩ :=
    withdrawPrompt_withdrawn (s := s.modPrompt n fun p => { p with waiting := [] }) h (by rw [hself])
  rw [hself] at hwithdrawn hfreed
  exact ⟨hbeside, hwaiting, hwithdrawn, hfreed⟩

/-- R12: the changes of the nest record, the first and the last step of a drain entry, in one. -/
theorem causeSet_thenDraining {n : NestId} {c : DrainCause} {s u : State} (h : u.nests = (s.modNest n fun x =>
    { x with cause := c, trip := false }).nests) : (u.modNest n fun x => { x with state := .draining }).nests
      = s.nests.set n { s.nests[n] with state := .draining, cause := c, trip := false } := by
  unfold State.modNest at h ⊢
  simp only [h]
  simp

theorem state_of_standing {x y : Track} (h : x.standing = y.standing) : x.state = y.state := congrArg Prod.fst h

section
variable (n : NestId) (c : DrainCause) (s : State)

theorem causeSet_path : (causeSet n c s).path = s.path := rfl
theorem causeSet_rails : (causeSet n c s).rails = s.rails := rfl
theorem causeSet_checks : (causeSet n c s).checks = s.checks := rfl
theorem causeSet_prompts : (causeSet n c s).prompts = s.prompts := rfl
theorem causeSet_ports : (causeSet n c s).ports = s.ports := rfl

theorem causeSet_nest : (causeSet n c s).nests[n] = { s.nests[n] with cause := c, trip := false } := by
  unfold causeSet; rw [modNest_get, if_pos rfl]

theorem causeSet_clock (j : NestId) : (causeSet n c s).nests[j].clock = s.nests[j].clock := by
  unfold causeSet; rw [modNest_get]; split
  · rename_i h; subst h; rfl
  · rfl

/-- What the stop of tracks and port leaves. -/
theorem blocksStopped_before :
    (drainPort n (drainTracks n (causeSet n c s))).besideTracks
      = (causeSet n c s).besideTracks := by
  rw [drainPort_besideTracks, drainTracks_besideTracks]

theorem blocksStopped_besideRails : (blocksStopped n c s).besideRails
    = (causeSet n c s).besideRails := by
  unfold blocksStopped
  rw [besideRails_of_plant (abortChecks_plant ..), besideRails_of_tracks (blocksStopped_before n c s)]

theorem blocksStopped_rails : (blocksStopped n c s).rails = s.rails := by
  unfold blocksStopped
  rw [rails_of_plant (abortChecks_plant ..), rails_of_tracks (blocksStopped_before n c s), causeSet_rails]

theorem blocksStopped_prompts : (blocksStopped n c s).prompts = s.prompts := by
  unfold blocksStopped
  rw [abortChecks_prompts, prompts_of_tracks (blocksStopped_before n c s), causeSet_prompts]

theorem blocksStopped_path : (blocksStopped n c s).path = s.path :=
  (path_of_besideRails (blocksStopped_besideRails n c s)).trans (causeSet_path ..)

theorem blocksStopped_nest :
    (blocksStopped n c s).nests[n] = { s.nests[n] with cause := c, trip := false } := by
  rw [nests_of_besideRails (blocksStopped_besideRails n c s), causeSet_nest]

/-- R66: the active tracks of the nest have halted; of the others drops of frames may have been counted. -/
theorem blocksStopped_standing (t : TrackId) : (blocksStopped n c s).tracks[t].standing =
    (if s.tracks[t].state.active = true ∧ trackNest s t = n then s.tracks[t].halted .drain
      else s.tracks[t]).standing := by
  unfold blocksStopped
  rw [tracks_of_plant (abortChecks_plant ..), drainPort_standing, drainTracks_track]
  rfl

theorem blocksStopped_outputs : (blocksStopped n c s).outputs[n] = Outputs.idle := by
  unfold blocksStopped
  rw [outputs_of_plant (abortChecks_plant ..), drainPort_outputs, drainTracks_outputs]

/-- R85: the port is OFF; one that was not has emptied its queue. -/
theorem blocksStopped_port : (blocksStopped n c s).ports[n].state = .off
    ∧ (s.ports[n].state ≠ .off →
        (blocksStopped n c s).ports[n].queue = [] ∧ (blocksStopped n c s).ports[n].inFlight = none) := by
  have hstate := drainTracks_portState n (causeSet n c s) n
  obtain ⟨hoff, hempty⟩ := drainPort_port n (drainTracks n (causeSet n c s))
  unfold blocksStopped
  rw [ports_of_plant (abortChecks_plant ..)]
  exact ⟨hoff, fun h => hempty (by rw [hstate, causeSet_ports]; exact h)⟩

variable {n s} in
/-- R120: the undecided checks of the nest are decided ABORTED. -/
theorem blocksStopped_aborts {e : CheckId} (hnest : checkNest s e = n) (h : s.checks[e].state.undecided = true) :
    VerdictStands e (verdictOf s e { verdict := .aborted, detail := s.checks[e].state.code }) (blocksStopped n c s) := by
  unfold blocksStopped
  have hbefore := blocksStopped_before n c s
  generalize drainPort n (drainTracks n (causeSet n c s)) = u at hbefore ⊢
  have hbeside := besideRails_of_tracks hbefore
  have hpath : u.path = s.path := (path_of_besideRails hbeside).trans (causeSet_path ..)
  have hcheck : u.checks[e] = s.checks[e] := by rw [checks_of_tracks hbefore, causeSet_checks]
  have hclock : checkClock u e = checkClock s e := by
    unfold checkClock
    simp only [checkNest_congr hpath, nests_of_besideRails hbeside, causeSet_clock]
  have hverdict (d : Decision) : verdictOf u e d = verdictOf s e d := by
    unfold verdictOf
    rw [hcheck, hclock, checkNest_congr hpath]
  have hstands := abortChecks_stands (s := u) ((checkNest_congr hpath e).trans hnest) (by rw [hcheck]; exact h)
  rwa [hverdict, hcheck] at hstands

theorem blocksStopped_decided {e : CheckId} (hnest : checkNest s e = n) :
    (blocksStopped n c s).checks[e].state.undecided = false := by
  unfold blocksStopped
  refine abortChecks_decided ?_
  have hpath := (path_of_besideRails (besideRails_of_tracks (blocksStopped_before n c s))).trans (causeSet_path ..)
  exact (checkNest_congr hpath e).trans hnest

/-- R152: the context is withdrawn while the nest is not yet DRAINING. -/
theorem contextWithdrawn_withdrawn (h : s.nests[n].state = .opened) :
    WithdrawnFrom n (blocksStopped n c s) (contextWithdrawn n c s) := by
  unfold contextWithdrawn
  refine emptied_withdrawn fun hdrain => ?_
  rw [blocksStopped_nest] at hdrain
  exact nomatch h.symm.trans hdrain

theorem plant_of_besidePrompts {s t : State} (h : s.besidePrompts = t.besidePrompts) : s.plant = t.plant :=
  congrArg Prod.fst h

variable {n s} in
theorem contextWithdrawn_plant (h : s.nests[n].state = .opened) :
    (contextWithdrawn n c s).plant = (blocksStopped n c s).plant :=
  plant_of_besidePrompts (contextWithdrawn_withdrawn n c s h).beside

variable {n s} in
theorem contextWithdrawn_checks (h : s.nests[n].state = .opened) :
    (contextWithdrawn n c s).checks = (blocksStopped n c s).checks
      ∧ (contextWithdrawn n c s).unposted = (blocksStopped n c s).unposted
      ∧ (contextWithdrawn n c s).post = (blocksStopped n c s).post := by
  have hbeside := (contextWithdrawn_withdrawn n c s h).beside
  simp only [State.besidePrompts, Prod.mk.injEq] at hbeside
  obtain ⟨-, hchecks, hunposted, -, hpost⟩ := hbeside
  exact ⟨hchecks, hunposted, hpost⟩

variable {n s} in
/-- R12: before the force-off nothing of the nest runs. -/
theorem contextWithdrawn_quiet (h : s.nests[n].state = .opened) : Quiet n (contextWithdrawn n c s) := by
  have hplant := contextWithdrawn_plant c h
  have hpath : (contextWithdrawn n c s).path = s.path :=
    (path_of_bus (bus_of_plant hplant)).trans (blocksStopped_path n c s)
  refine ⟨fun t ht => ?_, fun e he => ?_⟩
  · rw [trackNest_congr hpath] at ht
    rw [tracks_of_plant hplant, state_of_standing (blocksStopped_standing n c s t)]
    split
    · rfl
    · rename_i hidle; exact Bool.eq_false_iff.2 fun ha => hidle ⟨ha, ht⟩
  · rw [(contextWithdrawn_checks c h).1]
    exact blocksStopped_decided n c s ((checkNest_congr hpath e).symm.trans he)
end

/-- R12: a drain entry reaches every block of the nest. -/
theorem enterDrain_entered {n : NestId} {s : State} (h : s.nests[n].state = .opened) (c : DrainCause) :
    DrainEntered n c s (enterDrain n c s) := by
  have hplant := contextWithdrawn_plant c h
  have hforce := forceOff_of_quiet (contextWithdrawn_quiet c h) .drain true
  have honward := forceOff_onward n .drain true (contextWithdrawn n c s)
  have hrail := forceOff_rail n .drain true (contextWithdrawn n c s)
  have hother := forceOff_otherRails n .drain true (contextWithdrawn n c s)
  have hrails : (contextWithdrawn n c s).rails = s.rails :=
    (rails_of_plant hplant).trans (blocksStopped_rails n c s)
  have hbeside := (besideRails_of_plant hplant).trans (blocksStopped_besideRails n c s)
  obtain ⟨hchecks, hunposted, hpost⟩ := contextWithdrawn_checks c h
  obtain ⟨-, hwaiting, hwithdrawn, hfreed⟩ := contextWithdrawn_withdrawn n c s h
  rw [blocksStopped_prompts] at hwithdrawn hfreed
  rw [enterDrain_eq]
  generalize forceOff n .drain true (contextWithdrawn n c s) = u at hforce honward hrail hother ⊢
  simp only [State.besideForce, State.besideRails, Prod.mk.injEq] at hforce hbeside
  obtain ⟨⟨-, hnests, hsupplies, hinputs, hcapture⟩, htracks, houtputs, -, -, hports, hchecks', -, -, -, hprompts⟩ :=
    hforce
  obtain ⟨-, hnests', hsupplies', hinputs', hcapture'⟩ := hbeside
  have htrack (t : TrackId) : u.tracks[t].standing = (blocksStopped n c s).tracks[t].standing := by
    rw [htracks, tracks_of_plant hplant]
  have hport : u.ports[n] = (blocksStopped n c s).ports[n] := by
    rw [hports, ports_of_plant hplant]
  obtain ⟨hoff, hempty⟩ := blocksStopped_port n c s
  refine ⟨?_, fun j => ?_, fun r hr => ?_, fun t hnest hactive => ?_, fun t hidle => ?_, ?_, ?_, fun hon => ?_,
    fun e he => ?_, fun e he hundecided => ?_, ?_, ?_, fun k hk => ?_, hsupplies.trans hsupplies',
    hinputs.trans hinputs', hcapture.trans hcapture'⟩
  · exact causeSet_thenDraining (hnests.trans hnests')
  · exact (hrail j).trans (by rw [hrails])
  · exact (hother r hr).trans (by rw [hrails])
  · have hstanding := (htrack t).trans (blocksStopped_standing n c s t)
    rw [if_pos ⟨hactive, hnest⟩] at hstanding
    obtain ⟨hstate, hcause, hheld⟩ := Prod.mk.inj hstanding |>.imp_right Prod.mk.inj
    exact ⟨hstate, hcause, hheld⟩
  · have hstanding := (htrack t).trans (blocksStopped_standing n c s t)
    rw [if_neg fun hboth => hidle.elim (fun hn => hn hboth.2) fun ha => by rw [ha] at hboth; cases hboth.1] at hstanding
    exact congrArg Prod.fst hstanding
  · change u.outputs[n] = _
    rw [houtputs, outputs_of_plant hplant, blocksStopped_outputs]
  · change u.ports[n].state = _
    rw [hport]; exact hoff
  · change u.ports[n].queue = _ ∧ u.ports[n].inFlight = _
    rw [hport]; exact hempty hon
  · change u.checks[e].state.undecided = _
    rw [hchecks', hchecks]; exact blocksStopped_decided n c s he
  · have hstands := blocksStopped_aborts c he hundecided
    exact honward.stands (hstands.mono hchecks hunposted (.of_eq (congrArg _ hpost) (congrArg _ hpost)))
  · change u.prompts[n].waiting = _
    rw [hprompts]; exact hwaiting
  · change Withdrawn _ u.prompts[n]
    rw [hprompts]; exact hwithdrawn
  · change u.prompts[n].state = _
    rw [hprompts]; exact hfreed k hk

theorem offerNest_nests (n : NestId) (s : State) : (offerNest n s).nests = s.nests := rfl

theorem enterDrain_draining (n : NestId) (c : DrainCause) (s : State) :
    (enterDrain n c s).nests[n].state = .draining := by
  rw [enterDrain_eq]
  rw [offerNest_nests, modNest_get, if_pos rfl]

end Sys2Proof.Machine
end

section
/-! CERTIFICATE. Statements on the start of a drain by the host (R10, R12). -/
namespace Sys2Proof.Machine

open Stated

/-- R165: the result of the action is no part of what a drain test leaves. -/
theorem drainTested_offerResult {n : NestId} {v u : State} (h : DrainTested n v u) (k : SlotId) (w : Word)
    (r : Option Reason) : DrainTested n v (offerResult k w r u) := h

/-- R164: the action word that reaches memory is no part of what a drain entry starts from. -/
theorem drainEntered_asked {n : NestId} {c : DrainCause} {a : HostAccess} {s v : State}
    (h : DrainEntered n c (writeAction a (clearHost s)) v) : DrainEntered n c s v := h

theorem drainEntry_tested (n : NestId) (c : DrainCause) (s : State) :
    DrainTested n (enterDrain n c s) (drainEntry n c s) := testDrain_drainTested (enterDrain_draining n c s)

theorem drainEntry_takes (n : NestId) (c : DrainCause) (s : State) :
    (drainEntry n c s).path.takes = s.path.takes :=
  congrArg Path.takes (path_of_bus (drainEntry_bus n c s))

theorem writeAction_takes (a : HostAccess) (s : State) :
    (writeAction a (clearHost s)).path.takes = s.path.takes := rfl

/-- R10: an action that drains an OPEN nest with this cause and makes f of a DRAINING one. -/
def drainAction (cause : DrainCause) (f : Nest → Nest) (n : NestId) (s : State) : Except Reason State :=
  match s.nests[n].state with
  | .opened => .ok (drainEntry n cause s)
  | .draining => .ok (s.modNest n f)
  | .idle | .waiting | .held => .error .notOpen

theorem actNestRelease_val (n : NestId) (opd : Nat) (s : State) :
    actNestRelease n.val opd s = drainAction .released id n s := by
  have hself : s.modNest n id = s := by simp [State.modNest]
  unfold actNestRelease drainAction
  rw [onNest_val, hself] <;> rfl

theorem actNestAbort_val (n : NestId) (opd : Nat) (s : State) : actNestAbort n.val opd s =
    drainAction .aborted (fun x => { x with cause := if x.cause = .released then .aborted else x.cause }) n s := by
  unfold actNestAbort; rw [onNest_val] <;> rfl

section
variable {cause : DrainCause} {f : Nest → Nest} {n : NestId} {s : State}

theorem drainAction_opened (h : s.nests[n].state = .opened) :
    drainAction cause f n s = .ok (drainEntry n cause s) := by unfold drainAction; rw [h]

theorem drainAction_draining (h : s.nests[n].state = .draining) :
    drainAction cause f n s = .ok (s.modNest n f) := by unfold drainAction; rw [h]

theorem drainAction_refused (h : ¬ (s.nests[n].state = .opened ∨ s.nests[n].state = .draining)) :
    drainAction cause f n s = .error .notOpen := by
  unfold drainAction
  split
  · rename_i hs; exact absurd (.inl hs) h
  · rename_i hs; exact absurd (.inr hs) h
  all_goals rfl

/-- R10: what such an action answers. -/
theorem drainAction_answers {k : SlotId} {a : HostAccess} {act : Nat → Nat → State → Except Reason State} {c : Instr}
    {x : Action} (hc : exec c s = .next (performAction x act s)) (hg : Commands s x k a n.val)
    (hact : ∀ opd t, act n.val opd t = drainAction cause f n t) :
    Answers c k a s (if s.nests[n].state = .opened ∨ s.nests[n].state = .draining then none else some .notOpen) fun u =>
      (s.nests[n].state = .draining →
        u.nests = s.nests.set n (f s.nests[n]) ∧ u.supplies = s.supplies ∧ u.rails = s.rails ∧ u.inputs = s.inputs
          ∧ SameStimulus s u ∧ SameChecks s u ∧ NothingPosted s u)
      ∧ (s.nests[n].state = .opened → ∃ v, DrainEntered n cause s v ∧ DrainTested n v u) := by
  split
  · rename_i hstate
    rcases hstate with hopened | hdraining
    · have hu := (hact (wordOperand a.data) (writeAction a (clearHost s))).trans (drainAction_opened hopened)
      have hentered := enterDrain_entered (s := writeAction a (clearHost s)) hopened cause
      refine answers_of_ok hc hg hu ((drainEntry_takes ..).trans (writeAction_takes ..)) ⟨fun hdraining => ?_, fun _ =>
        ⟨_, drainEntered_asked hentered, drainTested_offerResult (drainEntry_tested ..) ..⟩⟩
      exact nomatch hopened.symm.trans hdraining
    · have hu := (hact (wordOperand a.data) (writeAction a (clearHost s))).trans (drainAction_draining hdraining)
      exact answers_of_ok hc hg hu rfl
        ⟨fun _ => ⟨rfl, rfl, rfl, rfl, ⟨rfl, rfl, rfl, rfl, rfl, rfl, rfl⟩, ⟨rfl, rfl, rfl, rfl, rfl⟩, ⟨rfl, rfl⟩⟩,
          fun hopened => nomatch hopened.symm.trans hdraining⟩
  · rename_i hstate
    exact answers_of_error hc hg ((hact _ _).trans (drainAction_refused hstate))
end

/-- R10: what an abort makes of the cause of a drain. -/
def abortedCause (abort : Bool) (x : Nest) : Nest :=
  { x with cause := if abort ∧ x.cause = .released then .aborted else x.cause }

theorem abortedCause_false : abortedCause false = id := by
  funext x; simp [abortedCause]

theorem abortedCause_true :
    abortedCause true = fun x => { x with cause := if x.cause = .released then .aborted else x.cause } := by
  funext x; simp [abortedCause]

/-- Settles O20: an accepted NEST_RELEASE or NEST_ABORT is a drain entry with its completion test, or the change of the
cause. -/
theorem releaseAndAbortDrainAnOpenNest : Obligations.ReleaseAndAbortDrainAnOpenNest := by
  intro abort s k a n hg
  cases abort with
  | false =>
    change Commands s .nestRelease k a n.val at hg
    exact drainAction_answers (c := .nestRelease) (f := abortedCause false) rfl hg
      (by rw [abortedCause_false]; exact actNestRelease_val n)
  | true =>
    change Commands s .nestAbort k a n.val at hg
    exact drainAction_answers (c := .nestAbort) (f := abortedCause true) rfl hg
      (by rw [abortedCause_true]; exact actNestAbort_val n)

end Sys2Proof.Machine
end

section
/-! CERTIFICATE. The statement on the seat readings that move a nest (R2, R7, R11, R14). -/
namespace Sys2Proof.Machine

open Stated

/-! ### What an opening of the seat keeps of a nest -/

/-- What neither a drain nor an entry into WAITING or IDLE changes of a nest. -/
def Nest.seating (x : Nest) := (x.seat, x.openRun, x.session, x.clock)

section
variable (n : NestId) (s : State)

theorem offerNest_nest (j : NestId) : (offerNest n s).nests[j] = s.nests[j] := rfl

theorem leaveHeld_seating : (leaveHeld n s).nests[n].seating = s.nests[n].seating := by
  unfold leaveHeld
  split
  · obtain ⟨places, -, h⟩ := enterWaiting_eq n s
    simp only [h, Fin.getElem_fin, Vector.getElem_set_self]
    rfl
  · rw [offerNest_nest, modNest_get, if_pos rfl]; rfl

theorem drainEnd_seating : (drainEnd n s).nests[n].seating = s.nests[n].seating := by
  have hnests : (closeInputs n (postEvent (evSessionClose n s.nests[n].cause) s)).nests = s.nests := by simp
  unfold drainEnd
  dsimp only
  split
  · rw [offerNest_nest, modNest_get, if_pos rfl]; simp only [hnests]; rfl
  · rw [leaveHeld_seating]; simp only [hnests]

theorem testDrain_seating : (testDrain n s).nests[n].seating = s.nests[n].seating := by
  unfold testDrain; split
  · exact drainEnd_seating n s
  · rfl

variable {n s}

theorem drainEntry_seating (h : s.nests[n].state = .opened) (c : DrainCause) :
    (drainEntry n c s).nests[n].seating = s.nests[n].seating := by
  obtain ⟨hnests, -⟩ := enterDrain_entered h c
  unfold drainEntry
  rw [testDrain_seating, hnests]
  simp only [Fin.getElem_fin, Vector.getElem_set_self]
  rfl

theorem seatOpened_seating : (seatOpened n s).nests[n].seating = s.nests[n].seating := by
  unfold seatOpened
  split
  · rename_i h; exact drainEntry_seating h .removed
  · exact leaveHeld_seating n s
  · rw [modNest_get, if_pos rfl]; rfl
  · rfl
  · rfl

theorem drainEntry_otherNest {j : NestId} (hj : j ≠ n) (h : s.nests[n].state = .opened) (c : DrainCause) :
    (drainEntry n c s).nests[j] = s.nests[j] := by
  obtain ⟨hnests, -⟩ := enterDrain_entered h c
  have htest : (testDrain n (enterDrain n c s)).nests[j] = (enterDrain n c s).nests[j] := by
    unfold testDrain; split
    · exact (nestKept_of_ofNest (drainEnd_ofNest hj.symm _)).1
    · rfl
  unfold drainEntry
  rw [htest, hnests]
  simp [Fin.val_ne_of_ne hj.symm]

theorem seatOpened_otherNest {j : NestId} (hj : j ≠ n) : (seatOpened n s).nests[j] = s.nests[j] := by
  unfold seatOpened
  split
  · rename_i h; exact drainEntry_otherNest hj h .removed
  · exact (nestKept_of_ofNest (leaveHeld_ofNest hj.symm _)).1
  · rw [modNest_get, if_neg hj]
  · rfl
  · rfl

theorem seatOpened_opened (h : s.nests[n].state = .opened) : seatOpened n s = drainEntry n .removed s := by
  unfold seatOpened; rw [h]

/-- R11, R14: a nest that is not OPEN stays, but that a HELD one leaves HELD. -/
theorem seatOpened_state (h : s.nests[n].state ≠ .opened) : (seatOpened n s).nests[n].state =
    if s.nests[n].state = .held then restState s n else s.nests[n].state := by
  unfold seatOpened
  split
  · rename_i hs; exact absurd hs h
  · rename_i hs; rw [if_pos hs]; exact (leaveHeld_nest n s).1
  · rename_i hs; rw [modNest_get, if_pos rfl, if_neg (by rw [hs]; decide)]
  · rename_i hs; rw [if_neg (by rw [hs]; decide)]
  · rename_i hs; rw [if_neg (by rw [hs]; decide)]

theorem seatOpened_rails (h : s.nests[n].state = .waiting ∨ s.nests[n].state = .idle ∨ s.nests[n].state = .draining) :
    (seatOpened n s).rails = s.rails := by
  unfold seatOpened
  split
  · rename_i hs; rw [hs] at h; simp at h
  · rename_i hs; rw [hs] at h; simp at h
  all_goals rfl
end

/-! ### The hand-off of a reading that opens the seat (R6, R7) -/

/-- R2: the debounce of the reading that opens the seat. -/
def openSeat (n : NestId) (s : State) : State := s.modNest n fun x => { x with openRun := 20, seat := false }

/-- R6: what a reading with an open seat makes of the attach run. -/
def Nest.unattached (x : Nest) : Nest := { x with attachRun := if x.state = .waiting then 0 else x.attachRun }

theorem unattached_waiting {x : Nest} (h : x.state = .waiting) : x.unattached = { x with attachRun := 0 } := by
  unfold Nest.unattached; rw [if_pos h]

theorem unattached_of_not_waiting {x : Nest} (h : x.state ≠ .waiting) : x.unattached = x := by
  unfold Nest.unattached; rw [if_neg h]

theorem closureAfter_openSeat {x : Nest} (h : x.seat = false) (began : Bool) :
    closureAfter x began = x.closureTime := by
  simp [closureAfter, h]

theorem modNest_self {n : NestId} {f : Nest → Nest} {s : State} (h : f s.nests[n] = s.nests[n]) : s.modNest n f = s := by
  unfold State.modNest
  rw [h]
  simp

section
variable {n : NestId} {m : NestReading} {s : State}

theorem confirmsOpen_iff (x : Nest) (closed : Bool) : confirmsOpen x closed = true
    ↔ closed = false ∧ x.seat = true ∧ 20 ≤ x.openRun + 1 := by
  unfold confirmsOpen
  simp [and_assoc, Config.openConfirm]

theorem debounce_opens {x : Nest} {closed : Bool} (h : confirmsOpen x closed = true) :
    x.debounce closed = { x with openRun := 20, seat := false } := by
  obtain ⟨hopen, hseat, hrun⟩ := (confirmsOpen_iff ..).1 h
  have hfull : min 20 (x.openRun + 1) = 20 := by omega
  have hlate : ¬ x.openRun + 1 < 20 := by omega
  unfold Nest.debounce Config.openConfirm
  simp [hopen, hseat, hfull, hlate]

theorem seatStep_opens (h : confirmsOpen s.nests[n] m.seatClosed = true) :
    seatStep n m.seatClosed s = seatOpened n (offerNest n (openSeat n s)) := by
  have hdebounce : (s.modNest n fun x => x.debounce m.seatClosed) = openSeat n s := modNest_congr (debounce_opens h)
  unfold seatStep
  dsimp only
  rw [if_pos h, hdebounce]

/-- R6, R7: with the seat open a reading clears the attach run of a WAITING nest, and leaves the closure time. -/
theorem attachStep_openSeat (hopen : m.seatClosed = false) (hseat : s.nests[n].seat = false) (began : Bool) :
    attachStep n m began s = s.modNest n Nest.unattached := by
  by_cases hw : s.nests[n].state = .waiting
  · have hqualifies : qualifies s n m = false := by simp [qualifies, hopen]
    have hattaches : attaches s n m = false := by simp [attaches, hqualifies]
    have hreports : reportsClosure s n m began = false := by
      unfold reportsClosure
      dsimp only
      rw [hseat]
      simp
    rw [attachStep_of_unreported hw hattaches hreports]
    refine modNest_congr ((congrArg₂ (fun a c => { s.nests[n] with attachRun := a, closureTime := c }) ?_
      (closureAfter_openSeat hseat began)).trans (unattached_waiting hw).symm)
    rw [hqualifies]
    rfl
  · rw [attachStep_of_not_waiting hw, modNest_self (unattached_of_not_waiting hw)]

theorem handSeat_opens (h : confirmsOpen s.nests[n] m.seatClosed = true) : handSeat n m s =
    (seatOpened n (offerNest n (openSeat n s))).modNest n Nest.unattached := by
  unfold handSeat
  rw [seatStep_opens h]
  refine attachStep_openSeat ((confirmsOpen_iff ..).1 h).1 ?_ _
  have hseat := congrArg Prod.fst (seatOpened_seating (n := n) (s := offerNest n (openSeat n s)))
  refine hseat.trans ?_
  rw [offerNest_nest]
  unfold openSeat
  rw [modNest_get, if_pos rfl]
  rfl
end

/-! ### The statement -/

/-- SEAT_OPEN is the nest sample (log 4), and its seat reading the opening. -/
theorem exec_seatOpen {n : NestId} {m : NestReading} {s : State} (h : sampleOpensSeat n m s = true) :
    exec (.seatOpen n m) s = .next (settle
      ((seatOpened n (offerNest n (openSeat n (afterRails n m s)))).modNest n Nest.unattached)) := by
  change Host.Outcome.next (sampleIf (sampleOpensSeat n m s) n m s) = _
  unfold sampleIf
  rw [if_pos h, ← handSeat_opens h]
  rfl

/-- SEAT_WITHOUT_LOAD is the nest sample (log 4), and its hand-off the report. -/
theorem exec_seatWithoutLoad {n : NestId} {m : NestReading} {s : State} (h : sampleReports n m s = true) :
    exec (.seatWithoutLoad n m) s = .next (settle (attachStep n m
      (beginsClosure (afterRails n m s).nests[n] m.seatClosed) (seatStep n m.seatClosed (afterRails n m s)))) := by
  change Host.Outcome.next (sampleIf (sampleReports n m s) n m s) = _
  unfold sampleIf
  rw [if_pos h]
  rfl

theorem unattached_seating (x : Nest) : x.unattached.seating = x.seating := rfl

theorem unattached_state (x : Nest) : x.unattached.state = x.state := rfl

section
variable {n : NestId} {s : State}

/-- R11, R13: the hand-off of the reading leaves what the completion test has made of the drain. -/
theorem drainTested_unattached {v u : State} (hv : v.nests[n].state = .draining) (h : DrainTested n v u) :
    DrainTested n v (u.modNest n Nest.unattached) := by
  obtain ⟨hdone, hopen⟩ := h
  have hself : (u.modNest n Nest.unattached).nests[n] = u.nests[n].unattached := by rw [modNest_get, if_pos rfl]
  constructor
  · intro hcomplete
    obtain ⟨⟨hdraining, hrails, hstate, hsession, hclock, hcause, hseat, htrip, hbatt, hinputs⟩, hposted, hothers,
      hstimulus, hchecks⟩ := hdone hcomplete
    refine ⟨?_, hposted, fun j hj => ?_, hstimulus, hchecks⟩
    · unfold DrainEnded
      simp only [hself]
      exact ⟨hdraining, hrails, hstate, hsession, hclock, hcause, hseat, htrip, hbatt, hinputs⟩
    · obtain ⟨hnest, hkept⟩ := hothers j hj
      refine ⟨?_, hkept⟩
      rw [modNest_get, if_neg hj]
      exact hnest
  · intro hincomplete
    obtain ⟨⟨hnests, hplant⟩, hrest⟩ := hopen hincomplete
    have hstate : u.nests[n].state ≠ .waiting := by
      simp only [hnests]
      exact fun hw => nomatch hv.symm.trans hw
    rw [modNest_self (unattached_of_not_waiting hstate)]
    exact ⟨⟨hnests, hplant⟩, hrest⟩

theorem openSeat_nest : (openSeat n s).nests[n] = { s.nests[n] with openRun := 20, seat := false } := by
  unfold openSeat; rw [modNest_get, if_pos rfl]

theorem openSeat_otherNest {j : NestId} (hj : j ≠ n) : (openSeat n s).nests[j] = s.nests[j] := by
  unfold openSeat; rw [modNest_get, if_neg hj]

theorem openSeat_state : (openSeat n s).nests[n].state = s.nests[n].state := by rw [openSeat_nest]

/-- R2, R11, R14: what the reading that opens the seat leaves of the nests. -/
theorem openedSeat_nests :
    let u := (seatOpened n (offerNest n (openSeat n s))).modNest n Nest.unattached
    u.nests[n].seating = (false, 20, s.nests[n].session, s.nests[n].clock)
      ∧ (s.nests[n].state ≠ .opened →
          u.nests[n].state = if s.nests[n].state = .held then restState s n else s.nests[n].state)
      ∧ (s.nests[n].state = .waiting → u.nests[n].attachRun = 0)
      ∧ ∀ j : NestId, j ≠ n → u.nests[j] = s.nests[j] := by
  have hstate : (offerNest n (openSeat n s)).nests[n].state = s.nests[n].state := openSeat_state
  have hrest : restState (offerNest n (openSeat n s)) n = restState s n := rfl
  have hself := fun u : State => (modNest_get n Nest.unattached u n).trans (if_pos rfl)
  refine ⟨?_, fun hopened => ?_, fun hwaiting => ?_, fun j hj => ?_⟩
  · rw [hself, unattached_seating, seatOpened_seating, offerNest_nest, openSeat_nest]
    rfl
  · rw [hself, unattached_state, seatOpened_state (by rwa [hstate]), hstate, hrest]
  · rw [hself]
    unfold Nest.unattached
    rw [if_pos]
    rw [seatOpened_state (by rw [hstate, hwaiting]; decide), hstate, hwaiting]
    exact if_neg (by decide)
  · rw [modNest_get, if_neg hj, seatOpened_otherNest hj, offerNest_nest, openSeat_otherNest hj]

/-- R11: an OPEN nest drains with cause REMOVED. -/
theorem openedSeat_drains (h : s.nests[n].state = .opened) :
    ∃ v, DrainEntered n .removed (openSeat n s) v
      ∧ DrainTested n v ((seatOpened n (offerNest n (openSeat n s))).modNest n Nest.unattached) := by
  have hopened : (offerNest n (openSeat n s)).nests[n].state = .opened := openSeat_state.trans h
  refine ⟨enterDrain n .removed (offerNest n (openSeat n s)), enterDrain_entered hopened .removed, ?_⟩
  rw [seatOpened_opened hopened]
  exact drainTested_unattached (enterDrain_draining ..) (drainEntry_tested ..)

theorem openedSeat_rails (h : s.nests[n].state = .waiting ∨ s.nests[n].state = .idle ∨ s.nests[n].state = .draining) :
    ((seatOpened n (offerNest n (openSeat n s))).modNest n Nest.unattached).rails = s.rails := by
  have hstate : (offerNest n (openSeat n s)).nests[n].state = s.nests[n].state := openSeat_state
  exact seatOpened_rails (by rwa [hstate])
end

section
variable {n : NestId} {m : NestReading} {s : State} {began : Bool}

theorem reportsClosure_iff : reportsClosure s n m began = true ↔ s.nests[n].state = .waiting
    ∧ attaches s n m = false ∧ s.nests[n].seat = true ∧ s.nests[n].closureReported = false
    ∧ closureAfter s.nests[n] began = 2000 := by
  unfold reportsClosure
  simp [and_assoc, Config.closureReport]

/-- R7: what the report of a closure without load leaves. -/
theorem attachStep_of_reports (h : reportsClosure s n m began = true) :
    let u := attachStep n m began s
    u.nests = s.nests.set n
        { s.nests[n] with
          attachRun := if qualifies s n m then s.nests[n].attachRun + 1 else 0
          closureTime := 2000
          closureReported := true }
      ∧ Posted (evSeatWithoutLoad n s.supplies[n].probe) { s with nests := u.nests } u
      ∧ u.supplies = s.supplies ∧ u.rails = s.rails ∧ u.inputs = s.inputs ∧ SameStimulus s u ∧ SameChecks s u := by
  obtain ⟨hwaiting, hattaches, hseat, hreported, htime⟩ := reportsClosure_iff.1 h
  have hnest : (s.modNest n fun x =>
      { x with
        attachRun := if qualifies s n m then s.nests[n].attachRun + 1 else 0
        closureTime := closureAfter x began
        closureReported := x.closureReported || true })
      = s.modNest n fun _ =>
        { s.nests[n] with
          attachRun := if qualifies s n m then s.nests[n].attachRun + 1 else 0
          closureTime := 2000
          closureReported := true } :=
    modNest_congr (by rw [htime, Bool.or_true])
  rw [attachStep_of_not_attaches hwaiting hattaches, h]
  dsimp only
  rw [if_pos rfl, hnest, postEvent_nests]
  refine ⟨rfl, posted_postEvent _ _, ?_⟩
  rw [postEvent_eq]
  exact ⟨rfl, rfl, rfl, ⟨rfl, rfl, rfl, rfl, rfl, rfl, rfl⟩, ⟨rfl, rfl, rfl, rfl, rfl⟩⟩
end

/-- Settles O22: the reading that opens the seat moves the nest by its state and then clears the attach run, and a
closure without load is reported in the hand-off. -/
theorem seatReadingsMoveANest : Obligations.SeatReadingsMoveANest := by
  refine fun n m s => ⟨fun h => ?_, fun h => ?_⟩
  · obtain ⟨hopen, hseat, hrun⟩ := (confirmsOpen_iff ..).1 h
    obtain ⟨hseating, hstate, hattach, hothers⟩ := openedSeat_nests (n := n) (s := afterRails n m s)
    simp only [Nest.seating, Prod.mk.injEq] at hseating
    obtain ⟨hseat', hrun', hsession, hclock⟩ := hseating
    exact ⟨hopen, hseat, hrun, _, exec_seatOpen h, hseat', hrun', hsession, hclock, hstate, openedSeat_drains,
      fun hw => ⟨hattach hw, openedSeat_rails (.inl hw)⟩, fun hi => openedSeat_rails (.inr hi), hothers⟩
  · obtain ⟨hwaiting, -, hseat, hreported, -⟩ := reportsClosure_iff.1 h
    exact ⟨hwaiting, hseat, hreported, _, exec_seatWithoutLoad h, attachStep_of_reports h⟩

end Sys2Proof.Machine
end

section
/-! SUPPORT. The prompt context of a nest: what decisions leave of it, its entry into FREE (R146, R151) and the results of
its steps (R148, R152, R153). -/
namespace Sys2Proof.Machine

open Stated

/-! ### Decisions and the context -/

theorem ContextStands.trans {n : NestId} {s t u : State} (h : ContextStands n s t) (g : ContextStands n t u) :
    ContextStands n s u := by
  obtain ⟨hnodes, hcontext⟩ := h
  obtain ⟨gnodes, gcontext⟩ := g
  refine ⟨gnodes.trans hnodes, ?_⟩
  rw [gcontext, hcontext]

/-- A decision that does not open the context of nest n leaves it but for its waiting list, the nodes and the records. -/
def PassedBy (n : NestId) (s t : State) : Prop := ContextStands n s t ∧ t.path = s.path

theorem PassedBy.refl (n : NestId) (s : State) : PassedBy n s s := ⟨contextStands_of_eq rfl, rfl⟩

theorem readyPanel_congr {s t : State} (hnodes : t.nodes = s.nodes) (hpath : t.path = s.path) (n : NestId) :
    readyPanel t n = readyPanel s n := by
  unfold readyPanel panelNode nodeKind nestWord nodeWord cfg
  rw [hnodes, hpath]

theorem readyPanel_some {s : State} {n : NestId} {d : NodeId} (hpanel : panelNode s n = some d)
    (hservice : s.nodes[d].state = .inService) (hkind : nodeKind s d = 1) : readyPanel s n = some d := by
  unfold readyPanel
  rw [hpanel]
  exact if_pos ⟨hservice, hkind⟩

theorem readyPanel_none {s : State} {n : NestId}
    (h : ∀ d : NodeId, panelNode s n = some d → s.nodes[d].state ≠ .inService ∨ nodeKind s d ≠ 1) :
    readyPanel s n = none := by
  unfold readyPanel
  split
  · rfl
  · rename_i d hpanel
    exact if_neg fun hready => (h d hpanel).elim (absurd hready.1) (absurd hready.2)

theorem offerStep_otherContext {m n : NestId} (h : n ≠ m) (k : PromptStep) (s : State) :
    (offerStep m k s).prompts[n] = s.prompts[n] := by
  unfold offerStep
  split
  · exact (modPrompt_get ..).trans (if_neg h)
  · exact (modPrompt_get ..).trans (if_neg h)

theorem offerStep_state (n : NestId) (k : PromptStep) (s : State) :
    (offerStep n k s).prompts[n].state = s.prompts[n].state := by
  unfold offerStep
  split
  · rw [modPrompt_self]; rfl
  · rw [modPrompt_self]

theorem openPrompt_otherContext {m n : NestId} (h : n ≠ m) (a : Arming) (d : NodeId) (s : State) :
    (openPrompt m a d s).prompts[n] = s.prompts[n] := by
  unfold openPrompt
  rw [offerStep_otherContext h, modCheck_prompts, modPrompt_get, if_neg h]

theorem dequeue_state (n : NestId) (rest : List Arming) (s : State) :
    (dequeue n rest s).prompts[n].state = s.prompts[n].state := by
  unfold dequeue; rw [modPrompt_self]

/-- R146: a context that is not FREE, or whose panel is not ready, is opened by no decision. -/
theorem passedBy_keptByChain {n : NestId} {s : State} (h : s.prompts[n].state ≠ .free ∨ readyPanel s n = none) :
    KeptByChain (fun _ => True) (PassedBy n s) where
  record {e d t} _ ht := by
    refine ⟨ht.1.trans (contextStands_of_eq ?_), (recordDecision_path ..).trans ht.2⟩
    exact congrArg (fun p => (p.1, p.2.2)) (recordDecision_nodes_link_prompts e d t)
  start _ _ ht := ⟨ht.1.trans (startCheck_contextStands ..), (startCheck_path ..).trans ht.2⟩
  passed {m a rest t} _ _ ht := ⟨ht.1.trans (contextStands_of_waiting n m (fun _ => rest) t), ht.2⟩
  opened {m a rest d t} hfree hready ht := by
    obtain ⟨⟨hnodes, hcontext⟩, hpath⟩ := ht
    have hne : n ≠ m := by
      rintro rfl
      rw [← dequeue_state n rest t, hcontext] at hfree
      have hnone := h.resolve_left (not_not.2 hfree)
      have hsame : readyPanel t n = readyPanel s n := readyPanel_congr hnodes hpath n
      exact nomatch hready.symm.trans (hsame.trans hnone)
    refine ⟨⟨(openPrompt_nodes ..).trans hnodes, ?_⟩,
      (path_of_bus (bus_of_plant (openPrompt_plant ..))).trans hpath⟩
    rw [openPrompt_otherContext hne]
    exact hcontext
  asked _ _ := trivial
  follows _ _ _ := trivial

theorem decideCheck_passedBy {n : NestId} {s : State} (h : s.prompts[n].state ≠ .free ∨ readyPanel s n = none)
    (c : CheckId) (d : Decision) : PassedBy n s (decideCheck c d s) :=
  (passedBy_keptByChain h).decideCheck trivial (.refl n s)

/-! ### Entry into FREE (R146, R151) -/

theorem checkClock_of_kept {s t : State} (h : Kept s t) (c : CheckId) : checkClock t c = checkClock s c := by
  unfold checkClock
  simp only [checkNest_congr (path_of_bus h.bus)]
  rcases h.2 (checkNest s c) with hkept | hended
  · rw [hkept.1]
  · obtain ⟨-, -, -, -, hclock, -⟩ := hended
    exact hclock

theorem verdictOf_of_kept {s t : State} (h : Kept s t) {c : CheckId} (hcheck : t.checks[c] = s.checks[c])
    (d : Decision) : verdictOf t c d = verdictOf s c d := by
  unfold verdictOf
  rw [hcheck, checkNest_congr (path_of_bus h.bus), checkClock_of_kept h]

theorem testDrain_sameChecks (n : NestId) (s : State) : SameChecks s (testDrain n s) := by
  unfold testDrain
  split
  · exact sameChecks_trans (postEvent_sameChecks _ s) (sameChecks_of_ledger (drainEnd_ledger n s))
  · exact ⟨rfl, rfl, rfl, rfl, rfl⟩

theorem testDrain_grows (n : NestId) (s : State) : s.post.Grows (testDrain n s).post := by
  unfold testDrain
  split
  · obtain ⟨hfifo, hlost⟩ := nothingPosted_of_ledger (drainEnd_ledger n s)
    exact (postEvent_grows _ s).trans (.of_eq hfifo hlost)
  · exact .refl _

/-- R151: the context of nest n is FREE and cleared, and its drain may have ended. -/
def freed (n : NestId) (s : State) : State := testDrain n (s.modPrompt n Prompt.free)

theorem freeContext_eq (n : NestId) (s : State) : freeContext n s = takeHeads decideCheck n (freed n s) := rfl

section
variable (n : NestId) (s : State)

theorem freed_kept : Kept s (freed n s) :=
  (kept_of_plant (modPrompt_plant s n Prompt.free)).trans (testDrain_kept n _)

theorem freed_context : (freed n s).prompts[n] = s.prompts[n].free := by
  obtain ⟨-, -, -, -, hprompts⟩ := testDrain_sameChecks n (s.modPrompt n Prompt.free)
  unfold freed
  rw [hprompts, modPrompt_self]

theorem freed_checks : (freed n s).checks = s.checks ∧ (freed n s).unposted = s.unposted
    ∧ (freed n s).nodes = s.nodes := by
  obtain ⟨hchecks, hunposted, hnodes, -⟩ := testDrain_sameChecks n (s.modPrompt n Prompt.free)
  exact ⟨hchecks, hunposted, hnodes⟩

theorem freed_readyPanel : readyPanel (freed n s) n = readyPanel s n :=
  readyPanel_congr (freed_checks n s).2.2 (path_of_bus (freed_kept n s).bus) n

variable {n s}

theorem verdictStands_freed {c : CheckId} {v : Verdict} (h : VerdictStands c v s) : VerdictStands c v (freed n s) := by
  obtain ⟨hchecks, hunposted, -⟩ := freed_checks n s
  exact h.mono hchecks hunposted (testDrain_grows n (s.modPrompt n Prompt.free))

theorem verdictStands_freeContext {c : CheckId} {v : Verdict} (h : VerdictStands c v s) :
    VerdictStands c v (freeContext n s) :=
  verdictStands_takeHeads (fun _ _ _ h hne => verdictStands_decideFuel 64 h hne) (verdictStands_freed h)

theorem freeContext_nodes : (freeContext n s).nodes = s.nodes :=
  (nodes_keptByDecisions s.nodes).takeHeads (fun _ h => (decideCheck_nodes ..).trans h) n (freed_checks n s).2.2
end

section
variable {n : NestId} {s : State} {x : Arming} {rest : List Arming}

theorem takeHead_of_unfree {decide : CheckId → Decision → State → State} (h : s.prompts[n].state ≠ .free) :
    takeHead decide n s = none := by
  unfold takeHead
  split
  · rename_i hfree _; exact absurd hfree h
  · rfl

theorem takeHead_of_ready {decide : CheckId → Decision → State → State} (hfree : s.prompts[n].state = .free)
    (hwaiting : s.prompts[n].waiting = x :: rest) {d : NodeId} (hready : readyPanel s n = some d) :
    takeHead decide n s = some (openPrompt n x d (dequeue n rest s)) := by
  unfold takeHead
  rw [hfree, hwaiting]
  dsimp only
  rw [hready]
  rfl

theorem takeHead_of_unready {decide : CheckId → Decision → State → State} (hfree : s.prompts[n].state = .free)
    (hwaiting : s.prompts[n].waiting = x :: rest) (hready : readyPanel s n = none) :
    takeHead decide n s
      = some (admitOutcome decide x { verdict := .sourceFault, detail := detailPanelNotReady } (dequeue n rest s)) := by
  unfold takeHead
  rw [hfree, hwaiting]
  dsimp only
  rw [hready]
  rfl

theorem openPrompt_state (d : NodeId) : (openPrompt n x d s).prompts[n].state = .loading := by
  unfold openPrompt
  rw [offerStep_state, modCheck_prompts, modPrompt_self]

/-- R146: on a ready panel the head is taken into the context, and no other. -/
theorem takeHeads_of_ready {decide : CheckId → Decision → State → State} (hfree : s.prompts[n].state = .free)
    (hwaiting : s.prompts[n].waiting = x :: rest) {d : NodeId} (hready : readyPanel s n = some d) :
    takeHeads decide n s = openPrompt n x d (dequeue n rest s) := by
  have hnext : takeHead decide n (openPrompt n x d (dequeue n rest s)) = none :=
    takeHead_of_unfree (by rw [openPrompt_state]; decide)
  unfold takeHeads
  rw [hwaiting, List.length_cons]
  unfold takeHeadsFuel
  rw [takeHead_of_ready hfree hwaiting hready]
  dsimp only
  cases rest.length with
  | zero => rfl
  | succ k => unfold takeHeadsFuel; rw [hnext]

theorem verdictStands_takeHeadsFuel {c : CheckId} {v : Verdict} (k : Nat) (h : VerdictStands c v s) :
    VerdictStands c v (takeHeadsFuel decideCheck n k s) := by
  induction k generalizing s with
  | zero => exact h
  | succ k ih =>
    unfold takeHeadsFuel
    split
    · exact h
    · rename_i t ht
      exact ih (verdictStands_takeHead (fun _ _ _ h hne => verdictStands_decideFuel 64 h hne) h ht)

/-- R115, R118: an outcome decides the check that still asks for it. -/
theorem admitOutcome_of_asks {decide : CheckId → Decision → State → State} (h : Asks x s) (d : Decision) :
    admitOutcome decide x d s = decide x.check d s := by
  obtain ⟨hstate, harming, hsession⟩ := h
  unfold admitOutcome sameArming
  exact if_pos ⟨hstate.symm, by rw [harming, hsession]; simp⟩

/-- R146: without a ready panel the head is decided PANEL_NOT_READY. -/
theorem takeHeads_decides (hfree : s.prompts[n].state = .free) (hwaiting : s.prompts[n].waiting = x :: rest)
    (hready : readyPanel s n = none) (hasks : Asks x s) : VerdictStands x.check
      (verdictOf s x.check { verdict := .sourceFault, detail := detailPanelNotReady }) (takeHeads decideCheck n s) := by
  unfold takeHeads
  rw [hwaiting, List.length_cons]
  unfold takeHeadsFuel
  rw [takeHead_of_unready hfree hwaiting hready, admitOutcome_of_asks (s := dequeue n rest s) hasks]
  exact verdictStands_takeHeadsFuel _ (decideCheck_stands x.check _ (dequeue n rest s))
end

/-- R151: what an entry into FREE does. -/
theorem freeContext_freed (n : NestId) (s : State) : Freed n s (freeContext n s) := by
  have hcontext := freed_context n s
  have hready := freed_readyPanel n s
  have hfree : (freed n s).prompts[n].state = .free := by rw [hcontext]; rfl
  have hlist : (freed n s).prompts[n].waiting = s.prompts[n].waiting := by rw [hcontext]; rfl
  refine ⟨(freed_kept n s).2, fun hwaiting => ?_, fun x rest hwaiting => ⟨fun d hpanel hservice hkind => ?_, fun h => ?_⟩⟩
  · have hnone : takeHeads decideCheck n (freed n s) = freed n s := by
      unfold takeHeads
      rw [hlist, hwaiting]
      rfl
    exact hnone
  · rw [freeContext_eq, takeHeads_of_ready hfree (hlist.trans hwaiting)
      (hready.trans (readyPanel_some hpanel hservice hkind))]
    unfold dequeue State.modPrompt
    rw [hcontext]
    rfl
  · have hnone := hready.trans (readyPanel_none h)
    obtain ⟨⟨-, hstands⟩, -⟩ := (passedBy_keptByChain (.inr hnone)).takeHeads
      (fun he ht => (passedBy_keptByChain (.inr hnone)).decideCheck he ht) n (.refl n (freed n s))
    rw [← freeContext_eq, hcontext] at hstands
    refine ⟨by rw [hstands]; rfl, by rw [hstands]; rfl, by rw [hstands]; rfl, fun hasks => ?_⟩
    have hchecks := (freed_checks n s).1
    have hcheck : (freed n s).checks[x.check] = s.checks[x.check] := by rw [hchecks]
    have hasks' : Asks x (freed n s) := by unfold Asks; rw [hcheck]; exact hasks
    have hstands := takeHeads_decides hfree (hlist.trans hwaiting) hnone hasks'
    rw [verdictOf_of_kept (freed_kept n s) hcheck] at hstands
    exact hstands

/-! ### Results of steps (R148, R152, R153) -/

theorem enqueue_step (n : NestId) (p : Prompt) (k : PromptStep) (l : List Request) :
    enqueue (stepRequest n p.panel p.sequence p.answers p.text k) l
      = l ++ [stepRequest n p.panel p.sequence p.answers p.text k] := by
  cases k <;> rfl

theorem contextRequest_modPrompt (n : NestId) (k : PromptStep) (f : Prompt → Prompt) (s : State) :
    let p := f s.prompts[n]
    contextRequest (s.modPrompt n f) n k = stepRequest n p.panel p.sequence p.answers p.text k := by
  unfold contextRequest
  rw [modPrompt_self]

/-- R147: the context f of nest n has its step k offered or held. -/
theorem offerStep_offers (n : NestId) (k : PromptStep) (f : Prompt → Prompt) (s : State) :
    OffersStep n k (f s.prompts[n]) s (offerStep n k (s.modPrompt n f)) := by
  unfold offerStep linkFree Config.linkPlaces
  split
  · rename_i hroom
    have hroom : s.link.queue.length < 16 := of_decide_eq_true hroom
    refine ⟨?_, ?_, rfl, rfl, rfl, rfl⟩
    · simp [joinQueue, State.modPrompt, State.modLink, Nat.not_le.2 hroom]
    · rw [if_pos hroom, contextRequest_modPrompt]
      exact congrArg (fun q => { s.link with queue := q }) (enqueue_step n (f s.prompts[n]) k s.link.queue)
  · rename_i hroom
    have hroom : ¬ s.link.queue.length < 16 := fun h => hroom (decide_eq_true h)
    refine ⟨?_, ?_, rfl, rfl, rfl, rfl⟩
    · simp [State.modPrompt, Nat.not_lt.1 hroom]
    · rw [if_neg hroom]
      rfl

theorem answered_iff (r : LinkResult) : r.answered = true ↔ r = .ok ∨ r = .nodeError ∨ r = .refused := by
  cases r <;> simp [LinkResult.answered]

theorem returnOutcome_of_asks {n : NestId} {s : State} {x : Arming} (hcheck : s.prompts[n].check = some x)
    (hasks : Asks x s) (d : Decision) :
    returnOutcome n d s = decideCheck x.check { d with a := s.prompts[n].sequence.toNat } s := by
  unfold returnOutcome promptOutcome
  rw [hcheck]
  exact admitOutcome_of_asks hasks _

theorem verdictStands_enterClearing {n : NestId} {s : State} {c : CheckId} {v : Verdict} (h : VerdictStands c v s) :
    VerdictStands c v (enterClearing n s) := by
  have hbeside := enterClearing_besidePrompts n s
  simp only [State.besidePrompts, Prod.mk.injEq] at hbeside
  obtain ⟨-, hchecks, hunposted, -, hpost⟩ := hbeside
  exact h.mono hchecks hunposted (.of_eq (congrArg _ hpost) (congrArg _ hpost))

theorem enterClearing_nodes (n : NestId) (s : State) : (enterClearing n s).nodes = s.nodes := offerStep_nodes ..

theorem returnOutcome_nodes (n : NestId) (d : Decision) (s : State) : (returnOutcome n d s).nodes = s.nodes := by
  unfold returnOutcome
  split
  · rfl
  · unfold promptOutcome admitOutcome
    split
    · exact decideCheck_nodes ..
    · rfl

section
variable {n : NestId} {s : State}

theorem stepResult_of_other {q : BitVec 8} {k : PromptStep} {r : LinkResult}
    (h : ¬ (s.prompts[n].sequence = q ∧ s.prompts[n].step = some (k, false))) : stepResult n q k r s = s := by
  unfold stepResult; exact if_neg h

theorem stepResult_of_mine {q : BitVec 8} {k : PromptStep} {r : LinkResult}
    (h : s.prompts[n].sequence = q ∧ s.prompts[n].step = some (k, false)) : stepResult n q k r s =
      if k = .clear then freeContext n s
      else if s.prompts[n].withdrawn then (if r.answered then enterClearing n s else freeContext n s)
      else loadShowResult n k r s := by
  unfold stepResult; exact if_pos h

/-- R148: a LOAD or SHOW that is not answered OK decides the check, and the context clears or frees. -/
theorem loadShowResult_failed {k : PromptStep} {r : LinkResult} {x : Arming} (hr : r ≠ .ok)
    (hstate : s.prompts[n].state ≠ .free) (hcheck : s.prompts[n].check = some x) (hasks : Asks x s) :
    let u := loadShowResult n k r s
    Decided x.check { verdict := .sourceFault, detail := 16 + r.code, a := s.prompts[n].sequence.toNat } s u
      ∧ (r.answered = true → Clearing s.prompts[n] u.prompts[n])
      ∧ (r.answered = false →
          ∃ v : State, v.prompts[n] = { s.prompts[n] with waiting := v.prompts[n].waiting } ∧ Freed n v u) := by
  obtain ⟨⟨-, hcontext⟩, -⟩ := decideCheck_passedBy (.inl hstate) x.check
    { verdict := .sourceFault, detail := detailLink r, a := s.prompts[n].sequence.toNat }
  have hstands := decideCheck_stands x.check
    { verdict := .sourceFault, detail := detailLink r, a := s.prompts[n].sequence.toNat } s
  unfold loadShowResult
  rw [if_neg hr, returnOutcome_of_asks hcheck hasks]
  dsimp only
  generalize decideCheck x.check { verdict := .sourceFault, detail := detailLink r, a := s.prompts[n].sequence.toNat } s
    = v at *
  cases hanswered : r.answered with
  | true =>
    refine ⟨verdictStands_enterClearing hstands, fun _ => ?_, fun h => nomatch h⟩
    have hclearing := enterClearing_clearing n v
    rw [hcontext] at hclearing
    exact hclearing
  | false =>
    exact ⟨verdictStands_freeContext hstands, fun h => absurd h Bool.false_ne_true,
      fun _ => ⟨v, hcontext, freeContext_freed n v⟩⟩

theorem loadShowResult_nodes (n : NestId) (k : PromptStep) (r : LinkResult) (s : State) :
    (loadShowResult n k r s).nodes = s.nodes := by
  unfold loadShowResult
  split
  · split
    · exact offerStep_nodes ..
    · rfl
    · rfl
  · dsimp only
    split
    · exact (enterClearing_nodes ..).trans (returnOutcome_nodes ..)
    · exact freeContext_nodes.trans (returnOutcome_nodes ..)

theorem stepResult_nodes (n : NestId) (q : BitVec 8) (k : PromptStep) (r : LinkResult) (s : State) :
    (stepResult n q k r s).nodes = s.nodes := by
  unfold stepResult
  dsimp only
  split
  · split
    · exact freeContext_nodes
    · split
      · split
        · exact enterClearing_nodes ..
        · exact freeContext_nodes
      · exact loadShowResult_nodes ..
  · rfl

/-- R148, R151, R152, R153: what the result of a step does. -/
theorem stepResult_answered (n : NestId) (q : BitVec 8) (k : PromptStep) (r : LinkResult) (s : State) :
    StepAnswered n q k r s (stepResult n q k r s) := by
  have hkept := stepResult_kept n q k r s
  refine ⟨fun hother => stepResult_of_other hother, fun hmine hclear => ?_, fun hmine hk hwithdrawn hcleared => ?_,
    fun hmine hk hwithdrawn hcleared => ?_, fun hmine hk hstays hr => ?_, fun hmine hk hstays hr => ?_,
    fun x hmine hk hstays hr hstate hcheck hasks => ?_, hkept.2, sameStimulus_of_bench hkept.1, stepResult_nodes ..,
    path_of_bus hkept.bus, congrArg (fun b => b.2.1) hkept.bus⟩
  · rw [stepResult_of_mine hmine, if_pos hclear]
    exact freeContext_freed n s
  · rw [stepResult_of_mine hmine, if_neg hk, if_pos hwithdrawn, if_pos ((answered_iff r).2 hcleared)]
    exact offerStep_offers ..
  · rw [stepResult_of_mine hmine, if_neg hk, if_pos hwithdrawn, if_neg fun h => hcleared ((answered_iff r).1 h)]
    exact freeContext_freed n s
  · subst hk hr
    rw [stepResult_of_mine hmine, if_neg nofun, if_neg (Bool.eq_false_iff.1 hstays)]
    exact offerStep_offers ..
  · subst hk hr
    rw [stepResult_of_mine hmine, if_neg nofun, if_neg (Bool.eq_false_iff.1 hstays)]
    rfl
  · have hloads : stepResult n q k r s = loadShowResult n k r s := by
      rw [stepResult_of_mine hmine, if_neg hk, if_neg (Bool.eq_false_iff.1 hstays)]
    obtain ⟨hdecided, hclearing, hfreed⟩ := loadShowResult_failed (k := k) hr hstate hcheck hasks
    rw [hloads]
    exact ⟨hdecided, fun h => hclearing ((answered_iff r).2 h),
      fun h => hfreed (Bool.eq_false_iff.2 fun ha => h ((answered_iff r).1 ha))⟩
end

end Sys2Proof.Machine
end

section
/-! SUPPORT. The evaluation of the interlock of the nests that name a node (R15, R16, R17). -/
namespace Sys2Proof.Machine

open Stated

/-! ### What an evaluation keeps -/

/-- Nodes, records, sessions and clocks are as they were, and posts were only added. -/
structure Continued (s t : State) : Prop where
  nodes : t.nodes = s.nodes
  path : t.path = s.path
  stamps : ∀ j : NestId, t.nests[j].session = s.nests[j].session ∧ t.nests[j].clock = s.nests[j].clock
  post : s.post.Grows t.post

theorem Continued.refl (s : State) : Continued s s := ⟨rfl, rfl, fun _ => ⟨rfl, rfl⟩, .refl _⟩

theorem Continued.trans {s t u : State} (h : Continued s t) (g : Continued t u) : Continued s u where
  nodes := g.nodes.trans h.nodes
  path := g.path.trans h.path
  stamps j := ⟨(g.stamps j).1.trans (h.stamps j).1, (g.stamps j).2.trans (h.stamps j).2⟩
  post := h.post.trans g.post

/-- R174: an event is stamped as before. -/
theorem Continued.words {s t : State} (h : Continued s t) (e : Event) : e.words t = e.words s := by
  have hsession (j : NestId) : t.nests[j].session = s.nests[j].session := (h.stamps j).1
  have hclock (j : NestId) : t.nests[j].clock = s.nests[j].clock := (h.stamps j).2
  have hsession0 : t.nests[0].session = s.nests[0].session := hsession 0
  have hclock0 : t.nests[0].clock = s.nests[0].clock := hclock 0
  have hsession1 : t.nests[1].session = s.nests[1].session := hsession 1
  unfold Event.words
  split
  · simp only [hsession, hclock]
  · rw [hsession0, hclock0, hsession1]

/-- An event offered in s, a later state of x, is reported in any later w as x stamps it. -/
theorem Continued.reported {e : Event} {x s w : State} (h : Continued x s)
    (hw : (postEvent e s).post.Grows w.post) : Reported e x w := by
  have hreported := reported_of_postEvent (s := s) (x := { x with nests := s.nests }) rfl h.post hw
  unfold Reported at *
  have hwords : e.words { x with nests := s.nests } = e.words x := (words_congr (s := s) rfl e).trans (h.words e)
  rw [hwords] at hreported
  exact hreported

theorem continued_of_nests {s t : State} (hnodes : t.nodes = s.nodes) (hpath : t.path = s.path)
    (hnests : t.nests = s.nests) (hpost : s.post.Grows t.post) : Continued s t :=
  ⟨hnodes, hpath, fun j => by rw [hnests]; exact ⟨rfl, rfl⟩, hpost⟩

theorem postEvent_continued (e : Event) (s : State) : Continued s (postEvent e s) := by
  refine continued_of_nests ?_ ?_ ?_ (postEvent_grows e s) <;> rw [postEvent_eq]

theorem modNest_continued {n : NestId} {f : Nest → Nest} (s : State)
    (h : ∀ x : Nest, (f x).session = x.session ∧ (f x).clock = x.clock) : Continued s (s.modNest n f) := by
  refine ⟨rfl, rfl, fun j => ?_, .of_eq rfl rfl⟩
  rw [modNest_get]
  split
  · rename_i hj; subst hj; exact h _
  · exact ⟨rfl, rfl⟩

theorem offerNest_continued (n : NestId) (s : State) : Continued s (offerNest n s) :=
  continued_of_nests rfl rfl rfl (.of_eq rfl rfl)

theorem nodes_of_tracks {s t : State} (h : s.besideTracks = t.besideTracks) : s.nodes = t.nodes :=
  congrArg (fun p => p.2.2.2.2.2.2.2.2.1) h

theorem checksRailLost_nodes (r : RailId) (s : State) : (checksRailLost r s).nodes = s.nodes := by
  unfold checksRailLost
  exact forEach_keeps State.nodes _ (fun c s => by dsimp only; split <;> simp [decideCheck_nodes]) _ _

theorem railLost_nodes (r : RailId) (s : State) : (railLost r s).nodes = s.nodes :=
  (checksRailLost_nodes ..).trans (nodes_of_tracks (haltForRail_besideTracks ..))

theorem forceOff_nodes (n : NestId) (c : RailCause) (handOff : Bool) (s : State) :
    (forceOff n c handOff s).nodes = s.nodes := by
  rw [forceOff_eq]
  refine forEach_keeps State.nodes _ (fun k s => ?_) _ s
  have hpost (e : Event) (t : State) : (postEvent e t).nodes = t.nodes := (postEvent_continued e t).nodes
  unfold forceRail
  dsimp only
  split
  · exact (railLost_nodes ..).trans (hpost ..)
  · exact hpost ..

theorem forceOff_continued (n : NestId) (c : RailCause) (handOff : Bool) (s : State) :
    Continued s (forceOff n c handOff s) := by
  have honward := forceOff_onward n c handOff s
  exact continued_of_nests (forceOff_nodes ..) honward.path honward.nests honward.post

/-- The nest n and its rails are as they were. -/
structure Beside (n : NestId) (s t : State) : Prop extends Continued s t where
  nest : t.nests[n] = s.nests[n]
  rails : ∀ j : Fin 3, t.rails[railOf n j] = s.rails[railOf n j]

theorem Beside.refl (n : NestId) (s : State) : Beside n s s := ⟨.refl s, rfl, fun _ => rfl⟩

theorem Beside.trans {n : NestId} {s t u : State} (h : Beside n s t) (g : Beside n t u) : Beside n s u :=
  ⟨h.toContinued.trans g.toContinued, g.nest.trans h.nest, fun j => (g.rails j).trans (h.rails j)⟩

theorem beside_of_plant {n : NestId} {s t : State} (hplant : t.plant = s.plant) (hnodes : t.nodes = s.nodes)
    (hpost : s.post.Grows t.post) : Beside n s t := by
  have hnests : t.nests = s.nests := congrArg (fun p => p.2.1) hplant
  exact ⟨continued_of_nests hnodes (path_of_bus (bus_of_plant hplant)) hnests hpost, by rw [hnests],
    fun j => by rw [rails_of_plant hplant]⟩

theorem postEvent_beside (n : NestId) (e : Event) (s : State) : Beside n s (postEvent e s) := by
  refine ⟨postEvent_continued e s, ?_, fun j => ?_⟩ <;> rw [postEvent_eq]

/-! ### One evaluation -/

/-- R15: the interlock status of nest n is set. -/
def setInterlock (n : NestId) (i : Interlock) (s : State) : State := s.modNest n fun x => { x with interlock := i }

section
variable {n : NestId} {d : NodeId} {s : State}

theorem setInterlock_nest (i : Interlock) : (setInterlock n i s).nests[n] = { s.nests[n] with interlock := i } := by
  unfold setInterlock; rw [modNest_get, if_pos rfl]

theorem setInterlock_continued (i : Interlock) : Continued s (setInterlock n i s) :=
  modNest_continued s fun _ => ⟨rfl, rfl⟩

/-- R15, R16, R17: an evaluation of a nest that names d, case by case. -/
theorem evaluateInterlock_cases (hd : interlockNode s n = some d) (i : Interlock) (hi : interlockOf s n = i) :
    evaluateInterlock n s =
      if s.nests[n].interlock = i then s
      else if s.nests[n].state ≠ .opened then offerNest n (setInterlock n i s)
      else if s.nests[n].interlock = .satisfied ∧ i = .unsatisfied then
        offerNest n (interlockTrip n d (setInterlock n i s))
      else if i = .satisfied ∧ s.nests[n].trip = true then offerNest n (interlockRestored n d (setInterlock n i s))
      else offerNest n (setInterlock n i s) := by
  have hset : (s.modNest n fun x => { x with interlock := i }) = setInterlock n i s := rfl
  have hd' : interlockNode (setInterlock n i s) n = some d := hd
  unfold evaluateInterlock
  dsimp only
  rw [hi]
  split
  · rfl
  · rw [hset]
    unfold interlockEffect
    rw [hd']
    dsimp only
    rw [setInterlock_nest]
    dsimp only
    split
    · rfl
    · split
      · rfl
      · split <;> rfl

/-- R16, R17: the trip flag of nest n is set. -/
def setTrip (n : NestId) (b : Bool) (s : State) : State := s.modNest n fun x => { x with trip := b }

theorem setTrip_nest (b : Bool) : (setTrip n b s).nests[n] = { s.nests[n] with trip := b } := by
  unfold setTrip; rw [modNest_get, if_pos rfl]

theorem setTrip_otherNest {m : NestId} (h : n ≠ m) (b : Bool) : (setTrip m b s).nests[n] = s.nests[n] := by
  unfold setTrip; rw [modNest_get, if_neg h]

theorem setTrip_continued (b : Bool) : Continued s (setTrip n b s) := modNest_continued s fun _ => ⟨rfl, rfl⟩

/-- R16: the state in which the trip is reported. -/
def tripped (n : NestId) (s : State) : State := setTrip n true (forceOff n .interlock true s)

theorem interlockTrip_eq : interlockTrip n d s
    = postEvent (evInterlockTrip n d (tripWay (tripped n s).nodes[d]) (forcedKinds s n)) (tripped n s) := rfl

theorem interlockRestored_eq :
    interlockRestored n d s = postEvent (evInterlockRestored n d) (setTrip n false s) := rfl

theorem tripped_continued : Continued s (tripped n s) := (forceOff_continued ..).trans (setTrip_continued true)

theorem interlockTrip_continued : Continued s (interlockTrip n d s) := by
  rw [interlockTrip_eq]
  exact tripped_continued.trans (postEvent_continued ..)

theorem interlockRestored_continued : Continued s (interlockRestored n d s) := by
  rw [interlockRestored_eq]
  exact (setTrip_continued false).trans (postEvent_continued ..)

theorem evaluateInterlock_continued (hd : interlockNode s n = some d) : Continued s (evaluateInterlock n s) := by
  have hset := setInterlock_continued (n := n) (s := s) (interlockOf s n)
  rw [evaluateInterlock_cases hd _ rfl]
  split
  · exact .refl s
  · split
    · exact hset.trans (offerNest_continued ..)
    · split
      · exact (hset.trans interlockTrip_continued).trans (offerNest_continued ..)
      · split
        · exact (hset.trans interlockRestored_continued).trans (offerNest_continued ..)
        · exact hset.trans (offerNest_continued ..)

/-- R16: a trip changes the trip flag of its nest and forces off its rails. -/
theorem interlockTrip_nests : (interlockTrip n d s).nests = (setTrip n true s).nests := by
  have hnests := (forceOff_onward n .interlock true s).nests
  rw [interlockTrip_eq, postEvent_nests]
  unfold tripped setTrip State.modNest
  simp only [hnests]

theorem interlockTrip_rails : (interlockTrip n d s).rails = (forceOff n .interlock true s).rails := by
  rw [interlockTrip_eq, postEvent_rails]; rfl

theorem interlockRestored_nests : (interlockRestored n d s).nests = (setTrip n false s).nests := by
  rw [interlockRestored_eq, postEvent_nests]

theorem interlockRestored_rails : (interlockRestored n d s).rails = s.rails := by
  rw [interlockRestored_eq, postEvent_rails]; rfl

/-- R15: the evaluation of one nest leaves the other and its rails. -/
theorem evaluateInterlock_beside {m : NestId} (hm : n ≠ m) (hd : interlockNode s m = some d) :
    Beside n s (evaluateInterlock m s) := by
  refine ⟨evaluateInterlock_continued hd, ?_, fun j => ?_⟩
  all_goals
    rw [evaluateInterlock_cases hd _ rfl]
  · have hset : (setInterlock m (interlockOf s m) s).nests[n] = s.nests[n] := by
      unfold setInterlock; rw [modNest_get, if_neg hm]
    split
    · rfl
    · split
      · exact hset
      · split
        · rw [offerNest_nest]; simp only [interlockTrip_nests]; rw [setTrip_otherNest hm, hset]
        · split
          · rw [offerNest_nest]; simp only [interlockRestored_nests]; rw [setTrip_otherNest hm, hset]
          · exact hset
  · have hother : nestOfRail (railOf n j) ≠ m := by rw [nestOfRail_railOf]; exact hm
    have htrip : (interlockTrip m d (setInterlock m (interlockOf s m) s)).rails[railOf n j] = s.rails[railOf n j] := by
      simp only [interlockTrip_rails]
      exact forceOff_otherRails m .interlock true (setInterlock m (interlockOf s m) s) (railOf n j) hother
    have hrestored : (interlockRestored m d (setInterlock m (interlockOf s m) s)).rails = s.rails :=
      interlockRestored_rails
    split
    · rfl
    · split
      · rfl
      · split
        · exact htrip
        · split
          · change (interlockRestored m d _).rails[railOf n j] = _
            simp only [hrestored]
          · rfl

/-- R15: the status of the nest is the one evaluated. -/
theorem evaluateInterlock_interlock (hd : interlockNode s n = some d) :
    (evaluateInterlock n s).nests[n].interlock = interlockOf s n := by
  have hset : (setInterlock n (interlockOf s n) s).nests[n].interlock = interlockOf s n := by rw [setInterlock_nest]
  rw [evaluateInterlock_cases hd _ rfl]
  split
  · assumption
  · split
    · exact hset
    · split
      · rw [offerNest_nest]; simp only [interlockTrip_nests]; rw [setTrip_nest]; exact hset
      · split
        · rw [offerNest_nest]; simp only [interlockRestored_nests]; rw [setTrip_nest]; exact hset
        · exact hset

/-- R16: the trip of an OPEN nest whose interlock is no longer satisfied. -/
theorem evaluateInterlock_trips (hd : interlockNode s n = some d) (hopened : s.nests[n].state = .opened)
    (hold : s.nests[n].interlock = .satisfied) (hnew : interlockOf s n = .unsatisfied) :
    let u := evaluateInterlock n s
    u.nests[n] = { s.nests[n] with interlock := .unsatisfied, trip := true }
      ∧ (∀ j : Fin 3, u.rails[railOf n j] = forcedRail .interlock s.rails[railOf n j])
      ∧ ∀ w : State, u.post.Grows w.post →
          Reported (evInterlockTrip n d (tripWay s.nodes[d]) (forcedKinds s n)) s w := by
  have hne : s.nests[n].interlock ≠ .unsatisfied := by rw [hold]; decide
  have htrips : evaluateInterlock n s = offerNest n (interlockTrip n d (setInterlock n .unsatisfied s)) := by
    rw [evaluateInterlock_cases hd _ hnew, if_neg hne, if_neg (not_not.2 hopened), if_pos ⟨hold, rfl⟩]
  rw [htrips]
  refine ⟨?_, fun j => ?_, fun w hw => ?_⟩
  · rw [offerNest_nest]
    simp only [interlockTrip_nests]
    rw [setTrip_nest, setInterlock_nest]
  · change (interlockTrip n d _).rails[railOf n j] = _
    simp only [interlockTrip_rails]
    exact forceOff_rail n .interlock true (setInterlock n .unsatisfied s) j
  · have htripped := (setInterlock_continued (n := n) (s := s) .unsatisfied).trans (tripped_continued (n := n))
    have hway : tripWay (tripped n (setInterlock n .unsatisfied s)).nodes[d] = tripWay s.nodes[d] := by
      rw [htripped.nodes]
    have hpost := (offerNest_continued n _).post.trans hw
    rw [interlockTrip_eq, hway] at hpost
    exact htripped.reported hpost

/-- R17: the end of a trip. -/
theorem evaluateInterlock_restores (hd : interlockNode s n = some d) (hopened : s.nests[n].state = .opened)
    (hold : s.nests[n].interlock = .unsatisfied) (htrip : s.nests[n].trip = true)
    (hnew : interlockOf s n = .satisfied) :
    let u := evaluateInterlock n s
    u.nests[n] = { s.nests[n] with interlock := .satisfied, trip := false }
      ∧ ∀ w : State, u.post.Grows w.post → Reported (evInterlockRestored n d) s w := by
  have hne : s.nests[n].interlock ≠ .satisfied := by rw [hold]; decide
  have hrestores : evaluateInterlock n s = offerNest n (interlockRestored n d (setInterlock n .satisfied s)) := by
    rw [evaluateInterlock_cases hd _ hnew, if_neg hne, if_neg (not_not.2 hopened), if_neg fun h => hne h.1,
      if_pos ⟨rfl, htrip⟩]
  rw [hrestores]
  refine ⟨?_, fun w hw => ?_⟩
  · rw [offerNest_nest]
    simp only [interlockRestored_nests]
    rw [setTrip_nest, setInterlock_nest]
  · have hpost := (offerNest_continued n _).post.trans hw
    rw [interlockRestored_eq] at hpost
    exact ((setInterlock_continued (n := n) (s := s) .satisfied).trans (setTrip_continued (n := n) false)).reported hpost
end

/-! ### The nests that name a node -/

/-- R15: the evaluation of nest n for a change of node d. -/
def evaluateFor (d : NodeId) (n : NestId) (s : State) : State :=
  if interlockNode s n = some d then evaluateInterlock n s else s

theorem evaluateNode_eq (d : NodeId) (s : State) : evaluateNode d s = s.forEach allNests (evaluateFor d) := rfl

theorem evaluateFor_continued (d : NodeId) (n : NestId) (s : State) : Continued s (evaluateFor d n s) := by
  unfold evaluateFor
  split
  · rename_i h; exact evaluateInterlock_continued h
  · exact .refl s

theorem evaluateFor_beside (d : NodeId) {m n : NestId} (hm : n ≠ m) (s : State) : Beside n s (evaluateFor d m s) := by
  unfold evaluateFor
  split
  · rename_i h; exact evaluateInterlock_beside hm h
  · exact .refl n s

theorem evaluateNode_continued (d : NodeId) (s : State) : Continued s (evaluateNode d s) := by
  rw [evaluateNode_eq]
  exact forEach_induct (Continued s) _ (fun n t h => h.trans (evaluateFor_continued d n t)) _ _ (.refl s)

/-- R15: where no nest names the node nothing is evaluated. -/
theorem evaluateNode_of_unnamed {d : NodeId} {s : State} (h : ∀ n : NestId, interlockNode s n ≠ some d) :
    evaluateNode d s = s := by
  rw [evaluateNode_eq]
  apply forEach_idle
  intro n
  unfold evaluateFor
  exact if_neg (h n)

theorem interlockNode_congr {s t : State} (h : t.path = s.path) (n : NestId) : interlockNode t n = interlockNode s n := by
  unfold interlockNode nestWord cfg; rw [h]

theorem nest_cases : ∀ n : NestId, n = 0 ∨ n = 1 := by decide

/-- R15: a nest that names the node is evaluated, beside whatever is evaluated of the other. -/
theorem evaluateNode_named {d : NodeId} {n : NestId} {s : State} (h : interlockNode s n = some d) :
    ∃ t, Beside n s t ∧ Beside n (evaluateInterlock n t) (evaluateNode d s) := by
  have hturn {t : State} (ht : t.path = s.path) : evaluateFor d n t = evaluateInterlock n t :=
    if_pos ((interlockNode_congr ht n).trans h)
  have hpair : evaluateNode d s = evaluateFor d 1 (evaluateFor d 0 s) := rfl
  rw [hpair]
  rcases nest_cases n with rfl | rfl
  · exact ⟨s, .refl 0 s, hturn rfl ▸ evaluateFor_beside d (by decide) _⟩
  · have hother := evaluateFor_beside d (m := 0) (n := 1) (by decide) s
    exact ⟨_, hother, hturn hother.path ▸ .refl 1 _⟩

end Sys2Proof.Machine
end

section
/-! SUPPORT. Status words (R142): the interlock they satisfy or trip, the checks they start and the panel answers they carry
(R150). -/
namespace Sys2Proof.Machine

open Stated

/-! ### What the steps of a taking keep -/

/-- What every decision keeps, a chain keeps. -/
theorem KeptByDecisions.chain {P : State → Prop} (h : KeptByDecisions (fun _ => True) P) :
    KeptByChain (fun _ => True) P where
  record := h.record
  start he _ hs := h.start he hs
  passed _ _ hs := h.waiting hs
  opened _ _ hs := h.opened hs
  asked _ _ := trivial
  follows _ _ _ := trivial

section
variable (n m : NestId) (d : NodeId) (w : Word) (s : State)

theorem triggerCheck_nodes (c : CheckId) : (triggerCheck c s).nodes = s.nodes :=
  (nodes_keptByDecisions s.nodes).chain.triggerCheck trivial rfl

theorem triggerCheck_grows (c : CheckId) : s.post.Grows (triggerCheck c s).post :=
  (grows_keptByDecisions s.post).chain.triggerCheck trivial (.refl _)

theorem serviceTrigger_beside : Beside n s (serviceTrigger d w s) := by
  refine beside_of_plant (serviceTrigger_plant d w s) ?_ ?_
  · rw [serviceTrigger_eq]
    exact forEach_keeps State.nodes _ (fun c s => triggerCheck_nodes s c) _ _
  · rw [serviceTrigger_eq]
    exact forEach_induct (fun t => s.post.Grows t.post) _ (fun c t h => h.trans (triggerCheck_grows t c)) _ _ (.refl _)

theorem returnOutcome_grows (x : Decision) : s.post.Grows (returnOutcome m x s).post := by
  unfold returnOutcome
  split
  · exact .refl _
  · unfold promptOutcome admitOutcome
    split
    · exact decideCheck_grows ..
    · exact .refl _

theorem enterClearing_grows : s.post.Grows (enterClearing m s).post :=
  .of_eq (congrArg Post.fifo (offerStep_post ..)) (congrArg Post.lost (offerStep_post ..))

theorem takeAnswer_beside : Beside n s (takeAnswer m d w s) := by
  refine beside_of_plant (takeAnswer_plant ..) ?_ ?_ <;> unfold takeAnswer <;> split
  · exact (enterClearing_nodes ..).trans (returnOutcome_nodes ..)
  · unfold postStale; exact (postEvent_continued ..).nodes
  · exact (returnOutcome_grows m (s.modPrompt m fun p => { p with timer := none, answered := some p.sequence }) _).trans
      (enterClearing_grows ..)
  · unfold postStale; exact postEvent_grows ..

theorem panelWord_beside : Beside n s (panelWord d w s) := by
  unfold panelWord
  dsimp only
  split
  · split
    · exact .refl n s
    · split
      · exact takeAnswer_beside ..
      · unfold postStale; exact postEvent_beside ..
  · exact .refl n s
end

/-- An event reported since a later state has been reported since x. -/
theorem Continued.reported_since {e : Event} {x t w : State} (h : Continued x t) (hw : t.post.Grows w.post)
    (hreported : Reported e t w) : Reported e x w := by
  have hlost := h.post.lost
  have hlost' := hw.lost
  unfold Reported at *
  rw [h.words e] at hreported
  refine hreported.imp_right fun hr => ?_
  unfold max32 at hlost hlost'
  omega

/-! ### The status word is kept and reported -/

/-- R142: the status word is kept, and a service poll reports it where the record asks for it. -/
def polled (q : Request) (w : Word) (s : State) : State :=
  let s := s.modNode q.node fun x => { x with status := some w }
  if q.isServicePoll && reportService s q.node then
    postEvent (evService (boundNest s q.node) q.node (nodeKind s q.node) w) s
  else s

theorem takeStatus_eq (q : Request) (w : Word) (s : State) : takeStatus q w s
    = panelWord q.node w (serviceTrigger q.node w (evaluateNode q.node (polled q w s))) := rfl

section
variable (q : Request) (w : Word) (s : State)

/-- The status word is all that a poll changes before it is handed on, but for the posting of SERVICE. -/
theorem polled_eq : polled q w s =
    { s.modNode q.node (fun x => { x with status := some w }) with post := (polled q w s).post } := by
  unfold polled
  dsimp only
  split
  · rw [postEvent_eq]
  · rfl

theorem polled_nodes : (polled q w s).nodes = s.nodes.set q.node { s.nodes[q.node] with status := some w } := by
  rw [polled_eq]; rfl

theorem polled_node : (polled q w s).nodes[q.node] = { s.nodes[q.node] with status := some w } := by
  simp only [polled_nodes]; simp

theorem polled_path : (polled q w s).path = s.path := by rw [polled_eq]; rfl
theorem polled_nests : (polled q w s).nests = s.nests := by rw [polled_eq]; rfl
theorem polled_rails : (polled q w s).rails = s.rails := by rw [polled_eq]; rfl
theorem polled_checks : (polled q w s).checks = s.checks := by rw [polled_eq]; rfl
theorem polled_prompts : (polled q w s).prompts = s.prompts := by rw [polled_eq]; rfl
theorem polled_plant : (polled q w s).plant = s.plant := by rw [polled_eq]; rfl

theorem polled_posts : NothingPosted s (polled q w s)
    ∨ Posted (evService (boundNest s q.node) q.node (nodeKind s q.node) w) s (polled q w s) := by
  unfold polled
  dsimp only
  split
  · exact .inr (posted_postEvent _ (s.modNode q.node fun x => { x with status := some w }))
  · exact .inl ⟨rfl, rfl⟩

theorem polled_continued : Continued (s.modNode q.node fun x => { x with status := some w }) (polled q w s) := by
  unfold polled
  dsimp only
  split
  · exact postEvent_continued ..
  · exact .refl _

/-- R142: a service poll whose node record asks for it is reported. -/
theorem polled_reports (hservice : q.requester = .service) (hreport : reportService s q.node = true) :
    polled q w s = postEvent (evService (boundNest s q.node) q.node (nodeKind s q.node) w)
      (s.modNode q.node fun x => { x with status := some w }) := by
  have hpoll : q.isServicePoll = true := by unfold Request.isServicePoll; rw [hservice]; rfl
  have hreport' : reportService (s.modNode q.node fun x => { x with status := some w }) q.node = true := hreport
  unfold polled
  dsimp only
  rw [hpoll, hreport']
  rfl

/-- R142: what follows the status word. -/
theorem takeStatus_continued :
    Continued (s.modNode q.node fun x => { x with status := some w }) (takeStatus q w s) := by
  rw [takeStatus_eq]
  exact (((polled_continued q w s).trans (evaluateNode_continued ..)).trans
    (serviceTrigger_beside 0 ..).toContinued).trans (panelWord_beside 0 ..).toContinued

theorem takeStatus_polled : (polled q w s).post.Grows (takeStatus q w s).post := by
  rw [takeStatus_eq]
  exact ((evaluateNode_continued ..).trans
    ((serviceTrigger_beside 0 ..).toContinued.trans (panelWord_beside 0 ..).toContinued)).post
end

/-! ### The interlock (R15, R16, R17) -/

section
variable {q : Request} {w : Word} {s t : State} {n : NestId}

theorem nodeKind_congr (h : t.path = s.path) (d : NodeId) : nodeKind t d = nodeKind s d := by
  unfold nodeKind nodeWord cfg; rw [h]

/-- R15: the status that the word of a node in service gives. -/
theorem interlockOf_polled (hpath : t.path = s.path) (hnode : t.nodes[q.node] = { s.nodes[q.node] with status := some w })
    (hservice : s.nodes[q.node].state = .inService) (hd : interlockNode s n = some q.node) :
    interlockOf t n = if nodeKind s q.node = 0 ∧ w.getLsbD 0 = true then .satisfied else .unsatisfied := by
  unfold interlockOf
  rw [interlockNode_congr hpath, hd]
  dsimp only
  rw [hnode, nodeKind_congr hpath]
  exact if_congr ⟨fun h => h.2, fun h => ⟨hservice, h⟩⟩ rfl rfl

theorem forcedKinds_congr (h : ∀ j : Fin 3, t.rails[railOf n j] = s.rails[railOf n j]) :
    forcedKinds t n = forcedKinds s n := by
  unfold forcedKinds; simp only [h]

/-- R142, R15, R16, R17: the word reaches the interlock of a nest that names its node. -/
theorem takeStatus_interlock (hservice : s.nodes[q.node].state = .inService) (hd : interlockNode s n = some q.node) :
    let u := takeStatus q w s
    let closed := nodeKind s q.node = 0 ∧ w.getLsbD 0 = true
    u.nests[n].interlock = (if closed then .satisfied else .unsatisfied)
      ∧ (s.nests[n].state = .opened → s.nests[n].interlock = .satisfied → ¬ closed →
        u.nests[n] = { s.nests[n] with interlock := .unsatisfied, trip := true }
          ∧ (∀ j : Fin 3, u.rails[railOf n j] = forcedRail .interlock s.rails[railOf n j])
          ∧ Reported (evInterlockTrip n q.node .notClosed (forcedKinds s n)) s u)
      ∧ (s.nests[n].state = .opened → s.nests[n].interlock = .unsatisfied → s.nests[n].trip = true → closed →
        u.nests[n] = { s.nests[n] with interlock := .satisfied, trip := false }
          ∧ Reported (evInterlockRestored n q.node) s u) := by
  obtain ⟨t, hbefore, hafter⟩ := evaluateNode_named (d := q.node) (s := polled q w s)
    ((interlockNode_congr (polled_path q w s) n).trans hd)
  have hafter := (hafter.trans (serviceTrigger_beside n q.node w _)).trans (panelWord_beside n q.node w _)
  rw [← takeStatus_eq] at hafter
  have hsince := (polled_continued q w s).trans hbefore.toContinued
  have hpath : t.path = s.path := hbefore.path.trans (polled_path q w s)
  have hnode : t.nodes[q.node] = { s.nodes[q.node] with status := some w } := by
    simp only [hbefore.nodes, polled_node]
  have hnest : t.nests[n] = s.nests[n] := by rw [hbefore.nest]; simp only [polled_nests]
  have hrails (j : Fin 3) : t.rails[railOf n j] = s.rails[railOf n j] := by
    rw [hbefore.rails j]; simp only [polled_rails]
  have hinterlock := interlockOf_polled hpath hnode hservice hd
  have hd' : interlockNode t n = some q.node := (interlockNode_congr hpath n).trans hd
  dsimp only
  refine ⟨?_, fun hopened hold hclosed => ?_, fun hopened hold htrip hclosed => ?_⟩
  · rw [hafter.nest, evaluateInterlock_interlock hd', hinterlock]
  · rw [if_neg hclosed] at hinterlock
    obtain ⟨htripped, hforced, hreported⟩ :=
      evaluateInterlock_trips hd' (by rw [hnest]; exact hopened) (by rw [hnest]; exact hold) hinterlock
    have hway : tripWay t.nodes[q.node] = .notClosed := by unfold tripWay; rw [hnode, hservice]
    rw [hway, forcedKinds_congr hrails] at hreported
    refine ⟨?_, fun j => ?_, ?_⟩
    · rw [hafter.nest, htripped, hnest]
    · rw [hafter.rails, hforced, hrails]
    · exact hsince.reported_since ((evaluateInterlock_continued hd').post.trans hafter.post) (hreported _ hafter.post)
  · rw [if_pos hclosed] at hinterlock
    obtain ⟨hrestored, hreported⟩ := evaluateInterlock_restores hd' (by rw [hnest]; exact hopened)
      (by rw [hnest]; exact hold) (by rw [hnest]; exact htrip) hinterlock
    refine ⟨?_, ?_⟩
    · rw [hafter.nest, hrestored, hnest]
    · exact hsince.reported_since ((evaluateInterlock_continued hd').post.trans hafter.post) (hreported _ hafter.post)
end

end Sys2Proof.Machine
end

section
/-! SUPPORT. The panel answer of a status word (R150), and all that a status word does (R142). -/
namespace Sys2Proof.Machine

open Stated

/-! ### The checks that wait for a status word (R104) -/

/-- R104: a trigger that finds no ARMED check starts none. -/
theorem serviceTrigger_of_none {d : NodeId} {w : Word} {s : State}
    (h : ∀ c : CheckId, s.checks[c].state = .armed → checkTrigger s c = some (.service d) → matchMask s c &&& w = 0) :
    serviceTrigger d w s = s := by
  unfold serviceTrigger
  apply forEach_idle
  intro c
  split
  · rename_i hfires
    unfold triggerCheck
    exact if_neg fun harmed => hfires.2 (h c harmed hfires.1)
  · rfl

/-! ### The nests of a panel (R150) -/

section
variable {n : NestId} {d : NodeId} {w : Word} {s : State}

theorem panelNode_congr {t : State} (h : t.path = s.path) (n : NestId) : panelNode t n = panelNode s n := by
  unfold panelNode nestWord cfg; rw [h]

theorem panelNests_congr {t : State} (h : t.path = s.path) (d : NodeId) : panelNests t d = panelNests s d := by
  unfold panelNests; simp only [panelNode_congr h]

theorem mem_panelNests : n ∈ panelNests s d ↔ panelNode s n = some d := by
  have hn : n ∈ allNests := by rcases nest_cases n with rfl | rfl <;> decide
  unfold panelNests
  simp [hn]

/-- Nest A is looked at before nest B. -/
theorem find_first {p : NestId → Bool} (hn : p n = true) (hfirst : ∀ j : NestId, p j = true → n ≤ j) :
    allNests.find? p = some n := by
  unfold allNests
  rcases nest_cases n with rfl | rfl
  · simp [hn]
  · have hzero : p 0 = false := Bool.eq_false_iff.2 fun h => absurd (hfirst 0 h) (by decide)
    simp [hn, hzero]

/-- R150: the word answers the question that nest n shows. -/
def asking (s : State) (d : NodeId) (w : Word) (n : NestId) : Prop :=
  panelNode s n = some d ∧ s.prompts[n].state = .shown ∧ s.prompts[n].sequence = answerSequence w

/-- R150: the word repeats an answer that was taken. -/
def repeated (s : State) (d : NodeId) (w : Word) : Prop :=
  ∃ n : NestId, panelNode s n = some d ∧ s.prompts[n].answered = some (answerSequence w)

theorem panelNests_find (hasking : asking s d w n) (hfirst : ∀ j, asking s d w j → n ≤ j) :
    (panelNests s d).find? (fun n => s.prompts[n].state == .shown && s.prompts[n].sequence == answerSequence w)
      = some n := by
  unfold panelNests
  rw [List.find?_filter]
  obtain ⟨hpanel, hshown, hsequence⟩ := hasking
  refine find_first ?_ fun j hj => hfirst j ?_
  · rw [hpanel, hshown, hsequence]; simp
  · simp only [Bool.and_eq_true, decide_eq_true_eq, beq_iff_eq] at hj
    obtain ⟨hpanel, hshown, hsequence⟩ := hj
    exact ⟨hpanel, hshown, hsequence⟩

theorem panelNests_any : (panelNests s d).any (fun n => s.prompts[n].answered == some (answerSequence w)) = true
    ↔ repeated s d w := by
  simp only [List.any_eq_true, mem_panelNests, beq_iff_eq]
  rfl

theorem panelWord_of_unready (h : answerReady w = false ∨ panelNests s d = []) : panelWord d w s = s := by
  unfold panelWord
  dsimp only
  split
  · rename_i hready hpanels
    rcases h with h | h
    · exact nomatch h.symm.trans hready
    · exact nomatch h.symm.trans hpanels
  · rfl

theorem panelWord_of_ready {first : NestId} {others : List NestId} (hready : answerReady w = true)
    (hpanels : panelNests s d = first :: others) : panelWord d w s =
      if (panelNests s d).any fun n => s.prompts[n].answered == some (answerSequence w) then s
      else
        match (panelNests s d).find? fun n => s.prompts[n].state == .shown && s.prompts[n].sequence == answerSequence w with
        | some n => takeAnswer n d w s
        | none =>
          postStale first d w (if s.prompts[first].sequence = answerSequence w then .notShown else .oldSequence) s := by
  unfold panelWord
  dsimp only
  rw [hready, hpanels] <;> rfl

theorem panelWord_of_repeated (h : repeated s d w) : panelWord d w s = s := by
  by_cases hready : answerReady w = true
  · cases hpanels : panelNests s d with
    | nil => exact panelWord_of_unready (.inr hpanels)
    | cons first others => rw [panelWord_of_ready hready hpanels, if_pos (panelNests_any.2 h)]
  · exact panelWord_of_unready (.inl (Bool.eq_false_iff.2 hready))

theorem panelWord_of_asking (hready : answerReady w = true) (hnew : ¬ repeated s d w) (hasking : asking s d w n)
    (hfirst : ∀ j, asking s d w j → n ≤ j) : panelWord d w s = takeAnswer n d w s := by
  cases hpanels : panelNests s d with
  | nil =>
    have hn : n ∈ panelNests s d := mem_panelNests.2 hasking.1
    rw [hpanels] at hn
    cases hn
  | cons first others =>
    rw [panelWord_of_ready hready hpanels, if_neg fun h => hnew (panelNests_any.1 h), panelNests_find hasking hfirst]

theorem panelWord_of_none (hready : answerReady w = true) (hnew : ¬ repeated s d w) (hnone : ∀ j, ¬ asking s d w j)
    {first : NestId} {others : List NestId} (hpanels : panelNests s d = first :: others) : panelWord d w s =
      postStale first d w (if s.prompts[first].sequence = answerSequence w then .notShown else .oldSequence) s := by
  have hfind : (panelNests s d).find?
      (fun n => s.prompts[n].state == .shown && s.prompts[n].sequence == answerSequence w) = none := by
    refine List.find?_eq_none.2 fun j hj hshown => hnone j ?_
    simp only [Bool.and_eq_true, beq_iff_eq] at hshown
    exact ⟨mem_panelNests.1 hj, hshown⟩
  rw [panelWord_of_ready hready hpanels, if_neg fun h => hnew (panelNests_any.1 h), hfind]

/-! ### The answer that is taken -/

/-- R150: the context in which an answer is taken. -/
def answeredContext (n : NestId) (s : State) : State :=
  s.modPrompt n fun p => { p with timer := none, answered := some p.sequence }

theorem answerOffered_iff (answers : BitVec 3) (code : Nat) :
    answerOffered answers code = true ↔ 1 ≤ code ∧ answers.getLsbD (code - 1) = true := by
  unfold answerOffered; simp

theorem takeAnswer_of_unoffered (h : answerOffered s.prompts[n].answers (answerCode w) = false) :
    takeAnswer n d w s = postStale n d w .notOffered s := by
  unfold takeAnswer; rw [h]; rfl

/-- R150: an answer that is offered decides the check that asks, and the context clears. -/
theorem takeAnswer_decides {x : Arming} (hoffered : answerOffered s.prompts[n].answers (answerCode w) = true)
    (hshown : s.prompts[n].state = .shown) (hcheck : s.prompts[n].check = some x) (hasks : Asks x s) :
    let u := takeAnswer n d w s
    Decided x.check
        { verdict := answerVerdict (answerCode w), a := s.prompts[n].sequence.toNat, b := answerCode w } s u
      ∧ Clearing s.prompts[n] u.prompts[n] ∧ u.prompts[n].answered = some s.prompts[n].sequence := by
  have hcontext : (answeredContext n s).prompts[n]
      = { s.prompts[n] with timer := none, answered := some s.prompts[n].sequence } := modPrompt_self ..
  have hreturn := returnOutcome_of_asks (n := n) (s := answeredContext n s) (by rw [hcontext]; exact hcheck) hasks
    { verdict := answerVerdict (answerCode w), b := answerCode w }
  obtain ⟨⟨-, hkept⟩, -⟩ := decideCheck_passedBy (n := n) (s := answeredContext n s)
    (.inl (by rw [hcontext]; exact fun hfree => nomatch hshown.symm.trans hfree)) x.check
    { verdict := answerVerdict (answerCode w), a := (answeredContext n s).prompts[n].sequence.toNat, b := answerCode w }
  have hstands := decideCheck_stands x.check
    { verdict := answerVerdict (answerCode w), a := (answeredContext n s).prompts[n].sequence.toNat, b := answerCode w }
    (answeredContext n s)
  have htaken : takeAnswer n d w s = enterClearing n (returnOutcome n
      { verdict := answerVerdict (answerCode w), b := answerCode w } (answeredContext n s)) := by
    unfold takeAnswer; rw [if_pos hoffered]; rfl
  rw [htaken, hreturn]
  dsimp only
  generalize decideCheck x.check _ (answeredContext n s) = v at hkept hstands ⊢
  rw [hcontext] at hkept hstands
  have hclearing := enterClearing_clearing n v
  obtain ⟨held, hentered⟩ := enterClearing_prompt n v
  rw [hkept] at hclearing hentered
  refine ⟨verdictStands_enterClearing hstands, hclearing, ?_⟩
  rw [hentered]
end

/-! ### All that a status word does -/

/-- What is said of a status word is about nests, rails, checks, prompts and posts. -/
structure SameTaken (t u : State) : Prop where
  nests : u.nests = t.nests
  rails : u.rails = t.rails
  checks : u.checks = t.checks
  unposted : u.unposted = t.unposted
  prompts : u.prompts = t.prompts
  post : t.post.Grows u.post

/-- An event reported in t is reported in what follows. -/
theorem reported_mono {e : Event} {s t u : State} (h : Reported e s t) (hs : s.post.Grows t.post)
    (hpost : t.post.Grows u.post) : Reported e s u := by
  have hbefore := hs.lost
  have hafter := hpost.lost
  unfold Reported at *
  rcases h with ⟨slot, hm⟩ | h
  · exact .inl ⟨slot, hpost.fifo.subset hm⟩
  · refine .inr ?_
    unfold max32 at hbefore hafter
    omega

section
variable {q : Request} {w : Word} {s t u : State} {n : NestId}

theorem asking_congr (hpath : t.path = s.path) (hprompts : t.prompts = s.prompts) (d : NodeId) (w : Word) (n : NestId) :
    asking t d w n ↔ asking s d w n := by
  unfold asking
  rw [panelNode_congr hpath, hprompts]

theorem repeated_congr (hpath : t.path = s.path) (hprompts : t.prompts = s.prompts) (d : NodeId) (w : Word) :
    repeated t d w ↔ repeated s d w := by
  unfold repeated
  simp only [panelNode_congr hpath, hprompts]

/-- R142: a word of a node that no nest names as its interlock. -/
theorem takeStatus_of_unnamed (h : ∀ j : NestId, interlockNode s j ≠ some q.node) :
    takeStatus q w s = panelWord q.node w (serviceTrigger q.node w (polled q w s)) := by
  rw [takeStatus_eq, evaluateNode_of_unnamed fun j => by rw [interlockNode_congr (polled_path q w s)]; exact h j]

/-- R104, R142: no nest names the node d as its interlock, and no ARMED check waits for the word. -/
def alone (s : State) (d : NodeId) (w : Word) : Prop :=
  (∀ j : NestId, interlockNode s j ≠ some d)
    ∧ ∀ c : CheckId, s.checks[c].state = .armed → checkTrigger s c = some (.service d) → matchMask s c &&& w = 0

/-- R142: such a word is a panel word and nothing else. -/
theorem takeStatus_of_alone (h : alone s q.node w) : takeStatus q w s = panelWord q.node w (polled q w s) := by
  obtain ⟨hunnamed, hnone⟩ := h
  rw [takeStatus_of_unnamed hunnamed, serviceTrigger_of_none fun c harmed htrigger => ?_]
  simp only [polled_checks] at harmed
  rw [checkTrigger_congr (polled_path q w s)] at htrigger
  rw [matchMask_congr (polled_path q w s)]
  exact hnone c harmed htrigger

/-- R142, R104: the word starts the checks that wait for it. -/
theorem takeStatus_triggers (hunnamed : ∀ j : NestId, interlockNode s j ≠ some q.node)
    (hunready : answerReady w = false ∨ panelNests s q.node = []) :
    takeStatus q w s = started (serviceFires q.node w (polled q w s)) (polled q w s) := by
  have hpath : (serviceTrigger q.node w (polled q w s)).path = s.path :=
    (serviceTrigger_beside 0 q.node w _).path.trans (polled_path q w s)
  rw [takeStatus_of_unnamed hunnamed, panelWord_of_unready (by rw [panelNests_congr hpath]; exact hunready),
    serviceTrigger_eq]
  rfl

/-- R150: a word that carries no new answer changes neither contexts nor checks. -/
theorem takeStatus_unanswered (h : alone s q.node w)
    (hnone : answerReady w = false ∨ panelNests s q.node = [] ∨ repeated s q.node w) :
    takeStatus q w s = polled q w s := by
  rw [takeStatus_of_alone h]
  rcases hnone with hunready | hnests | hrepeated
  · exact panelWord_of_unready (.inl hunready)
  · exact panelWord_of_unready (.inr (by rw [panelNests_congr (polled_path q w s)]; exact hnests))
  · exact panelWord_of_repeated ((repeated_congr (polled_path q w s) (polled_prompts q w s) ..).2 hrepeated)

/-- R150: the word is taken by the first nest that asks. -/
theorem takeStatus_answered (h : alone s q.node w) (hready : answerReady w = true) (hnew : ¬ repeated s q.node w)
    (hasking : asking s q.node w n) (hfirst : ∀ j, asking s q.node w j → n ≤ j) :
    takeStatus q w s = takeAnswer n q.node w (polled q w s) := by
  have hasks := asking_congr (polled_path q w s) (polled_prompts q w s) q.node w
  rw [takeStatus_of_alone h]
  exact panelWord_of_asking hready
    (fun hr => hnew ((repeated_congr (polled_path q w s) (polled_prompts q w s) ..).1 hr)) ((hasks n).2 hasking)
    fun j hj => hfirst j ((hasks j).1 hj)

/-- R150: a stale answer is reported and changes neither contexts nor checks. -/
theorem postStale_taken {d : NodeId} {r : StaleReason}
    (hu : SameTaken (postStale n d w r (polled q w s)) u) :
    u.prompts = s.prompts ∧ u.checks = s.checks
      ∧ Reported (evStaleAnswer n d (answerCode w) (answerSequence w) r s.prompts[n].sequence s.prompts[n].state) s u := by
  have hpost := hu.post
  have hreported (e : Event) (h : (postEvent e (polled q w s)).post.Grows u.post) : Reported e s u :=
    (polled_continued q w s).reported h
  rw [hu.prompts, hu.checks]
  unfold postStale at *
  simp only [polled_prompts] at *
  rw [postEvent_eq]
  exact ⟨polled_prompts q w s, polled_checks q w s, hreported _ hpost⟩

/-- R150: an offered answer decides the check of the context that asks. -/
theorem takeAnswer_taken {d : NodeId} {x : Arming} (hu : SameTaken (takeAnswer n d w (polled q w s)) u)
    (hoffered : answerOffered s.prompts[n].answers (answerCode w) = true) (hshown : s.prompts[n].state = .shown)
    (hcheck : s.prompts[n].check = some x) (hasks : Asks x s) :
    Decided x.check
        { verdict := answerVerdict (answerCode w), a := s.prompts[n].sequence.toNat, b := answerCode w } s u
      ∧ Clearing s.prompts[n] u.prompts[n] ∧ u.prompts[n].answered = some s.prompts[n].sequence := by
  have hcontext : (polled q w s).prompts[n] = s.prompts[n] := by simp only [polled_prompts]
  have hchecks := polled_checks q w s
  obtain ⟨hdecided, hclearing, hanswered⟩ := takeAnswer_decides (n := n) (d := d) (w := w) (s := polled q w s) (x := x)
    (by rw [hcontext]; exact hoffered) (by rw [hcontext]; exact hshown) (by rw [hcontext]; exact hcheck)
    (by unfold Asks; rw [hchecks]; exact hasks)
  rw [hcontext] at hdecided hclearing hanswered
  have hstands : VerdictStands x.check (verdictOf (polled q w s) x.check
    { verdict := answerVerdict (answerCode w), a := s.prompts[n].sequence.toNat, b := answerCode w }) _ := hdecided
  rw [verdictOf_of_kept (kept_of_plant (polled_plant q w s)) (by rw [hchecks])] at hstands
  simp only [hu.prompts]
  exact ⟨hstands.mono hu.checks hu.unposted hu.post, hclearing, hanswered⟩

/-- R142, R15, R16, R17, R150: what a status word does. -/
theorem takeStatus_taken (hu : SameTaken (takeStatus q w s) u) : StatusTaken q.node w s u := by
  have hgrows : s.post.Grows (takeStatus q w s).post := (takeStatus_continued q w s).post
  refine ⟨fun hservice n hd => ?_, fun hunnamed hunready => ?_, fun halone hnone => ?_,
    fun halone hready hnew n hasking hfirst => ?_, fun halone hready hnew hnone first others hpanels => ?_⟩
  · obtain ⟨hinterlock, htrips, hrestores⟩ := takeStatus_interlock (w := w) hservice hd
    simp only [hu.nests, hu.rails]
    refine ⟨hinterlock, fun hopened hold hclosed => ?_, fun hopened hold htrip hclosed => ?_⟩
    · obtain ⟨hnest, hrails, hreported⟩ := htrips hopened hold hclosed
      exact ⟨hnest, hrails, reported_mono hreported hgrows hu.post⟩
    · obtain ⟨hnest, hreported⟩ := hrestores hopened hold htrip hclosed
      exact ⟨hnest, reported_mono hreported hgrows hu.post⟩
  · have hplant := polled_plant q w s
    have htriggers := takeStatus_triggers hunnamed (hunready.imp_left Bool.eq_false_iff.2)
    have hlink : (polled q w s).link = s.link := by rw [polled_eq]; rfl
    have hunposted : (polled q w s).unposted = s.unposted := by rw [polled_eq]; rfl
    exact ⟨polled q w s, samePlant_of_plant hplant, sameStimulus_of_bench (bench_of_plant hplant), polled_path q w s,
      hlink, polled_checks q w s, hunposted, polled_prompts q w s, polled_nodes q w s, polled_posts q w s,
      by rw [hu.checks, htriggers], by rw [hu.unposted, htriggers], by rw [hu.prompts, htriggers]⟩
  · rw [hu.prompts, hu.checks, takeStatus_unanswered halone (hnone.imp_left Bool.eq_false_iff.2)]
    exact ⟨polled_prompts q w s, polled_checks q w s⟩
  · obtain ⟨-, hshown, hsequence⟩ := id hasking
    rw [takeStatus_answered halone hready hnew hasking hfirst] at hu
    refine ⟨fun hoffered x hcheck hasks => ?_, fun hoffered => ?_⟩
    · have htaken := takeAnswer_taken hu ((answerOffered_iff ..).2 hoffered) hshown hcheck hasks
      rw [hsequence] at htaken
      exact htaken
    · have hunoffered : answerOffered (polled q w s).prompts[n].answers (answerCode w) = false := by
        simp only [polled_prompts]
        exact Bool.eq_false_iff.2 fun h => hoffered ((answerOffered_iff ..).1 h)
      rw [takeAnswer_of_unoffered hunoffered] at hu
      have hstale := postStale_taken hu
      rw [hsequence, hshown] at hstale
      exact hstale
  · have hpath := polled_path q w s
    have hprompts := polled_prompts q w s
    have hstale : takeStatus q w s = postStale first q.node w
        (if s.prompts[first].sequence = answerSequence w then .notShown else .oldSequence) (polled q w s) := by
      rw [takeStatus_of_alone halone, panelWord_of_none hready
        (fun h => hnew ((repeated_congr hpath hprompts ..).1 h))
        (fun j h => hnone j ((asking_congr hpath hprompts ..).1 h)) ((panelNests_congr hpath _).trans hpanels)]
      simp only [hprompts]
    rw [hstale] at hu
    exact postStale_taken hu
end

end Sys2Proof.Machine
end

section
/-! CERTIFICATE. The statement on replies that are complete (R133, R140, R142). -/
namespace Sys2Proof.Machine

open Stated

/-! ### The end of a transaction -/

section
variable {t : Transaction} {s : State}

/-- LINK_REPLY_COMPLETE in its phase, with a reply that is an answer. -/
theorem exec_linkReplyComplete {r : LinkReply} {c : ReplyCode} {words : List Word} (hflight : s.link.flight = some t)
    (hphase : t.phase = .receiving)
    (hjudged : judgeReply (addressCode s t.request.node) t.request.kind r = .answer c words) :
    exec (.linkReplyComplete r) s = .next (settle (completeAttempt t c words s)) := by
  have hin : flightIn s .receiving = some t := by unfold flightIn; rw [hflight]; simp [hphase]
  change execLinkReplyComplete r s = _
  unfold execLinkReplyComplete
  rw [hin]
  dsimp only
  unfold judged
  rw [hjudged]

/-- R133: the flight ends. -/
def landed (s : State) : State := s.modLink fun l => { l with flight := none }

theorem finishTransaction_polled {r : LinkResult} {words : List Word} (h : t.request.kind = .poll ∧ r = .ok) :
    finishTransaction t r words s = landed (clearPending t.request
      (answerFlight t r (words.headD 0) (takeStatus t.request (words.headD 0) s))) := by
  unfold finishTransaction
  dsimp only
  rw [if_pos h]
  rfl

theorem finishTransaction_unpolled {r : LinkResult} {words : List Word} (h : ¬ (t.request.kind = .poll ∧ r = .ok)) :
    finishTransaction t r words s = landed (clearPending t.request (answerFlight t r (words.headD 0) s)) := by
  unfold finishTransaction
  dsimp only
  rw [if_neg h]
  rfl

theorem completeAttempt_finishes {c : ReplyCode} {words : List Word} (h : ¬ (t.request.kind = .getBlock ∧ c = .ok)) :
    completeAttempt t c words s = finishTransaction t c.result words s := by
  unfold completeAttempt; exact if_neg h

theorem result_ok_iff (c : ReplyCode) : c.result = .ok ↔ c = .ok := by cases c <;> simp [ReplyCode.result]

theorem clearPending_other (h : t.request.requester ≠ .service) : clearPending t.request s = s := by
  unfold clearPending Request.isServicePoll
  exact if_neg fun hs => h (eq_of_beq hs)

theorem clearPending_service (h : t.request.requester = .service) :
    clearPending t.request s = s.modNode t.request.node fun x => { x with servicePending := false } := by
  unfold clearPending Request.isServicePoll
  rw [h]
  rfl

/-! ### What the requester is told (R140, R143) -/

theorem answerFlight_service (h : t.request.requester = .service) (r : LinkResult) (w : Word) :
    answerFlight t r w s = s := by
  unfold answerFlight answer
  rw [h]
  dsimp only
  split <;> rfl

/-- R143: the LINK_REPLY of a host request. -/
def hostReply (t : Transaction) (ring : BitVec 4) (tag : BitVec 16) (r : LinkResult) (w : Word) (s : State) : Event :=
  evLinkReply (replyNest s t.request.node.val) t.request.node.val t.request.kind.code ring tag
    (if t.flushed then .flushed else r) (if t.flushed then 0 else replyData t.request.kind r w)

theorem answerFlight_host {ring : BitVec 4} {buffer : Word} {tag : BitVec 16}
    (h : t.request.requester = .host ring buffer tag) (r : LinkResult) (w : Word) :
    answerFlight t r w s = postEvent (hostReply t ring tag r w s) s := by
  unfold answerFlight answer hostReply
  rw [h]
  dsimp only
  split <;> rfl

theorem answerFlight_check {c : CheckId} {arming : BitVec 8} {session : BitVec 16}
    (h : t.request.requester = .check c arming session) (hflushed : t.flushed = false) (r : LinkResult) (w : Word) :
    answerFlight t r w s = queryResult c arming session r w s := by
  unfold answerFlight answer
  rw [h, hflushed]
  rfl

theorem answerFlight_prompt {n : NestId} {q : BitVec 8} {k : PromptStep} {text : Nat}
    (h : t.request.requester = .prompt n q k text) (r : LinkResult) (w : Word) :
    answerFlight t r w s = if t.flushed then s else stepResult n q k r s := by
  unfold answerFlight answer
  rw [h]

theorem queryResult_nodes (c : CheckId) (a : BitVec 8) (q : BitVec 16) (r : LinkResult) (w : Word) (s : State) :
    (queryResult c a q r w s).nodes = s.nodes := by
  unfold queryResult
  split
  · exact decideCheck_nodes ..
  · rfl

theorem answer_nodes (q : Request) (r : LinkResult) (w : Word) (s : State) : (answer q r w s).nodes = s.nodes := by
  unfold answer
  split
  · rfl
  · exact (postEvent_continued ..).nodes
  · exact queryResult_nodes ..
  · exact stepResult_nodes ..

theorem answerFlight_nodes (t : Transaction) (r : LinkResult) (w : Word) (s : State) :
    (answerFlight t r w s).nodes = s.nodes := by
  unfold answerFlight
  split
  · split
    · exact answer_nodes ..
    · rfl
    · rfl
    · rfl
  · exact answer_nodes ..

/-- R140: a LINK_REPLY leaves all blocks but the link, in which the flight ends. -/
theorem landed_postEvent (e : Event) (s : State) :
    let u := landed (postEvent e s)
    Posted e s u ∧ u.link = { s.link with flight := none } ∧ u.nodes = s.nodes ∧ u.checks = s.checks
      ∧ u.prompts = s.prompts ∧ SamePlant s u ∧ SameStimulus s u := by
  have hposted : Posted e s (landed (postEvent e s)) := posted_postEvent e s
  refine ⟨hposted, ?_⟩
  rw [postEvent_eq]
  exact ⟨rfl, rfl, rfl, rfl, ⟨rfl, rfl, rfl, rfl⟩, rfl, rfl, rfl, rfl, rfl, rfl, rfl⟩
end

/-! ### Host requests that carry no status word -/

section
variable {t : Transaction} {s : State} {ring : BitVec 4} {buffer : Word} {tag : BitVec 16} {c : ReplyCode}
  {words : List Word}

theorem replyData_unpolled (h : t.request.kind ≠ .poll) (w : Word) :
    (if t.flushed then 0 else replyData t.request.kind c.result w)
      = if t.flushed = false ∧ c = .ok ∧ t.request.kind = .get then w else 0 := by
  unfold replyData
  simp only [result_ok_iff]
  cases t.flushed with
  | true => simp
  | false => cases hkind : t.request.kind <;> simp_all [wordsOwed]

theorem completeAttempt_host (h : t.request.requester = .host ring buffer tag) (hkind : t.request.kind ≠ .poll)
    (hblock : t.request.kind = .getBlock → c ≠ .ok) : completeAttempt t c words s =
      landed (postEvent (evLinkReply (replyNest s t.request.node.val) t.request.node.val t.request.kind.code ring tag
        (if t.flushed then .flushed else c.result)
        (if t.flushed = false ∧ c = .ok ∧ t.request.kind = .get then words.headD 0 else 0)) s) := by
  rw [completeAttempt_finishes fun hg => hblock hg.1 hg.2, finishTransaction_unpolled fun hp => hkind hp.1,
    answerFlight_host h, clearPending_other (by rw [h]; nofun), ← replyData_unpolled hkind]
  rfl

/-! ### A block that has been received (R139) -/

/-- R139: the block item waits in its transaction. -/
def blockHeld (t : Transaction) (buffer : Word) (words : List Word) (s : State) : State :=
  s.modLink fun l =>
    { l with block := some ⟨words, buffer, t.request⟩, flight := some { t with phase := .handingOff } }

theorem completeAttempt_block (h : t.request.requester = .host ring buffer tag) (hkind : t.request.kind = .getBlock)
    (hc : c = .ok) : completeAttempt t c words s = testBlock (blockHeld t buffer words s) := by
  unfold completeAttempt handOff
  rw [if_pos ⟨hkind, hc⟩, h]
  rfl

theorem testBlock_full (h : fifoFree s = false) : testBlock s = s := by
  unfold testBlock takeBlock
  split
  · rw [h]; rfl
  · rfl

/-- R139, R172: the block enters the post FIFO, and its transaction completes. -/
theorem testBlock_taken {b : BlockItem} (hblock : s.link.block = some b) (hflight : s.link.flight = some t)
    (h : fifoFree s = true) : testBlock s
      = finishTransaction t .ok [] ((pushBlock b s).modLink fun l => { l with block := none }) := by
  unfold testBlock takeBlock
  rw [hblock, hflight]
  dsimp only
  rw [h]
  rfl
end

section
variable {t : Transaction} {s : State} {ring : BitVec 4} {buffer : Word} {tag : BitVec 16} {c : ReplyCode}
  {words : List Word}

/-- R139, R172: with a free place the block enters the post FIFO at once, and the host is answered. -/
theorem completeAttempt_blockTaken (h : t.request.requester = .host ring buffer tag)
    (hkind : t.request.kind = .getBlock) (hc : c = .ok) (hroom : s.post.fifo.length < 32) :
    completeAttempt t c words s =
      landed (postEvent (evLinkReply (replyNest s t.request.node.val) t.request.node.val 5 ring tag
        (if t.flushed then .flushed else .ok) 0)
        ((pushBlock ⟨words, buffer, t.request⟩ (blockHeld t buffer words s)).modLink fun l => { l with block := none })) := by
  have hfree : fifoFree (blockHeld t buffer words s) = true := decide_eq_true hroom
  have hother : ({ t with phase := .handingOff } : Transaction).request.requester ≠ .service := by
    change t.request.requester ≠ _
    rw [h]
    nofun
  have hunpolled : ¬ (({ t with phase := .handingOff } : Transaction).request.kind = .poll ∧ LinkResult.ok = .ok) :=
    fun hp => nomatch hkind.symm.trans hp.1
  have hdata (w : Word) : (if t.flushed then 0 else replyData t.request.kind .ok w) = 0 := by
    rw [hkind]
    exact ite_self 0
  have hcode : t.request.kind.code = 5 := by rw [hkind]; rfl
  rw [completeAttempt_block h hkind hc, testBlock_taken rfl rfl hfree, finishTransaction_unpolled hunpolled,
    answerFlight_host (t := { t with phase := .handingOff }) h, clearPending_other hother]
  unfold hostReply
  dsimp only
  rw [hdata, hcode]
  rfl

/-! ### Polls (R133, R142) -/

/-- The state that the status word leaves, with the host answered, if it was the host that asked. -/
theorem completeAttempt_polled (hkind : t.request.kind = .poll) (hc : c = .ok) : completeAttempt t c words s =
    landed (clearPending t.request
      (answerFlight t .ok (words.headD 0) (takeStatus t.request (words.headD 0) s))) := by
  subst hc
  rw [completeAttempt_finishes fun hg => nomatch hkind.symm.trans hg.1]
  exact finishTransaction_polled ⟨hkind, rfl⟩

theorem clearPending_node (q : Request) (s : State) : (clearPending q s).nodes[q.node].status = s.nodes[q.node].status
    ∧ (clearPending q s).nodes[q.node].state = s.nodes[q.node].state
    ∧ (q.requester = .service → (clearPending q s).nodes[q.node].servicePending = false) := by
  unfold clearPending Request.isServicePoll
  split
  · rw [modNode_get, if_pos rfl]
    exact ⟨rfl, rfl, fun _ => rfl⟩
  · rename_i hother
    exact ⟨rfl, rfl, fun hs => absurd (by rw [hs]; rfl) hother⟩

/-- R142: the node of a poll that has been answered. -/
theorem polled_nodeAfter (w : Word) :
    let u := landed (clearPending t.request (answerFlight t .ok w (takeStatus t.request w s)))
    u.nodes[t.request.node].status = some w
      ∧ u.nodes[t.request.node].state = s.nodes[t.request.node].state
      ∧ (t.request.requester = .service → u.nodes[t.request.node].servicePending = false) := by
  obtain ⟨hstatus, hstate, hpending⟩ :=
    clearPending_node t.request (answerFlight t .ok w (takeStatus t.request w s))
  have hnode : (answerFlight t .ok w (takeStatus t.request w s)).nodes[t.request.node]
      = { s.nodes[t.request.node] with status := some w } := by
    have hnodes := (answerFlight_nodes t .ok w _).trans (takeStatus_continued t.request w s).nodes
    simp only [hnodes]
    rw [modNode_get, if_pos rfl]
  rw [hnode] at hstatus hstate
  exact ⟨hstatus, hstate, hpending⟩

/-- R142: what a status word has done is not undone by the answer to a service poll or to the host. -/
theorem polled_sameTaken (w : Word)
    (h : t.request.requester = .service ∨ ∃ ring buffer tag, t.request.requester = .host ring buffer tag) :
    SameTaken (takeStatus t.request w s)
      (landed (clearPending t.request (answerFlight t .ok w (takeStatus t.request w s)))) := by
  rcases h with hservice | ⟨ring, buffer, tag, hhost⟩
  · rw [answerFlight_service hservice, clearPending_service hservice]
    exact ⟨rfl, rfl, rfl, rfl, rfl, .of_eq rfl rfl⟩
  · rw [answerFlight_host hhost, clearPending_other (by rw [hhost]; nofun)]
    have hgrows := postEvent_grows (hostReply t ring tag .ok w (takeStatus t.request w s)) (takeStatus t.request w s)
    refine ⟨?_, ?_, ?_, ?_, ?_, hgrows⟩ <;> rw [postEvent_eq] <;> rfl

theorem boundNest_congr {s u : State} (h : u.path = s.path) (d : NodeId) : boundNest u d = boundNest s d := by
  unfold boundNest nodeBinding nodeWord cfg; rw [h]

theorem replyNest_congr {s u : State} (h : u.path = s.path) (node : Nat) : replyNest u node = replyNest s node := by
  unfold replyNest; simp only [boundNest_congr h]

/-- R140: the host that polled is answered with the status word. -/
theorem polled_hostReported (w : Word) (h : t.request.requester = .host ring buffer tag)
    (hkind : t.request.kind = .poll) :
    Reported (evLinkReply (replyNest s t.request.node.val) t.request.node.val 3 ring tag
        (if t.flushed then .flushed else .ok) (if t.flushed then 0 else w)) s
      (landed (clearPending t.request (answerFlight t .ok w (takeStatus t.request w s)))) := by
  have hsince := takeStatus_continued t.request w s
  have hevent : hostReply t ring tag .ok w (takeStatus t.request w s)
      = evLinkReply (replyNest s t.request.node.val) t.request.node.val 3 ring tag
        (if t.flushed then .flushed else .ok) (if t.flushed then 0 else w) := by
    unfold hostReply
    rw [hkind, replyNest_congr (hsince.path.trans (modNode_path ..))]
    rfl
  rw [answerFlight_host h, clearPending_other (by rw [h]; nofun), hevent]
  exact hsince.reported (.refl _)

/-- R142: the status word of a service poll is reported where the node record asks for it. -/
theorem polled_serviceReported (w : Word) (h : t.request.requester = .service)
    (hreport : reportService s t.request.node = true) :
    Reported (evService (boundNest s t.request.node) t.request.node (nodeKind s t.request.node) w) s
      (landed (clearPending t.request (answerFlight t .ok w (takeStatus t.request w s)))) := by
  have hpost := (takeStatus_polled t.request w s).trans (polled_sameTaken w (.inl h)).post
  rw [polled_reports _ w s h hreport] at hpost
  exact (Continued.refl (s.modNode t.request.node fun x => { x with status := some w })).reported hpost

/-! ### Queries (R114) -/

/-- R114: the decision of the check that waits for the reply. -/
theorem queryResult_decides {k : CheckId} {arming : BitVec 8} {session : BitVec 16} {r : LinkResult} {w : Word}
    (hstate : s.checks[k].state = .querying) (harming : s.checks[k].arming = arming)
    (hsession : s.checks[k].session = session) :
    VerdictStands k (verdictOf s k (queryDecision s k r w)) (queryResult k arming session r w s) := by
  have hsame : sameArming s k arming session = true := by
    unfold sameArming; rw [harming, hsession]; simp
  unfold queryResult
  rw [if_pos ⟨hstate, hsame⟩]
  exact decideCheck_stands k _ s

theorem queryDecision_reply (k : CheckId) (w : Word) : queryDecision s k c.result w =
    if c = .ok then
      { verdict := judge w.toInt (limitLow s (limitIndex s k)) (limitHigh s (limitIndex s k)), a := w.toInt }
    else { verdict := .sourceFault, detail := 16 + c.result.code } := by
  unfold queryDecision
  exact if_congr (result_ok_iff c) rfl rfl
end

/-- Settles O57: by requester and kind, the reply that is an answer ends its transaction with what its requester is owed:
an event, the taking of the status word, the block item, the decision of a query or the result of a step. -/
theorem repliesReachTheirRequester : Obligations.RepliesReachTheirRequester := by
  intro s t r c words hflight hphase hjudged
  have hexec := exec_linkReplyComplete hflight hphase hjudged
  have hleaves {P : State → Prop} {u : State} (hu : completeAttempt t c words s = u) (hP : P u) :
      Leaves (.linkReplyComplete r) s P := ⟨u, hu ▸ hexec, hP⟩
  refine ⟨fun ring buffer tag h hkind hblock => ?_, fun hkind hc => ?_, fun hkind hc h => ?_,
    fun ring buffer tag h hkind hc hfull => ?_, fun ring buffer tag h hkind hc hroom => ?_,
    fun k arming session h hkind hflushed hstate harming hsession => ?_, fun n sequence k text h hkind => ?_⟩
  · exact hleaves (completeAttempt_host h hkind hblock) (landed_postEvent _ s)
  · obtain ⟨hstatus, hstate, hpending⟩ := polled_nodeAfter (t := t) (s := s) (words.headD 0)
    exact hleaves (completeAttempt_polled hkind hc) ⟨hstatus, hstate, hpending, rfl,
      fun ring buffer tag h => polled_hostReported _ h hkind, fun h hreport => polled_serviceReported _ h hreport,
      fun h => takeStatus_taken (polled_sameTaken _ h)⟩
  · rw [hexec, completeAttempt_finishes fun hg => hc hg.2,
      finishTransaction_unpolled fun hp => hc ((result_ok_iff c).1 hp.2), answerFlight_service h, clearPending_service h]
    rfl
  · have hfree : fifoFree (blockHeld t buffer words s) = false := decide_eq_false (Nat.not_lt.2 hfull)
    rw [hexec, completeAttempt_block h hkind hc, testBlock_full hfree]
    rfl
  · obtain ⟨hposted, hlink, hnodes, hchecks, hprompts, hplant, hstimulus⟩ := landed_postEvent
      (evLinkReply (replyNest s t.request.node.val) t.request.node.val 5 ring tag
        (if t.flushed then .flushed else .ok) 0)
      ((pushBlock ⟨words, buffer, t.request⟩ (blockHeld t buffer words s)).modLink fun l => { l with block := none })
    exact hleaves (completeAttempt_blockTaken h hkind hc hroom)
      ⟨_, rfl, hposted, hlink, hnodes, hchecks, hprompts, hplant, hstimulus⟩
  · have hstands := queryResult_decides (r := c.result) (w := words.headD 0) hstate harming hsession
    rw [queryDecision_reply] at hstands
    refine hleaves (u := landed (queryResult k arming session c.result (words.headD 0) s)) ?_ ⟨hstands, rfl⟩
    have hblock : ¬ (t.request.kind = .getBlock ∧ c = .ok) := fun hg => nomatch hkind.symm.trans hg.1
    have hpoll : ¬ (t.request.kind = .poll ∧ c.result = .ok) := fun hp => nomatch hkind.symm.trans hp.1
    rw [completeAttempt_finishes hblock, finishTransaction_unpolled hpoll, answerFlight_check h hflushed,
      clearPending_other (by rw [h]; nofun)]
  · have hblock : ¬ (t.request.kind = .getBlock ∧ c = .ok) := fun hg => by rw [hg.1] at hkind; simp at hkind
    have hpoll : ¬ (t.request.kind = .poll ∧ c.result = .ok) := fun hp => by rw [hp.1] at hkind; simp at hkind
    refine ⟨if t.flushed then s else stepResult n sequence k c.result s, ?_, fun hflushed => if_pos hflushed,
      fun hflushed => ?_⟩
    · rw [hexec, completeAttempt_finishes hblock, finishTransaction_unpolled hpoll, answerFlight_prompt h,
        clearPending_other (by rw [h]; nofun)]
      rfl
    · rw [if_neg (Bool.eq_false_iff.1 hflushed)]
      exact stepResult_answered ..

end Sys2Proof.Machine
end

section
/-! CERTIFICATE. The statement on the request line of a node (R131, R141). -/
namespace Sys2Proof.Machine

open Stated

theorem modNode_modNode (d : NodeId) (f g : Node → Node) (s : State) :
    (s.modNode d f).modNode d g = s.modNode d fun x => g (f x) := by
  unfold State.modNode
  simp only [Fin.getElem_fin, Vector.getElem_set_self, Vector.set_set]

/-! ### The offer of a service poll (R131) -/

section
variable {s : State}

theorem offerPoll_joins (d : NodeId) (hroom : s.link.queue.length < 16) :
    offerPoll d s = joinQueue (servicePoll d) s :=
  if_pos (decide_eq_true hroom)

theorem offerPoll_holds (d : NodeId) (hfull : 16 ≤ s.link.queue.length) :
    offerPoll d s = s.modNode d fun x => { x with pollHeld := true } := by
  have hfree : linkFree s = false := decide_eq_false (Nat.not_lt.2 hfull)
  unfold offerPoll
  rw [hfree]
  exact if_neg Bool.false_ne_true

/-! ### The change of a request line (R141) -/

/-- R141: with this level of its request line, node d is owed a service poll. -/
def OwedPoll (d : NodeId) (level : Bool) (s : State) : Prop :=
  level = true ∧ s.nodes[d].state = .inService ∧ serviceMasked s d = false ∧ s.nodes[d].servicePending = false

/-- The test of lineChanged reads the service mask after the new level has been recorded, which leaves the mask alone. -/
theorem owedPoll_tested (d : NodeId) (level : Bool) (s : State) :
    let t := s.modNode d fun x => { x with lineSeen := level }
    (level && s.nodes[d].state == .inService && !serviceMasked t d && !s.nodes[d].servicePending) = true
      ↔ OwedPoll d level s := by
  have hmask : serviceMasked (s.modNode d fun x => { x with lineSeen := level }) d = serviceMasked s d := rfl
  dsimp only
  rw [hmask]
  simp only [OwedPoll, Bool.and_eq_true, beq_iff_eq, Bool.not_eq_true', and_assoc]

theorem lineChanged_ignored {d : NodeId} {level : Bool} (h : ¬ OwedPoll d level s) :
    lineChanged d level s = s.modNode d fun x => { x with lineSeen := level } :=
  if_neg (mt (owedPoll_tested d level s).1 h)

theorem lineChanged_offers {d : NodeId} {level : Bool} (h : OwedPoll d level s) :
    lineChanged d level s
      = offerPoll d (s.modNode d fun x => { x with lineSeen := level, servicePending := true }) :=
  (if_pos ((owedPoll_tested d level s).2 h)).trans (congrArg (offerPoll d) (modNode_modNode ..))

/-- SERVICE_REQUEST takes a line whose level is not the one last seen. -/
theorem exec_serviceRequest {d : NodeId} {level : Bool} (h : s.nodes[d].lineSeen ≠ level) :
    exec (.serviceRequest d level) s = .next (settle (lineChanged d level s)) :=
  congrArg _ (if_pos (bne_iff_ne.2 h))
end

/-- Settles O52: an edge that is not owed a poll changes the line seen and no more; one that is owed it sets service
pending, and its poll joins the queue or, with the queue full, is held by the node. -/
theorem risingServiceRequestOffersOnePoll : Obligations.RisingServiceRequestOffersOnePoll := by
  intro s d level hchange
  refine ⟨lineChanged d level s, exec_serviceRequest hchange, fun hignored => ?_, fun howed hroom => ?_,
    fun howed hfull => ?_⟩
  · exact lineChanged_ignored hignored
  · rw [lineChanged_offers howed, offerPoll_joins]
    · rfl
    · exact hroom
  · rw [lineChanged_offers howed, offerPoll_holds, modNode_modNode]
    · rfl
    · exact hfull

end Sys2Proof.Machine
end

section
/-! CERTIFICATE. The statement on captured stores (R89, R159, R160, R166). -/
namespace Sys2Proof.Machine

open Stated

/-! ### The restart of an input by a store (R89, R166) -/

theorem lineHigh_eq (s : State) (i : InputId) (line : Int) :
    lineHigh s i line = decide (edgeThreshold s i = 0 ∨ (edgeThreshold s i : Int) ≤ line) := by
  rw [Bool.decide_or]
  rfl

/-- R89: between nest samples an input starts as at one, but its first gate is yet to begin. -/
def restartedInput (mode : InputMode) (threshold : Nat) (line : Int) : Input :=
  { startedInput mode threshold line with position := none }

theorem restartInput_between_get (i : InputId) (line : Int) (s : State) (j : InputId) :
    (restartInput i line false s).inputs[j]
      = if j = i then restartedInput (recordMode s j) (edgeThreshold s j) line else s.inputs[j] := by
  refine (modInput_get ..).trans ?_
  split
  · rename_i h
    subst h
    rw [Bool.and_false, lineHigh_eq]
    rfl
  · rfl

/-- Section 11.1: the record of input i has the two words from offset 640h plus 8 i on. -/
theorem recordAt_eq_input_iff {off : Nat} (h : off % 4 = 0) (i : InputId) :
    recordAt off = some (.input i) ↔ off = 0x640 + 8 * i.val ∨ off = 0x644 + 8 * i.val := by
  unfold recordAt
  by_cases hinput : 0x640 ≤ off ∧ off < 0x6C0
  · rw [dif_neg (by omega), dif_neg (by omega), dif_neg (by omega), dif_neg (by omega), dif_neg (by omega),
      dif_pos hinput, Option.some_inj, ConfigRecord.input.injEq, Fin.ext_iff]
    dsimp only
    omega
  · refine iff_of_false (fun hat => ?_) (by omega)
    rw [dif_neg hinput] at hat
    repeat' split at hat
    all_goals cases hat

/-- A FREE word belongs to no record. -/
theorem recordAt_free {off : Nat} (h : wordClass off = .free) : recordAt off = none := by
  have hrange : (0xD8 ≤ off ∧ off < 0x100) ∨ (0x7B0 ≤ off ∧ off < 0x800) ∨ (0x2200 ≤ off ∧ off < 0x2800) := by
    unfold wordClass at h
    repeat' split at h
    all_goals cases h <;> omega
  unfold recordAt
  rw [dif_neg (by omega), dif_neg (by omega), dif_neg (by omega), dif_neg (by omega), dif_neg (by omega),
    dif_neg (by omega), dif_neg (by omega), dif_neg (by omega), if_neg (by omega), if_neg (by omega),
    if_neg (by omega)]

theorem restartOnStore_free {off : Nat} (h : wordClass off = .free) (line : Int) (s : State) :
    restartOnStore off line s = s := by
  unfold restartOnStore
  rw [recordAt_free h]

/-- R166: of all the state a restart changes the inputs alone. -/
theorem restartOnStore_eq (off : Nat) (line : Int) (s : State) :
    restartOnStore off line s = { s with inputs := (restartOnStore off line s).inputs } := by
  unfold restartOnStore
  repeat' split
  all_goals rfl

/-- The store to this word restarts input i: the word is of its record, and its nest is OPEN or DRAINING. -/
def Restarts (off : Nat) (s : State) (i : InputId) : Prop :=
  (off = 0x640 + 8 * i.val ∨ off = 0x644 + 8 * i.val)
    ∧ (s.nests[nestOfInput i].state = .opened ∨ s.nests[nestOfInput i].state = .draining)

theorem restarts_iff {off : Nat} (h : off % 4 = 0) (s : State) (i : InputId) :
    Restarts off s i ↔ recordAt off = some (.input i) ∧ sessionRuns s (nestOfInput i) = true :=
  and_congr (recordAt_eq_input_iff h i).symm (sessionRuns_iff ..).symm

theorem restarts_congr {s t : State} (h : t.nests = s.nests) (off : Nat) (i : InputId) :
    Restarts off t i ↔ Restarts off s i := by
  unfold Restarts; rw [h]

/-- R89, R166: the restarted input takes its mode and its comparator from its record and the line, every other input is
left. -/
theorem restartOnStore_input {off : Nat} (h : off % 4 = 0) (line : Int) (s : State) (i : InputId) :
    (Restarts off s i → (restartOnStore off line s).inputs[i]
        = restartedInput (recordMode s i) (edgeThreshold s i) line)
    ∧ (¬ Restarts off s i → (restartOnStore off line s).inputs[i] = s.inputs[i]) := by
  rw [restarts_iff h]
  unfold restartOnStore
  split
  · rename_i j hj
    rw [hj, Option.some_inj, ConfigRecord.input.injEq]
    split
    · rename_i hruns
      rw [restartInput_between_get]
      exact ⟨fun ⟨hji, _⟩ => if_pos hji.symm, fun hno => if_neg fun hij : i = j => hno ⟨hij.symm, hij ▸ hruns⟩⟩
    · rename_i hruns
      exact ⟨fun ⟨hji, hi⟩ => absurd (hji ▸ hi) hruns, fun _ => rfl⟩
  · rename_i hother
    exact ⟨fun ⟨hi, _⟩ => absurd hi (hother i), fun _ => rfl⟩

theorem blockOffset_aligned (w : BitVec 22) : blockOffset w % 4 = 0 := Nat.mul_mod_right ..

/-! ### The capture of a store (R160) -/

/-- R160: of all that no discard touches the store changes memory and the shadow, by the same word. -/
theorem captureStore_besidePrefetch (a : HostAccess) (s : State) : (captureStore a s).besidePrefetch
    = (setShadow (blockOffset a.word) (mergedWord s a)
        (s.setMem (writeWord s.mem a.word.toNat (mergedWord s a)))).besidePrefetch :=
  invalidateEntries_besidePrefetch ..

theorem cfg_setShadow (off : Nat) (v : Word) {s : State} (h : Sparse.wf shadowWords 0 s.path.shadow = true) :
    cfg (setShadow off v s) off = v := Sparse.read_write_eq h

theorem cfg_setShadow_ne {off x : Nat} (h : x / 4 ≠ off / 4) (v : Word) (s : State) :
    cfg (setShadow off v s) x = cfg s x := Sparse.read_write_ne _ _ _ _ h

theorem cfg_congr {s t : State} (h : t.path = s.path) (off : Nat) : cfg t off = cfg s off := by
  unfold cfg; rw [h]

/-! ### The store of the host (R159) -/

/-- The granted store is performed with the bus free again. -/
theorem exec_hostStore_granted {s : State} {a : HostAccess} (line : Int) (h : grantedHost s .store = some a) :
    exec (.hostStore line) s = .next (storeEffect a line (clearHost s)) := by
  change Host.Outcome.next (withHost .store (fun a s => storeEffect a line s) s) = _
  unfold withHost
  rw [h]

/-- R159: the words whose stores are captured: FREE, and CONFIG of a record that is not locked. -/
def Captured (s : State) (off : Nat) : Prop :=
  wordClass off = .free ∨ (wordClass off = .config ∧ wordLocked s off = false)

/-- What the path holds of the host is no part of a lock. -/
theorem captured_clearHost {s : State} {off : Nat} : Captured (clearHost s) off ↔ Captured s off := Iff.rfl

/-- R159: a store to such a word is captured, and the input of its record, if there is one, restarts. -/
theorem storeEffect_captured {s : State} {a : HostAccess} (line : Int) (hlanes : a.lanes ≠ 0)
    (hin : inBlock s a.word = true) (h : Captured s (blockOffset a.word)) :
    storeEffect a line s = restartOnStore (blockOffset a.word) line (captureStore a s) := by
  unfold storeEffect
  rw [if_neg hlanes, hin]
  rcases h with hfree | ⟨hconfig, hunlocked⟩
  · rw [hfree, restartOnStore_free hfree]
    rfl
  · rw [hconfig]
    unfold configStore
    rw [hunlocked]
    rfl

/-- Settles O11: the merged word reaches memory and shadow before the tracks discard what they hold of it, and the
restart that follows reads the record from the new shadow. -/
theorem capturedStoreReachesMemoryAndShadow : Obligations.CapturedStoreReachesMemoryAndShadow := by
  intro s a line ⟨hmemory, hshadow⟩ hgrant hlanes hin hcaptured
  have hkept := captureStore_besidePrefetch a (clearHost s)
  have hexec := exec_hostStore_granted line hgrant
  rw [storeEffect_captured (s := clearHost s) line hlanes hin (captured_clearHost.2 hcaptured)] at hexec
  refine ⟨_, hexec, ?_⟩
  generalize captureStore a (clearHost s) = u at hkept ⊢
  have hinput := restartOnStore_input (blockOffset_aligned a.word) line u
  have halone := restartOnStore_eq (blockOffset a.word) line u
  generalize restartOnStore (blockOffset a.word) line u = t at hinput halone ⊢
  simp only [State.besidePrefetch, State.besideTracks, State.bus, Prod.mk.injEq] at hkept
  obtain ⟨⟨⟨-, hmem, hpath⟩, hnests, hsupplies, hrails, hcapture, hinputs, hchecks⟩, houtputs, hclaims, -, hposted⟩ :=
    hkept
  have htpath : t.path = u.path := by rw [halone]
  have htmem : t.mem = u.mem := by rw [halone]
  refine ⟨?_, ?_, fun x hx => ?_, fun off hoff => ?_, ?_, ?_, fun i => ?_, ?_⟩
  · rw [htmem, hmem]; exact readWord_writeWord _ _ hmemory
  · rw [cfg_congr (htpath.trans hpath)]; exact cfg_setShadow _ _ hshadow
  · rw [htmem, hmem]; exact readByte_writeWord_ne _ _ _ _ (hx 0 Nat.one_pos)
  · rw [cfg_congr (htpath.trans hpath)]; exact cfg_setShadow_ne hoff _ _
  · rw [htpath, hpath]; rfl
  · rw [htpath, hpath]; rfl
  · obtain ⟨hrestarted, hleft⟩ := hinput i
    have hwhen := restarts_congr hnests (blockOffset a.word) i
    rw [recordMode_congr htpath, edgeThreshold_congr htpath]
    split
    · rename_i h
      exact hrestarted (hwhen.2 h)
    · rename_i h
      rw [hleft (mt hwhen.1 h), hinputs]
      rfl
  · rw [halone]
    exact ⟨hnests, hsupplies, hrails, houtputs, hclaims, hcapture, hchecks, hposted⟩

end Sys2Proof.Machine
end

section
/-! SUPPORT. The bus (R167): what the commands make of the queue, of memory and of the shadow. -/
namespace Sys2Proof.Machine

open Stated

/-! ### Actions -/

/-- Accepted by its owner, the action leaves the command queue, memory and path. -/
def KeepsBus (act : Nat → Nat → State → Except Reason State) : Prop :=
  ∀ obj opd s u, act obj opd s = .ok u → u.bus = s.bus

section
variable {obj : Nat} {s u : State}

theorem bus_of_ok {t : State} (ht : t.bus = s.bus) (h : Except.ok (ε := Reason) t = .ok u) : u.bus = s.bus :=
  Except.ok.inj h ▸ ht

theorem onNest_bus {act : NestId → State → Except Reason State} (hact : ∀ n, act n s = .ok u → u.bus = s.bus)
    (h : onNest act obj s = .ok u) : u.bus = s.bus := by
  unfold onNest at h
  split at h
  · exact hact _ h
  · cases h

theorem onRail_bus {act : RailId → State → Except Reason State} (hact : ∀ r, act r s = .ok u → u.bus = s.bus)
    (h : onRail act obj s = .ok u) : u.bus = s.bus := by
  unfold onRail at h
  split at h
  · exact hact _ h
  · cases h

theorem onTrack_bus {act : TrackId → State → Except Reason State} (hact : ∀ t, act t s = .ok u → u.bus = s.bus)
    (h : onTrack act obj s = .ok u) : u.bus = s.bus := by
  unfold onTrack at h
  split at h
  · exact hact _ h
  · cases h

theorem onNode_bus {act : NodeId → State → Except Reason State} (hact : ∀ d, act d s = .ok u → u.bus = s.bus)
    (h : onNode act obj s = .ok u) : u.bus = s.bus := by
  unfold onNode at h
  split at h
  · exact hact _ h
  · cases h
end

theorem actNestArm_bus : KeepsBus actNestArm := by
  intro obj opd s u h
  refine onNest_bus (fun n h => ?_) h
  split at h <;> cases h
  exact enterWaiting_bus n s

theorem actNestDisarm_bus : KeepsBus actNestDisarm := by
  intro obj opd s u h
  refine onNest_bus (fun n h => ?_) h
  split at h <;> cases h
  rfl

theorem actNestRelease_bus : KeepsBus actNestRelease := by
  intro obj opd s u h
  refine onNest_bus (fun n h => ?_) h
  split at h
  · exact bus_of_ok (drainEntry_bus n .released s) h
  · exact bus_of_ok rfl h
  all_goals cases h

theorem actNestAbort_bus : KeepsBus actNestAbort := by
  intro obj opd s u h
  refine onNest_bus (fun n h => ?_) h
  split at h
  · exact bus_of_ok (drainEntry_bus n .aborted s) h
  · exact bus_of_ok (modNest_bus ..) h
  all_goals cases h

theorem actRailOn_bus : KeepsBus actRailOn := by
  intro obj opd s u h
  refine onRail_bus (fun r h => ?_) h
  split at h <;> cases h
  simp

theorem actRailOff_bus : KeepsBus actRailOff := by
  intro obj opd s u h
  refine onRail_bus (fun r h => ?_) h
  cases h
  exact railOffEffect_bus r s

theorem actRailClear_bus : KeepsBus actRailClear := by
  intro obj opd s u h
  refine onRail_bus (fun r h => ?_) h
  split at h <;> cases h
  rfl

theorem checksChargeReset_bus (r : RailId) (s : State) : (checksChargeReset r s).bus = s.bus :=
  bus_of_plant (by simp)

theorem actRailChargeReset_bus : KeepsBus actRailChargeReset := by
  intro obj opd s u h
  refine onRail_bus (fun r h => ?_) h
  cases h
  simp [checksChargeReset_bus]

theorem actTrackLaunch_bus : KeepsBus actTrackLaunch := by
  intro obj opd s u h
  refine onTrack_bus (fun t h => ?_) h
  split at h <;> cases h
  exact launchTrack_bus t s

theorem actTrackSuspend_bus : KeepsBus actTrackSuspend := by
  intro obj opd s u h
  refine onTrack_bus (fun t h => ?_) h
  split at h <;> cases h <;> rfl

theorem actTrackResume_bus : KeepsBus actTrackResume := by
  intro obj opd s u h
  refine onTrack_bus (fun t h => ?_) h
  split at h <;> cases h
  · exact resumeTrack_bus t s
  · rfl
  · rfl

theorem actTrackStop_bus : KeepsBus actTrackStop := by
  intro obj opd s u h
  refine onTrack_bus (fun t h => ?_) h
  split at h
  iterate 4 exact bus_of_ok (haltTrack_bus .stop t s) h
  iterate 3 exact bus_of_ok rfl h
  cases h

theorem actTrackExtend_bus : KeepsBus actTrackExtend := by
  intro obj opd s u h
  refine onTrack_bus (fun t h => ?_) h
  split at h
  · cases h
  split at h
  · cases h
  split at h
  · cases h
  split at h <;> cases h
  rfl

theorem actPortStart_bus : KeepsBus actPortStart := by
  intro obj opd s u h
  refine onNest_bus (fun p h => ?_) h
  split at h
  · cases h
  split at h <;> cases h
  exact startPort_bus p s

theorem actPortStop_bus : KeepsBus actPortStop := by
  intro obj opd s u h
  refine onNest_bus (fun p h => ?_) h
  cases h
  exact stopPort_bus p s

theorem armCheck_bus (c : CheckId) (s : State) : (armCheck c s).bus = s.bus := bus_of_plant (by simp)

theorem triggerAtArming_bus (c : CheckId) (s : State) : (triggerAtArming c s).bus = s.bus := bus_of_plant (by simp)

theorem decideCheck_bus (c : CheckId) (d : Decision) (s : State) : (decideCheck c d s).bus = s.bus :=
  bus_of_plant (by simp)

theorem actCheckArm_bus : KeepsBus actCheckArm := by
  intro obj opd s u h
  unfold actCheckArm at h
  split at h
  · split at h <;> cases h
    rw [triggerAtArming_bus, armCheck_bus]
  · cases h

theorem actCheckArmRun_bus : KeepsBus actCheckArmRun := by
  intro obj opd s u h
  unfold actCheckArmRun at h
  split at h
  · cases h
  split at h
  · cases h
  split at h <;> cases h
  rw [forEach_bus triggerAtArming_bus, forEach_bus armCheck_bus]

theorem actCheckCancel_bus : KeepsBus actCheckCancel := by
  intro obj opd s u h
  unfold actCheckCancel at h
  split at h
  · dsimp only at h
    split at h <;> cases h
    rw [(cancelPrompt_kept _ _ _).bus, decideCheck_bus]
  · cases h

theorem actNodeEnable_bus : KeepsBus actNodeEnable := by
  intro obj opd s u h
  refine onNode_bus (fun d h => ?_) h
  split at h <;> cases h
  simp

theorem actNodeDisable_bus : KeepsBus actNodeDisable := by
  intro obj opd s u h
  refine onNode_bus (fun d h => ?_) h
  split at h
  · cases h
  split at h <;> cases h
  · rfl
  · exact disableNode_bus d s

theorem actNodeRestore_bus : KeepsBus actNodeRestore := by
  intro obj opd s u h
  refine onNode_bus (fun d h => ?_) h
  split at h <;> cases h
  exact restoreNode_bus d s

theorem setPause_bus (b : Bool) (s : State) : (setPause b s).bus = s.bus := by
  unfold setPause
  split
  · rfl
  · simp

theorem actLinkPause_bus : KeepsBus actLinkPause := by
  intro obj opd s u h
  cases h
  exact setPause_bus true s

theorem actLinkResume_bus : KeepsBus actLinkResume := by
  intro obj opd s u h
  cases h
  exact setPause_bus false s

theorem restartChecks_bus (s : State) : (restartChecks s).bus = s.bus := bus_of_plant (by simp)

theorem restartLink_bus (s : State) : (restartLink s).bus = s.bus := bus_of_plant (by simp)

theorem restartPrompt_bus (n : NestId) (s : State) : (restartPrompt n s).bus = s.bus := bus_of_plant (by simp)

theorem actRestart_bus : KeepsBus actRestart := by
  intro obj opd s u h
  refine bus_of_ok ?_ h
  rw [postEvent_bus, forEach_bus restartPrompt_bus, restartLink_bus, restartChecks_bus, forEach_bus restartPort_bus,
    restartTracks_bus, forEach_bus restartNest_bus]

/-- R164: none of the 24 actions touches queue, memory or path. -/
theorem actionRows_bus {row : ActionRow} (h : row ∈ actionRows) : KeepsBus row.act := by
  simp only [actionRows, List.mem_cons, List.not_mem_nil, or_false] at h
  rcases h with rfl | rfl | rfl | rfl | rfl | rfl | rfl | rfl | rfl | rfl | rfl | rfl | rfl | rfl | rfl | rfl | rfl
    | rfl | rfl | rfl | rfl | rfl | rfl | rfl
  exacts [actNestArm_bus, actNestDisarm_bus, actNestRelease_bus, actNestAbort_bus, actRailOn_bus, actRailOff_bus,
    actRailClear_bus, actRailChargeReset_bus, actTrackLaunch_bus, actTrackSuspend_bus, actTrackResume_bus,
    actTrackStop_bus, actTrackExtend_bus, actPortStart_bus, actPortStop_bus, actCheckArm_bus, actCheckArmRun_bus,
    actCheckCancel_bus, actNodeEnable_bus, actNodeDisable_bus, actNodeRestore_bus, actLinkPause_bus,
    actLinkResume_bus, actRestart_bus]

end Sys2Proof.Machine
end

section
/-! CERTIFICATE. The statements on what every step keeps: the queue of commands, and the canonical form of memory and
shadow. -/
namespace Sys2Proof.Machine

open Stated

/-! ### What a command keeps of the bus -/

/-- The queue of waiting commands stands, and memory and shadow stay in canonical form. -/
structure BusSound (s t : State) : Prop where
  pending : t.pending = s.pending
  inv : Inv s → Inv t

theorem BusSound.trans {s t u : State} (h : BusSound s t) (g : BusSound t u) : BusSound s u :=
  ⟨g.pending.trans h.pending, fun hs => g.inv (h.inv hs)⟩

/-- Of the path the shadow alone is in the invariant. -/
theorem busSound_of_shadow {s t : State} (hpending : t.pending = s.pending) (hmem : t.mem = s.mem)
    (hshadow : t.path.shadow = s.path.shadow) : BusSound s t :=
  ⟨hpending, fun hs => ⟨by rw [hmem]; exact hs.1, by rw [hshadow]; exact hs.2⟩⟩

theorem busSound_of_bus {s t : State} (h : t.bus = s.bus) : BusSound s t := by
  simp only [State.bus, Prod.mk.injEq] at h
  obtain ⟨hpending, hmem, hpath⟩ := h
  exact busSound_of_shadow hpending hmem (by rw [hpath])

theorem busSound_of_plant {s t : State} (h : t.plant = s.plant) : BusSound s t := busSound_of_bus (bus_of_plant h)

theorem BusSound.refl (s : State) : BusSound s s := busSound_of_bus rfl

theorem BusSound.settle {s t : State} (h : BusSound s t) : BusSound s (settle t) :=
  h.trans (busSound_of_bus (settle_bus t))

/-- Memory that stays in canonical form. -/
theorem busSound_setMem (s : State) {m : List Host.Cell} (h : Memory.wf s.mem = true → Memory.wf m = true) :
    BusSound s (s.setMem m) := ⟨rfl, fun hs => ⟨h hs.1, hs.2⟩⟩

/-- Memory that stays in canonical form, with a path that keeps its shadow. -/
theorem busSound_setMem_modPath (s : State) {m : List Host.Cell} {f : Path → Path}
    (h : Memory.wf s.mem = true → Memory.wf m = true) (hf : ∀ p : Path, (f p).shadow = p.shadow) :
    BusSound s ((s.setMem m).modPath f) :=
  ⟨rfl, fun hs => ⟨h hs.1, by rw [modPath_path, hf]; exact hs.2⟩⟩

theorem busSound_setMem_modPost (s : State) {m : List Host.Cell} (f : Post → Post)
    (h : Memory.wf s.mem = true → Memory.wf m = true) : BusSound s ((s.setMem m).modPost f) :=
  ⟨rfl, fun hs => ⟨h hs.1, hs.2⟩⟩

theorem busSound_modPost (s : State) (f : Post → Post) : BusSound s (s.modPost f) := busSound_of_bus rfl

/-! ### Stores -/

theorem setShadow_busSound (a : HostAccess) (v : Word) (s : State) :
    BusSound s (setShadow (blockOffset a.word) v s) := by
  refine ⟨rfl, fun hs => ⟨hs.1, Sparse.wf_write hs.2 (Nat.zero_le _) ?_⟩⟩
  change 4 * (a.word.toNat % 4096) / 4 < 4096
  omega

theorem captureStore_busSound (a : HostAccess) (s : State) : BusSound s (captureStore a s) :=
  ((busSound_setMem s (writeWord_wf _ _)).trans (setShadow_busSound a _ _)).trans
    (busSound_of_bus (invalidateEntries_bus ..))

theorem guardStore_busSound (r : GuardReason) (a : HostAccess) (s : State) : BusSound s (guardStore r a s) := by
  let counted : State := s.modPath fun p => { p with guards := satAdd max32 p.guards 1 }
  have hcounted : BusSound s counted := busSound_of_shadow rfl rfl rfl
  exact hcounted.trans (busSound_of_bus (postEvent_bus ..))

theorem plainStore_busSound (a : HostAccess) (s : State) : BusSound s (plainStore a s) :=
  (busSound_setMem s (writeLanes_wf _ _ _)).trans (busSound_of_bus (invalidateEntries_bus ..))

theorem restartOnStore_busSound (off : Nat) (line : Int) (s : State) : BusSound s (restartOnStore off line s) := by
  rw [restartOnStore_eq]
  exact busSound_of_bus rfl

theorem storeEffect_busSound (a : HostAccess) (line : Int) (s : State) : BusSound s (storeEffect a line s) := by
  unfold storeEffect configStore
  split
  · exact .refl s
  split
  · exact plainStore_busSound a s
  split
  · split
    · exact guardStore_busSound ..
    · exact (captureStore_busSound a s).trans (restartOnStore_busSound ..)
  · exact captureStore_busSound a s
  · exact guardStore_busSound ..

theorem eventConsumerEffect_busSound (a : HostAccess) (s : State) : BusSound s (eventConsumerEffect a s) := by
  unfold eventConsumerEffect
  split
  · exact (captureStore_busSound a s).trans (busSound_of_plant (judgeAttention_plant _))
  · exact guardStore_busSound ..

theorem verdictConsumerEffect_busSound (a : HostAccess) (s : State) : BusSound s (verdictConsumerEffect a s) := by
  unfold verdictConsumerEffect
  split
  · exact (captureStore_busSound a s).trans (busSound_of_plant ((testVerdicts_plant _).trans (judgeAttention_plant _)))
  · exact guardStore_busSound ..

theorem requestProducerEffect_busSound (a : HostAccess) (s : State) : BusSound s (requestProducerEffect a s) := by
  unfold requestProducerEffect
  split
  · exact captureStore_busSound a s
  · exact guardStore_busSound ..

theorem clearHost_busSound (s : State) : BusSound s (clearHost s) := busSound_of_shadow rfl rfl rfl

theorem withHost_busSound {row : HostRow} {effect : HostAccess → State → State}
    (heffect : ∀ a t, BusSound t (effect a t)) (s : State) : BusSound s (withHost row effect s) := by
  unfold withHost
  split
  · exact .refl s
  · exact (clearHost_busSound s).trans (heffect _ _)

/-! ### Actions -/

theorem writeAction_busSound (a : HostAccess) (s : State) : BusSound s (writeAction a s) :=
  busSound_setMem s (writeWord_wf _ _)

theorem offerResult_busSound (k : SlotId) (w : Word) (r : Option Reason) (s : State) :
    BusSound s (offerResult k w r s) := busSound_of_shadow rfl rfl rfl

theorem takeAction_busSound {act : Nat → Nat → State → Except Reason State} (hact : KeepsBus act) (k : SlotId)
    (a : HostAccess) (s : State) : BusSound s (takeAction k a act s) := by
  unfold takeAction
  dsimp only
  split
  · rename_i u hu
    exact ((writeAction_busSound a s).trans (busSound_of_bus (hact _ _ _ _ hu))).trans (offerResult_busSound ..)
  · exact (writeAction_busSound a s).trans (offerResult_busSound ..)

theorem performAction_busSound {act : Nat → Nat → State → Except Reason State} (hact : KeepsBus act) (x : Action)
    (s : State) : BusSound s (performAction x act s) := by
  unfold performAction
  split
  · exact .refl s
  · exact ((clearHost_busSound s).trans (takeAction_busSound hact ..)).settle

/-! ### Bursts -/

/-- R158: four words from the fill position on are zeroed, and the position moves. -/
def zeroed (s : State) : State :=
  (s.setMem (writeWords s.mem (4096 * s.path.base.toNat + s.path.fill.toNat) [0, 0, 0, 0])).modPath fun p =>
    { p with fill := p.fill + 4 }

/-- R158: the fill has ended, and posting has the identity and READY. -/
def fillEnded (s : State) : State :=
  offerSummary ((s.modPath fun p => { p with ready := true }).modPost fun p =>
    { p with identity := Config.identity, ready := true })

theorem fillBurst_eq (s : State) :
    fillBurst s = if s.path.fill.toNat + 4 < 4096 then zeroed s else fillEnded (zeroed s) := rfl

theorem zeroed_busSound (s : State) : BusSound s (zeroed s) :=
  busSound_setMem_modPath s (writeWords_wf _ _) fun _ => rfl

theorem fillEnded_busSound (s : State) : BusSound s (fillEnded s) := busSound_of_shadow rfl rfl rfl

theorem fillBurst_busSound (s : State) : BusSound s (fillBurst s) := by
  rw [fillBurst_eq]
  split
  · exact zeroed_busSound s
  · exact (zeroed_busSound s).trans (fillEnded_busSound _)

theorem writePart_busSound (w : Nat) (words : List Word) (n : Nat) (s : State) :
    BusSound s (writePart w words n s) := by
  unfold writePart
  exact busSound_setMem_modPost s _ (writeWords_wf _ _)

theorem writeProducer_busSound (off : Nat) (slot : BitVec 7) (s : State) : BusSound s (writeProducer off slot s) :=
  busSound_setMem s (writeWord_wf _ _)

theorem itemLeaves_busSound (s : State) : BusSound s (itemLeaves s) := by
  unfold itemLeaves
  exact ((busSound_modPost s _).trans (busSound_of_plant (testVerdicts_plant _))).trans
    (busSound_of_bus (testBlock_bus _))

/-- R173: the last burst of an event or verdict. -/
theorem producerBurst_busSound (off : Nat) (slot : BitVec 7) (f : Post → Post) (s : State) :
    BusSound s (itemLeaves (judgeAttention ((writeProducer off slot s).modPost f))) :=
  (((writeProducer_busSound off slot s).trans (busSound_modPost ..)).trans
    (busSound_of_plant (judgeAttention_plant _))).trans (itemLeaves_busSound _)

theorem fifoBurst_busSound (s : State) : BusSound s (fifoBurst s) := by
  unfold fifoBurst
  split
  · exact .refl s
  · split
    · exact writePart_busSound ..
    · exact producerBurst_busSound ..
  · split
    · exact writePart_busSound ..
    · exact producerBurst_busSound ..
  · dsimp only
    split
    · exact writePart_busSound ..
    · exact (writePart_busSound ..).trans (itemLeaves_busSound _)

theorem slotBurst_busSound (s : State) : BusSound s (slotBurst s) := by
  unfold slotBurst
  split
  · exact .refl s
  · exact (busSound_setMem s (writeWords_wf _ _)).trans (busSound_modPost ..)

theorem blockRead_busSound (s : State) : BusSound s (blockRead s) := by
  let turned : State := s.modPath fun p => { p with backTurn := 8 }
  have hturned : BusSound s turned := busSound_of_shadow rfl rfl rfl
  unfold blockRead
  dsimp only
  split
  · exact hturned
  · exact hturned.trans (busSound_of_bus rfl)

theorem grantFetch_busSound (s : State) : BusSound s (grantFetch s) :=
  busSound_of_shadow (grantFetch_pending s) (grantFetch_mem s) (grantFetch_shadow s)

theorem completeFetch_busSound (t : TrackId) (s : State) : BusSound s (completeFetch t s) := by
  let freed : State := s.modPath fun p => { p with burst := none }
  have hfreed : BusSound s freed := busSound_of_shadow rfl rfl rfl
  cases hactive : s.tracks[t].state.active with
  | true =>
    rw [completeFetch_of_active hactive]
    exact hfreed.trans (busSound_of_bus (fetchEntry_bus ..))
  | false =>
    rw [completeFetch_of_inactive hactive]
    exact hfreed

theorem microsecond_busSound (s : State) : BusSound s (microsecond s) :=
  (grantFetch_busSound s).trans (busSound_of_bus (microsecond_bus s))

/-! ### Commands -/

/-- The answer is a next state, with the bus kept sound. -/
def Sound (s : State) (o : Answer) : Prop := ∃ t, o = .next t ∧ BusSound s t

theorem BusSound.next {s t : State} (h : BusSound s t) : Sound s (.next t) := ⟨t, rfl, h⟩

theorem sound_of_bus {s t : State} (h : t.bus = s.bus) : Sound s (.next t) := (busSound_of_bus h).next

theorem sound_of_plant {s t : State} (h : t.plant = s.plant) : Sound s (.next (settle t)) :=
  (busSound_of_plant h).settle.next

theorem takenIf_sound {s t : State} (b : Bool) (h : BusSound s t) : Sound s (takenIf b t s) := by
  unfold takenIf
  split
  · exact h.next
  · exact (BusSound.refl s).next

/-- A command that takes its event, if it finds one, and settles. -/
theorem takenIf_settle_sound {s t : State} (b : Bool) (h : t.bus = s.bus) : Sound s (takenIf b (settle t) s) :=
  takenIf_sound b (busSound_of_bus h).settle

theorem endDelay_bus (c : CheckId) (s : State) : (finishCheck c (endDelay c s)).bus = s.bus :=
  bus_of_plant (by rw [finishCheck_plant]; simp)

theorem windowSample_bus (c : CheckId) (s : State) : (finishCheck c (takeWindowSample c s)).bus = s.bus :=
  bus_of_plant (by rw [finishCheck_plant]; simp)

theorem profileSample_bus (c : CheckId) (s : State) : (finishCheck c (takeProfileSample c s)).bus = s.bus :=
  bus_of_plant (by rw [finishCheck_plant]; simp)

section
variable (s : State)

theorem execEntryFetch_sound : Sound s (execEntryFetch s) := by
  unfold execEntryFetch
  dsimp only
  split
  · exact (grantFetch_busSound s).next
  · exact ((grantFetch_busSound s).trans (completeFetch_busSound ..)).settle.next

theorem execUnknownAction_sound : Sound s (execUnknownAction s) := by
  have hact : KeepsBus actUnknown := fun _ _ _ _ h => nomatch h
  unfold execUnknownAction
  split
  · exact (BusSound.refl s).next
  · exact ((clearHost_busSound s).trans (takeAction_busSound hact ..)).next

theorem execVerdictTaken_sound : Sound s (execVerdictTaken s) := by
  unfold execVerdictTaken
  cases htaken : takeVerdict s with
  | none => exact (BusSound.refl s).next
  | some t => exact (busSound_of_plant (takeVerdict_plant htaken)).next

theorem execLostArbitration_sound (p : NestId) (identifier : BitVec 29) (extended : Bool) :
    Sound s (execLostArbitration p identifier extended s) := by
  unfold execLostArbitration
  split
  · exact (BusSound.refl s).next
  · exact takenIf_sound _ (busSound_of_bus rfl)

theorem execReplyOpenerBegins_sound : Sound s (execReplyOpenerBegins s) := by
  unfold execReplyOpenerBegins
  split
  · exact (BusSound.refl s).next
  · exact takenIf_sound _ (busSound_of_bus rfl)

theorem execNoReply_sound : Sound s (execNoReply s) := by
  unfold execNoReply
  split
  · exact (BusSound.refl s).next
  · exact takenIf_settle_sound _ (linkErrorTaken_bus ..)

theorem execLinkError_sound (r : LinkReply) : Sound s (execLinkError r s) := by
  unfold execLinkError
  split
  · exact (BusSound.refl s).next
  · split
    · exact (busSound_of_bus (linkErrorTaken_bus ..)).settle.next
    · exact (BusSound.refl s).next

theorem execLinkReplyComplete_sound (r : LinkReply) : Sound s (execLinkReplyComplete r s) := by
  unfold execLinkReplyComplete
  split
  · exact (BusSound.refl s).next
  · split
    · exact (BusSound.refl s).next
    · exact (busSound_of_bus (completeAttempt_bus ..)).settle.next

/-- A command whose event, if it finds one, is followed by settling. -/
theorem optional_sound {o : Option State} {r : Answer} (hr : r = o.elim (.next s) fun t => .next (settle t))
    (h : ∀ t, o = some t → t.bus = s.bus) : Sound s r := by
  cases o with
  | none => exact hr ▸ (BusSound.refl s).next
  | some t => exact hr ▸ (busSound_of_bus (h t rfl)).settle.next

theorem execHeldRequestTaken_eq :
    execHeldRequestTaken s = (takeHeld s).elim (.next s) fun t => .next (settle t) := by
  unfold execHeldRequestTaken
  cases takeHeld s <;> rfl

theorem execRequestRecordTaken_eq :
    execRequestRecordTaken s = (takeRecord s).elim (.next s) fun t => .next (settle t) := by
  unfold execRequestRecordTaken
  cases takeRecord s <;> rfl

theorem execTransactionStart_eq :
    execTransactionStart s = (startTransaction s).elim (.next s) fun t => .next (settle t) := by
  unfold execTransactionStart
  cases startTransaction s <;> rfl

theorem execBlockItemTaken_eq :
    execBlockItemTaken s = (takeBlock s).elim (.next s) fun t => .next (settle t) := by
  unfold execBlockItemTaken
  cases takeBlock s <;> rfl

theorem execTakePrompt_eq (n : NestId) :
    execTakePrompt n s = (takePrompt n s).elim (.next s) fun t => .next (settle t) := by
  unfold execTakePrompt
  cases takePrompt n s <;> rfl

end

theorem performLoad_busSound (a : HostAccess) (s : State) : BusSound s (performLoad a s) :=
  busSound_of_shadow rfl rfl rfl

/-- No command stops the part; each keeps the bus sound. -/
theorem exec_sound (c : Instr) (s : State) : Sound s (exec c s) := by
  cases c with
  | powerOnReset base fast srq =>
    exact ⟨_, rfl, rfl, fun hs => ⟨hs.1, rfl⟩⟩
  | startUpFillBurst => exact takenIf_sound _ (fillBurst_busSound s)
  | hostAccess a => exact takenIf_sound _ (busSound_of_shadow rfl rfl rfl)
  | hostLoad => exact (withHost_busSound performLoad_busSound s).next
  | hostStore line => exact (withHost_busSound (fun a t => storeEffect_busSound a line t) s).next
  | eventConsumerStore => exact (withHost_busSound eventConsumerEffect_busSound s).next
  | verdictConsumerStore => exact (withHost_busSound verdictConsumerEffect_busSound s).next
  | requestProducerStore => exact (withHost_busSound (fun a t => (requestProducerEffect_busSound a t).settle) s).next
  | partialActionStore => exact (withHost_busSound (fun a t => guardStore_busSound .partialWord a t) s).next
  | unknownAction => exact execUnknownAction_sound s
  | nestArm => exact (performAction_busSound actNestArm_bus _ s).next
  | nestDisarm => exact (performAction_busSound actNestDisarm_bus _ s).next
  | nestRelease => exact (performAction_busSound actNestRelease_bus _ s).next
  | nestAbort => exact (performAction_busSound actNestAbort_bus _ s).next
  | railOn => exact (performAction_busSound actRailOn_bus _ s).next
  | railOff => exact (performAction_busSound actRailOff_bus _ s).next
  | railClear => exact (performAction_busSound actRailClear_bus _ s).next
  | railChargeReset => exact (performAction_busSound actRailChargeReset_bus _ s).next
  | trackLaunch => exact (performAction_busSound actTrackLaunch_bus _ s).next
  | trackSuspend => exact (performAction_busSound actTrackSuspend_bus _ s).next
  | trackResume => exact (performAction_busSound actTrackResume_bus _ s).next
  | trackStop => exact (performAction_busSound actTrackStop_bus _ s).next
  | trackExtend => exact (performAction_busSound actTrackExtend_bus _ s).next
  | portStart => exact (performAction_busSound actPortStart_bus _ s).next
  | portStop => exact (performAction_busSound actPortStop_bus _ s).next
  | checkArm => exact (performAction_busSound actCheckArm_bus _ s).next
  | checkArmRun => exact (performAction_busSound actCheckArmRun_bus _ s).next
  | checkCancel => exact (performAction_busSound actCheckCancel_bus _ s).next
  | nodeEnable => exact (performAction_busSound actNodeEnable_bus _ s).next
  | nodeDisable => exact (performAction_busSound actNodeDisable_bus _ s).next
  | nodeRestore => exact (performAction_busSound actNodeRestore_bus _ s).next
  | linkPause => exact (performAction_busSound actLinkPause_bus _ s).next
  | linkResume => exact (performAction_busSound actLinkResume_bus _ s).next
  | restart => exact (performAction_busSound actRestart_bus _ s).next
  | nestSample n m => exact sound_of_bus (sampleNest_bus n m s)
  | seatOpen n m => exact sound_of_bus (sampleIf_bus _ n m s)
  | attach n m => exact sound_of_bus (sampleIf_bus _ n m s)
  | seatWithoutLoad n m => exact sound_of_bus (sampleIf_bus _ n m s)
  | limitingDwellExpiry r m => exact sound_of_bus (sampleIf_bus _ _ m s)
  | faultWaitExpiry r m => exact sound_of_bus (sampleIf_bus _ _ m s)
  | retryTestExpiry r m => exact sound_of_bus (sampleIf_bus _ _ m s)
  | dischargeExpiry r m => exact sound_of_bus (sampleIf_bus _ _ m s)
  | budgetCrossing r m => exact sound_of_bus (sampleIf_bus _ _ m s)
  | gateEnd i m => exact sound_of_bus (sampleIf_bus _ _ m s)
  | risingEdge i => exact takenIf_sound _ (busSound_of_bus rfl)
  | fallingEdge i => exact takenIf_sound _ (busSound_of_bus rfl)
  | snapshotTimerExpiry n => exact takenIf_sound _ (busSound_of_bus (snapshotExpiry_bus n s))
  | drainEnd n => exact takenIf_settle_sound _ (drainEnd_bus n s)
  | entryFetch => exact execEntryFetch_sound s
  | entryDue t => exact takenIf_settle_sound _ (handleDue_bus t s)
  | pulsePeriodEnd n k => exact sound_of_bus rfl
  | frameGapEnd t => exact takenIf_settle_sound _ (handleDue_bus t s)
  | stallPlaceOffered p => exact (busSound_of_bus (offerPlace_bus p s)).settle.next
  | attemptStart p => exact takenIf_sound _ (busSound_of_bus rfl)
  | acked p =>
    change Sound s (execAcked p s)
    unfold execAcked
    split
    · exact (BusSound.refl s).next
    · exact (busSound_of_bus (frameAcked_bus ..)).settle.next
  | lostArbitration p identifier extended => exact execLostArbitration_sound s p identifier extended
  | notAcked p =>
    change Sound s (execNotAcked p s)
    unfold execNotAcked
    split
    · exact (BusSound.refl s).next
    · exact (busSound_of_bus (frameNotAcked_bus ..)).settle.next
  | dutFrameReceived p f => exact sound_of_bus (receiveFrame_bus p f s)
  | timeTrigger c => exact takenIf_settle_sound _ (bus_of_plant (triggerCheck_plant c s))
  | delayEnd c => exact takenIf_settle_sound _ (endDelay_bus c s)
  | windowSample c => exact takenIf_settle_sound _ (windowSample_bus c s)
  | profileSample c => exact takenIf_settle_sound _ (profileSample_bus c s)
  | pendingSampleDue c => exact takenIf_settle_sound _ (profileSample_bus c s)
  | windowEnd c =>
    change Sound s (execWindowEnd c s)
    unfold execWindowEnd
    split
    · exact (BusSound.refl s).next
    · exact (busSound_of_bus (decideCheck_bus ..)).settle.next
  | verdictTaken => exact execVerdictTaken_sound s
  | heldRequestTaken => exact optional_sound s (execHeldRequestTaken_eq s) fun t h => bus_of_plant (takeHeld_plant h)
  | requestRecordTaken => exact optional_sound s (execRequestRecordTaken_eq s) fun t h => bus_of_plant (takeRecord_plant h)
  | serviceRequest d level => exact takenIf_settle_sound _ (bus_of_plant (lineChanged_plant d level s))
  | transactionStart => exact optional_sound s (execTransactionStart_eq s) fun t h => (startTransaction_kept h).bus
  | blockSourceRead => exact takenIf_sound _ (blockRead_busSound s)
  | requestFrameEnd =>
    change Sound s (execRequestFrameEnd s)
    unfold execRequestFrameEnd
    split
    · exact (BusSound.refl s).next
    · exact sound_of_bus rfl
  | noReply => exact execNoReply_sound s
  | linkError r => exact execLinkError_sound s r
  | linkReplyComplete r => exact execLinkReplyComplete_sound s r
  | blockItemTaken => exact optional_sound s (execBlockItemTaken_eq s) fun t h => takeBlock_bus h
  | takePrompt n => exact optional_sound s (execTakePrompt_eq s n) fun t h => bus_of_plant (takePrompt_plant h)
  | promptTimeout n => exact takenIf_settle_sound _ (bus_of_plant (promptTimedOut_plant n s))
  | postFifoBurst => exact takenIf_sound _ (fifoBurst_busSound s).settle
  | slotWrite => exact takenIf_sound _ (slotBurst_busSound s)
  | replyOpenerBegins => exact execReplyOpenerBegins_sound s

/-- Settles O1: the step is defined by the front of the queue. -/
theorem stepRunsTheFrontCommand : Obligations.StepRunsTheFrontCommand := by
  intro c rest s h
  unfold step
  rw [h]

/-- Settles O3: memory and shadow list nothing at reset. -/
theorem resetSatisfiesTheInvariant : Obligations.ResetSatisfiesTheInvariant := ⟨rfl, rfl⟩

/-- Settles O4: a microsecond and every command keep the bus sound, and the queue that a command leaves to run is no part
of the invariant. -/
theorem everyStepKeepsTheInvariant : Obligations.EveryStepKeepsTheInvariant := by
  intro s t hinv hstep
  unfold step at hstep
  split at hstep
  · cases hstep
    exact (microsecond_busSound s).inv hinv
  · rename_i c rest _
    obtain ⟨u, hexec, hsound⟩ := exec_sound c { s with pending := rest }
    rw [hexec] at hstep
    cases hstep
    exact hsound.inv hinv

/-- Settles O5: each command leads to a next state, with the queue as it was. -/
theorem noCommandStopsThePart : Obligations.NoCommandStopsThePart := by
  intro c s
  obtain ⟨t, hexec, hsound⟩ := exec_sound c s
  exact ⟨t, hexec, hsound.pending⟩

/-- Settles O6: settling keeps the bench, and everything of a nest that does not drain. -/
theorem whatFollowsAtOnceKeepsTheRest : Obligations.WhatFollowsAtOnceKeepsTheRest := by
  intro s
  refine ⟨settle_pending s, settle_mem s, settle_path s, sameStimulus_of_bench (settle_bench s), fun n hn => ?_⟩
  obtain ⟨hnest, hrails, hinputs⟩ := settle_nestKept hn
  exact ⟨hnest, hrails, hinputs⟩

end Sys2Proof.Machine
end

section
/-! CERTIFICATE. The statements on start-up, host accesses and guarded stores (R157 to R163). -/
namespace Sys2Proof.Machine

open Stated

/-! ### Words in memory -/

/-- A run of words written at word number w, and no other byte. -/
theorem run_written {w : Nat} {l : List Word} {s t : State} (hmemory : Memory.wf s.mem = true)
    (hlength : l.length ≤ 4194304) (h : t.mem = writeWords s.mem w l) :
    WordsRead w l t ∧ BytesKept w l.length s t := by
  refine ⟨fun k hk => ?_, fun x hx => ?_⟩
  · rw [h]; exact readWord_writeWords w l k hk hlength hmemory
  · rw [h]; exact readByte_writeWords_ne s.mem w l x hx

/-- One word written at word number w, and no other byte. -/
theorem word_written {w : Nat} {v : Word} {s t : State} (hmemory : Memory.wf s.mem = true)
    (h : t.mem = writeWord s.mem w v) : readWord t.mem w = v ∧ BytesKept w 1 s t := by
  rw [h]
  refine ⟨readWord_writeWord w v hmemory, fun x hx => ?_⟩
  rw [h]
  exact readByte_writeWord_ne s.mem w v x (hx 0 Nat.one_pos)

/-! ### What leaves every block -/

theorem sameBlocks_refl (s : State) : SameBlocks s s :=
  ⟨rfl, rfl, rfl, rfl, rfl, rfl, rfl, rfl, rfl, rfl, rfl, rfl, rfl, rfl, rfl⟩

theorem sameBlocks_trans {s t u : State} (h : SameBlocks s t) (g : SameBlocks t u) : SameBlocks s u := by
  unfold SameBlocks at *
  obtain ⟨h1, h2, h3, h4, h5, h6, h7, h8, h9, h10, h11, h12, h13, h14, h15⟩ := h
  rw [← h1, ← h2, ← h3, ← h4, ← h5, ← h6, ← h7, ← h8, ← h9, ← h10, ← h11, ← h12, ← h13, ← h14, ← h15]
  exact g

section
variable (s : State)

theorem sameBlocks_setMem (m : List Host.Cell) : SameBlocks s (s.setMem m) :=
  ⟨rfl, rfl, rfl, rfl, rfl, rfl, rfl, rfl, rfl, rfl, rfl, rfl, rfl, rfl, rfl⟩

theorem sameBlocks_modPath (f : Path → Path) : SameBlocks s (s.modPath f) :=
  ⟨rfl, rfl, rfl, rfl, rfl, rfl, rfl, rfl, rfl, rfl, rfl, rfl, rfl, rfl, rfl⟩

theorem sameBlocks_modPost (f : Post → Post) : SameBlocks s (s.modPost f) :=
  ⟨rfl, rfl, rfl, rfl, rfl, rfl, rfl, rfl, rfl, rfl, rfl, rfl, rfl, rfl, rfl⟩

theorem sameBlocks_postEvent (e : Event) : SameBlocks s (postEvent e s) := by
  rw [postEvent_eq]
  exact ⟨rfl, rfl, rfl, rfl, rfl, rfl, rfl, rfl, rfl, rfl, rfl, rfl, rfl, rfl, rfl⟩
end

/-! ### Start-up -/

/-- Settles O7: the state after a reset has every table filled with its reset value. -/
theorem powerOnResetSetsEveryBlock : Obligations.PowerOnResetSetsEveryBlock := by
  intro base fast srq s
  refine ⟨State.afterReset base fast srq s.mem s.pending, rfl, rfl, rfl, rfl, fun off => rfl, rfl, rfl, fun k => ?_, rfl,
    rfl, rfl, rfl, rfl, rfl, rfl, rfl, rfl, rfl, fun d => ?_, fun n => ?_, fun n => ?_, fun r => ?_, fun t => ?_,
    fun n => ?_, fun o => ?_, fun p => ?_, fun j => ?_, fun i => ?_, fun c => ?_, rfl, fun n => ?_, rfl, rfl, rfl, rfl,
    rfl, rfl, rfl, rfl, rfl⟩
  case refine_2 => exact Vector.getElem_ofFn _
  all_goals exact Vector.getElem_replicate _

theorem fillBurst_ends {s : State} (h : 4096 ≤ s.path.fill.toNat + 4) : fillBurst s = fillEnded (zeroed s) :=
  (fillBurst_eq s).trans (if_neg (Nat.not_lt.2 h))

theorem fillBurst_goesOn {s : State} (h : s.path.fill.toNat + 4 < 4096) : fillBurst s = zeroed s :=
  (fillBurst_eq s).trans (if_pos h)

theorem exec_startUpFillBurst {s : State} (h : grant s = some .fill) :
    exec .startUpFillBurst s = .next (fillBurst s) := by
  change takenIf (grant s == some .fill) (fillBurst s) s = _
  rw [h]
  rfl

theorem zeroed_mem (s : State) :
    (zeroed s).mem = writeWords s.mem (4096 * s.path.base.toNat + s.path.fill.toNat) [0, 0, 0, 0] := by
  simp only [zeroed, modPath_mem, setMem_mem]

theorem zeroed_path (s : State) : (zeroed s).path = { s.path with fill := s.path.fill + 4 } := by
  simp only [zeroed, modPath_path, setMem_path]

theorem zeroed_post (s : State) : (zeroed s).post = s.post := by
  simp only [zeroed, modPath_post, setMem_post]

theorem zeroed_sameBlocks (s : State) : SameBlocks s (zeroed s) :=
  sameBlocks_trans (sameBlocks_setMem s _) (sameBlocks_modPath ..)

theorem fillEnded_sameBlocks (s : State) : SameBlocks s (fillEnded s) :=
  sameBlocks_trans (sameBlocks_trans (sameBlocks_modPath s _) (sameBlocks_modPost ..)) (sameBlocks_modPost ..)

/-- Settles O8: each burst zeroes its four words; the one that reaches the end of the block also ends the fill. -/
theorem fillBurstZeroesFourWords : Obligations.FillBurstZeroesFourWords := by
  intro s hmemory hgrant
  refine ⟨_, exec_startUpFillBurst hgrant, ?_⟩
  have hblocks := zeroed_sameBlocks s
  have hpost := zeroed_post s
  have hpath := zeroed_path s
  have hwritten : ∀ t : State, t.mem = (zeroed s).mem →
      WordsRead (4096 * s.path.base.toNat + s.path.fill.toNat) [0, 0, 0, 0] t
        ∧ BytesKept (4096 * s.path.base.toNat + s.path.fill.toNat) 4 s t := fun t ht =>
    run_written hmemory (l := [0, 0, 0, 0]) (by decide) (ht.trans (zeroed_mem s))
  rcases Nat.lt_or_ge (s.path.fill.toNat + 4) 4096 with hlt | hge
  · rw [fillBurst_goesOn hlt]
    generalize zeroed s = z at *
    obtain ⟨hwords, hbytes⟩ := hwritten z rfl
    rw [hpath]
    exact ⟨hwords, hbytes, rfl, fun _ => ⟨rfl, hpost⟩, fun h => absurd hlt (Nat.not_lt.2 h), rfl, rfl, hblocks⟩
  · rw [fillBurst_ends hge]
    generalize zeroed s = z at *
    obtain ⟨hwords, hbytes⟩ := hwritten (fillEnded z) rfl
    have hended : (fillEnded z).path = { z.path with ready := true } := rfl
    rw [hended, hpath]
    exact ⟨hwords, hbytes, rfl, fun h => absurd h (Nat.not_lt.2 hge), fun _ => ⟨rfl, rfl, rfl, mem_upsertPlace ..⟩, rfl,
      rfl, sameBlocks_trans hblocks (fillEnded_sameBlocks z)⟩

/-! ### Host accesses -/

/-- A granted host access is performed with the bus free again. -/
theorem withHost_granted {row : HostRow} {effect : HostAccess → State → State} {s : State} {a : HostAccess}
    (h : grantedHost s row = some a) : withHost row effect s = effect a (clearHost s) := by
  unfold withHost
  rw [h]

/-- Settles O9: an access enters a bus that is free; a load reads its word and frees it. -/
theorem hostLoadReadsTheWordInMemory : Obligations.HostLoadReadsTheWordInMemory := by
  refine ⟨fun a s hfree => ?_, fun a s hgrant => ?_⟩
  · change takenIf s.path.host.isNone _ s = _
    rw [hfree]
    rfl
  · exact congrArg _ (withHost_granted hgrant)

/-! ### Guarded stores (R162, R163) -/

theorem postEvent_guards (e : Event) (s : State) : (postEvent e s).post.guards = s.post.guards := by
  unfold postEvent
  split <;> rfl

/-- R172: an event looks at the FIFO, the room of its ring, the lost-event count and the stamp of its nest. -/
theorem posted_of_room {e : Event} {s s' t : State} (h : Posted e s' t) (hfifo : s'.post.fifo = s.post.fifo)
    (hreserve : s'.post.eventReserve = s.post.eventReserve) (hlost : s'.post.lost = s.post.lost)
    (hshadow : s'.path.shadow = s.path.shadow) (hnests : s'.nests = s.nests) : Posted e s t := by
  unfold Posted fifoFree eventRoom eventConsumer cfg at *
  rw [hfifo, hreserve, hlost, hshadow, words_congr hnests] at h
  exact h

/-- R162: the guard count as posting has it, before GUARD is posted. -/
def guardCounted (s : State) : State :=
  let s := s.modPath fun p => { p with guards := satAdd max32 p.guards 1 }
  offerSummary (s.modPost fun p => { p with guards := s.path.guards })

theorem guardStore_eq (r : GuardReason) (a : HostAccess) (s : State) :
    guardStore r a s = postEvent (evGuard r a.data (a.word.toNat % 4096) a.lanes) (guardCounted s) := rfl

/-- R162: what a guarded store of the host changes. -/
structure Guarded (r : GuardReason) (a : HostAccess) (s t : State) : Prop where
  mem : t.mem = s.mem
  blocks : SameBlocks s t
  path : t.path = { s.path with host := none, guards := satAdd max32 s.path.guards 1 }
  guards : t.post.guards = t.path.guards
  event : Posted (evGuard r a.data (a.word.toNat % 4096) a.lanes) s t

theorem guardCounted_sameBlocks (s : State) : SameBlocks s (guardCounted s) :=
  sameBlocks_trans (sameBlocks_trans (sameBlocks_modPath s _) (sameBlocks_modPost ..)) (sameBlocks_modPost ..)

theorem guardStore_guarded (r : GuardReason) (a : HostAccess) (s : State) :
    Guarded r a s (guardStore r a (clearHost s)) := by
  rw [guardStore_eq]
  have hbus := postEvent_bus (evGuard r a.data (a.word.toNat % 4096) a.lanes) (guardCounted (clearHost s))
  have hpath := path_of_bus hbus
  simp only [State.bus, Prod.mk.injEq] at hbus
  obtain ⟨-, hmem, -⟩ := hbus
  exact {
    mem := hmem
    blocks :=
      sameBlocks_trans (sameBlocks_trans (sameBlocks_modPath s _) (guardCounted_sameBlocks _)) (sameBlocks_postEvent ..)
    path := hpath
    guards := by rw [postEvent_guards, hpath]; rfl
    event := posted_of_room (posted_postEvent _ _) rfl rfl rfl rfl rfl }

theorem storeEffect_guarded {a : HostAccess} {r : GuardReason} {s : State} (line : Int) (hlanes : a.lanes ≠ 0)
    (hin : inBlock s a.word = true)
    (h : (wordClass (blockOffset a.word) = .config ∧ wordLocked s (blockOffset a.word) = true ∧ r = .locked)
      ∨ (wordClass (blockOffset a.word) = .report ∧ r = .reportWord)) :
    storeEffect a line (clearHost s) = guardStore r a (clearHost s) := by
  unfold storeEffect
  rw [if_neg hlanes, show inBlock (clearHost s) a.word = true from hin]
  rcases h with ⟨hconfig, hlocked, rfl⟩ | ⟨hreport, rfl⟩
  · rw [hconfig]
    unfold configStore
    rw [show wordLocked (clearHost s) (blockOffset a.word) = true from hlocked]
    rfl
  · rw [hreport]
    rfl

theorem exec_eventConsumerStore {s : State} {a : HostAccess} (h : grantedHost s .eventIndex = some a) :
    exec .eventConsumerStore s = .next (eventConsumerEffect a (clearHost s)) := congrArg _ (withHost_granted h)

theorem exec_verdictConsumerStore {s : State} {a : HostAccess} (h : grantedHost s .verdictIndex = some a) :
    exec .verdictConsumerStore s = .next (verdictConsumerEffect a (clearHost s)) := congrArg _ (withHost_granted h)

theorem exec_requestProducerStore {s : State} {a : HostAccess} (h : grantedHost s .requestIndex = some a) :
    exec .requestProducerStore s = .next (settle (requestProducerEffect a (clearHost s))) :=
  congrArg _ (withHost_granted h)

theorem exec_partialActionStore {s : State} {a : HostAccess} (h : grantedHost s .partialAction = some a) :
    exec .partialActionStore s = .next (guardStore .partialWord a (clearHost s)) := congrArg _ (withHost_granted h)

/-- Settles O12: each guarded store changes the guard count and posts GUARD. -/
theorem guardedStoresChangeNothingButTheirReport : Obligations.GuardedStoresChangeNothingButTheirReport := by
  refine ⟨⟨fun s a line r hgrant hlanes hin h => ?_, fun s a line hgrant hlanes => ?_⟩,
    fun s a => ⟨fun hgrant hillegal => ?_, fun hgrant hillegal => ?_, fun hgrant hillegal => ?_, fun hgrant => ?_⟩⟩
  · obtain ⟨hmem, hblocks, hpath, hguards, hevent⟩ := guardStore_guarded r a s
    exact ⟨_, (exec_hostStore_granted line hgrant).trans (congrArg _ (storeEffect_guarded line hlanes hin h)), hmem,
      hblocks, hpath, hguards, hevent⟩
  · rw [exec_hostStore_granted line hgrant]
    unfold storeEffect
    rw [if_pos hlanes]
    rfl
  · obtain ⟨hmem, hblocks, hpath, -, hevent⟩ := guardStore_guarded .badIndex a s
    have heffect : eventConsumerEffect a (clearHost s) = guardStore .badIndex a (clearHost s) :=
      if_neg (ne_true_of_eq_false hillegal)
    exact ⟨_, (exec_eventConsumerStore hgrant).trans (congrArg _ heffect), hmem, hblocks, hpath, hevent⟩
  · obtain ⟨hmem, hblocks, hpath, -, hevent⟩ := guardStore_guarded .badIndex a s
    have heffect : verdictConsumerEffect a (clearHost s) = guardStore .badIndex a (clearHost s) :=
      if_neg (ne_true_of_eq_false hillegal)
    exact ⟨_, (exec_verdictConsumerStore hgrant).trans (congrArg _ heffect), hmem, hblocks, hpath, hevent⟩
  · obtain ⟨hmem, hblocks, hpath, -, hevent⟩ := guardStore_guarded .badIndex a s
    have heffect : requestProducerEffect a (clearHost s) = guardStore .badIndex a (clearHost s) :=
      if_neg (ne_true_of_eq_false hillegal)
    refine ⟨_, ?_, hmem, hblocks, hpath, hevent⟩
    rw [exec_requestProducerStore hgrant, heffect]
  · obtain ⟨hmem, hblocks, hpath, -, hevent⟩ := guardStore_guarded .partialWord a s
    exact ⟨_, exec_partialActionStore hgrant, hmem, hblocks, hpath, hevent⟩

/-! ### Captured indices (R163, R175) -/

/-- The word of an index row is the word of that index. -/
theorem hostRow_of_granted {s : State} {row : HostRow} {a : HostAccess} (h : grantedHost s row = some a) :
    hostRow s a = row := by
  unfold grantedHost at h
  split at h
  · cases h
  · split at h
    · rename_i x _ hrow
      cases h
      exact hrow.2
    · cases h

/-- The word that an index row stores to is of the class of that index. -/
theorem wordClass_of_index {s : State} {a : HostAccess} :
    (hostRow s a = .eventIndex → wordClass (blockOffset a.word) = .eventIndex)
    ∧ (hostRow s a = .verdictIndex → wordClass (blockOffset a.word) = .verdictIndex)
    ∧ (hostRow s a = .requestIndex → wordClass (blockOffset a.word) = .requestIndex) := by
  unfold hostRow
  split
  · exact ⟨nofun, nofun, nofun⟩
  split
  · exact ⟨nofun, nofun, nofun⟩
  cases wordClass (blockOffset a.word) with
  | action k =>
    dsimp only
    split
    · exact ⟨nofun, nofun, nofun⟩
    · cases actionOf (wordCode a.data) <;> exact ⟨nofun, nofun, nofun⟩
  | report | eventIndex | verdictIndex | requestIndex | free | config => simp

/-! ### Section 9.3: the offsets of the three indices -/

theorem offset_of_eventClass {off : Nat} (h : wordClass off = .eventIndex) : off = 0xC4 := by
  unfold wordClass at h
  split at h
  · cases h
  split at h
  · split at h <;> cases h
  split at h
  · assumption
  repeat' split at h
  all_goals cases h

theorem offset_of_verdictClass {off : Nat} (h : wordClass off = .verdictIndex) : off = 0xCC := by
  unfold wordClass at h
  split at h
  · cases h
  split at h
  · split at h <;> cases h
  split at h
  · cases h
  split at h
  · assumption
  repeat' split at h
  all_goals cases h

theorem offset_of_requestClass {off : Nat} (h : wordClass off = .requestIndex) : off = 0xD0 := by
  unfold wordClass at h
  split at h
  · cases h
  split at h
  · split at h <;> cases h
  split at h
  · cases h
  split at h
  · cases h
  split at h
  · assumption
  repeat' split at h
  all_goals cases h

section
variable {s : State} {a : HostAccess}

theorem offset_of_eventIndex (h : grantedHost s .eventIndex = some a) : blockOffset a.word = 0xC4 :=
  offset_of_eventClass (wordClass_of_index.1 (hostRow_of_granted h))

theorem offset_of_verdictIndex (h : grantedHost s .verdictIndex = some a) : blockOffset a.word = 0xCC :=
  offset_of_verdictClass (wordClass_of_index.2.1 (hostRow_of_granted h))

theorem offset_of_requestIndex (h : grantedHost s .requestIndex = some a) : blockOffset a.word = 0xD0 :=
  offset_of_requestClass (wordClass_of_index.2.2 (hostRow_of_granted h))
end

/-- R160: memory and shadow take the merged word, and no event is posted. -/
structure IndexCaptured (s : State) (a : HostAccess) (t : State) : Prop where
  shadow : cfg t (blockOffset a.word) = mergedWord s a
  others : ∀ off, off / 4 ≠ blockOffset a.word / 4 → cfg t off = cfg s off
  word : readWord t.mem a.word.toNat = mergedWord s a
  bytes : BytesKept a.word.toNat 1 s t
  host : t.path.host = none

theorem captureStore_captured {s : State} (hinv : Inv s) (a : HostAccess) :
    IndexCaptured s a (captureStore a (clearHost s)) := by
  have hbus := invalidateEntries_bus a.word.toNat (setShadow (blockOffset a.word) (mergedWord s a)
    ((clearHost s).setMem (writeWord s.mem a.word.toNat (mergedWord s a))))
  change (captureStore a (clearHost s)).bus = _ at hbus
  simp only [State.bus, Prod.mk.injEq] at hbus
  obtain ⟨-, hmem, hpath⟩ := hbus
  obtain ⟨hword, hbytes⟩ := word_written (s := s) hinv.1 hmem
  exact {
    shadow := (cfg_congr hpath _).trans (cfg_setShadow _ _ hinv.2)
    others := fun off hoff => (cfg_congr hpath _).trans (cfg_setShadow_ne hoff _ _)
    word := hword
    bytes := hbytes
    host := by rw [hpath]; rfl }

/-- What the capture of an index says is about memory and path. -/
theorem IndexCaptured.of_bus {s t u : State} {a : HostAccess} (h : IndexCaptured s a t) (hbus : u.bus = t.bus) :
    IndexCaptured s a u := by
  simp only [State.bus, Prod.mk.injEq] at hbus
  obtain ⟨-, hmem, hpath⟩ := hbus
  obtain ⟨hshadow, hothers, hword, hbytes, hhost⟩ := h
  refine ⟨(cfg_congr hpath _).trans hshadow, fun off hoff => (cfg_congr hpath _).trans (hothers off hoff), ?_, ?_, ?_⟩
  · rw [hmem]; exact hword
  · intro x hx; rw [hmem]; exact hbytes x hx
  · rw [hpath]; exact hhost

/-- The producer indices and ATTENTION. -/
def State.indices (s : State) := (s.post.eventProducer, s.post.verdictProducer, s.post.attention)

theorem unstall_indices (t : TrackId) (s : State) : (unstall t s).indices = s.indices :=
  forEach_keeps State.indices _ (fun _ s => (rfl : (State.modPort s _ _).indices = _)) allNests s

theorem changeTrack_indices (t : TrackId) (f : Track → Track) (s : State) :
    (changeTrack t f s).indices = s.indices := rfl

theorem offerTrack_indices (t : TrackId) (s : State) : (offerTrack t s).indices = s.indices := rfl

theorem invalidateTrack_indices (w : Nat) (t : TrackId) (s : State) : (invalidateTrack w t s).indices = s.indices := by
  unfold invalidateTrack
  dsimp only
  repeat' split
  all_goals simp only [offerTrack_indices, unstall_indices, changeTrack_indices]

theorem captureStore_indices (a : HostAccess) (s : State) : (captureStore a s).indices = s.indices :=
  forEach_keeps State.indices _ (invalidateTrack_indices _) _ _

/-- R172: verdicts that enter the FIFO leave the producers and ATTENTION. -/
theorem takeVerdict_indices {s t : State} (h : takeVerdict s = some t) : t.indices = s.indices := by
  unfold takeVerdict at h
  split at h
  · cases h
  split at h
  · cases h
  split at h
  · cases h; rfl
  · cases h

theorem testVerdicts_indices (s : State) : (testVerdicts s).indices = s.indices :=
  takeVerdicts_induct (P := fun t => t.indices = s.indices) (fun hs ht => (takeVerdict_indices ht).trans hs) _ rfl

/-- R175: ATTENTION as a captured index leaves it to be judged. -/
theorem judgeAttention_attention {s t : State} (h : t.indices = s.indices) : (judgeAttention t).post.attention
    = (s.post.eventProducer != (eventConsumer t).setWidth 7
        || s.post.verdictProducer != (verdictConsumer t).setWidth 7) := by
  simp only [State.indices, Prod.mk.injEq] at h
  obtain ⟨hevent, hverdict, -⟩ := h
  rw [← hevent, ← hverdict]
  rfl

/-- Settles O13: the merged word is captured; ATTENTION is judged with the captured index, and stands through the verdicts
that then find room. -/
theorem legalIndexStoreIsCaptured : Obligations.LegalIndexStoreIsCaptured := by
  intro s a hinv
  have hstored := captureStore_captured hinv a
  have hindices : (captureStore a (clearHost s)).indices = s.indices := captureStore_indices a (clearHost s)
  have hkept := captureStore_besidePrefetch a (clearHost s)
  simp only [State.besidePrefetch, Prod.mk.injEq] at hkept
  obtain ⟨-, -, -, -, hposted⟩ := hkept
  refine ⟨fun hgrant hlegal => ?_, fun hgrant hlegal => ?_, fun hgrant hlegal => ?_⟩
  · have heffect : eventConsumerEffect a (clearHost s) = judgeAttention (captureStore a (clearHost s)) := if_pos hlegal
    have hoff := offset_of_eventIndex hgrant
    generalize captureStore a (clearHost s) = u at *
    obtain ⟨hshadow, hothers, hword, hbytes, hhost⟩ := hstored
    rw [hoff] at hshadow hothers
    refine ⟨judgeAttention u, (exec_eventConsumerStore hgrant).trans (congrArg _ heffect), hshadow, hword, hbytes, hhost,
      hposted, ?_⟩
    have hevent : eventConsumer u = mergedWord s a := hshadow
    have hverdict : verdictConsumer u = verdictConsumer s := hothers 0xCC (by decide)
    rw [judgeAttention_attention hindices, hevent, hverdict]
  · have heffect : verdictConsumerEffect a (clearHost s)
        = testVerdicts (judgeAttention (captureStore a (clearHost s))) := if_pos hlegal
    have hoff := offset_of_verdictIndex hgrant
    generalize captureStore a (clearHost s) = u at *
    have htaken := testVerdicts_indices (judgeAttention u)
    have hbus : (testVerdicts (judgeAttention u)).bus = u.bus :=
      bus_of_plant ((testVerdicts_plant _).trans (judgeAttention_plant u))
    generalize testVerdicts (judgeAttention u) = t at *
    obtain ⟨hshadow, hothers, hword, hbytes, hhost⟩ := hstored.of_bus hbus
    have hothers' := hstored.others
    have hshadow' := hstored.shadow
    rw [hoff] at hshadow hshadow' hothers'
    refine ⟨t, (exec_verdictConsumerStore hgrant).trans (congrArg _ heffect), hshadow, hword, hbytes, hhost, ?_⟩
    have hevent : eventConsumer u = eventConsumer s := hothers' 0xC4 (by decide)
    have hverdict : verdictConsumer u = mergedWord s a := hshadow'
    simp only [State.indices, Prod.mk.injEq] at htaken
    obtain ⟨-, -, hattention⟩ := htaken
    rw [hattention, judgeAttention_attention hindices, hevent, hverdict]
  · have heffect : requestProducerEffect a (clearHost s) = captureStore a (clearHost s) := if_pos hlegal
    have hoff := offset_of_requestIndex hgrant
    generalize captureStore a (clearHost s) = u at *
    obtain ⟨hshadow, -, hword, hbytes, hhost⟩ := hstored
    rw [hoff] at hshadow
    refine ⟨u, ?_, hshadow, hword, hbytes, hhost, hposted⟩
    rw [exec_requestProducerStore hgrant, heffect]

end Sys2Proof.Machine
end

section
/-! CERTIFICATE. The statements on actions, on the arbiter, and on the bursts of the Posting Engine (R164 to R168, R173,
R176). -/
namespace Sys2Proof.Machine

open Stated

/-! ### Actions (R164, R165) -/

/-- Each action row of the table is the granted action of its code. -/
theorem exec_actionRows {row : ActionRow} (h : row ∈ actionRows) (s : State) :
    exec row.command s = .next (performAction row.action row.act s) := by
  simp only [actionRows, List.mem_cons, List.not_mem_nil, or_false] at h
  rcases h with rfl | rfl | rfl | rfl | rfl | rfl | rfl | rfl | rfl | rfl | rfl | rfl | rfl | rfl | rfl | rfl | rfl
    | rfl | rfl | rfl | rfl | rfl | rfl | rfl
  all_goals rfl

section
variable {obj : Nat} (opd : Nat) (s : State)

theorem onNest_badObject (act : NestId → State → Except Reason State) (h : 2 ≤ obj) :
    onNest act obj s = .error .badObject := dif_neg (Nat.not_lt.2 h)

theorem onRail_badObject (act : RailId → State → Except Reason State) (h : 6 ≤ obj) :
    onRail act obj s = .error .badObject := dif_neg (Nat.not_lt.2 h)

theorem onTrack_badObject (act : TrackId → State → Except Reason State) (h : 8 ≤ obj) :
    onTrack act obj s = .error .badObject := dif_neg (Nat.not_lt.2 h)

theorem onNode_badObject (act : NodeId → State → Except Reason State) (h : 15 ≤ obj) :
    onNode act obj s = .error .badObject := dif_neg (Nat.not_lt.2 h)

theorem actCheckArm_badObject (h : 64 ≤ obj) : actCheckArm obj opd s = .error .badObject := dif_neg (Nat.not_lt.2 h)

theorem actCheckArmRun_badObject (h : 64 ≤ obj) : actCheckArmRun obj opd s = .error .badObject := if_pos h

theorem actCheckCancel_badObject (h : 64 ≤ obj) : actCheckCancel obj opd s = .error .badObject :=
  dif_neg (Nat.not_lt.2 h)
end

/-- An object that the owner of the action does not have. -/
theorem actionRows_badObject {row : ActionRow} (h : row ∈ actionRows) {bound obj : Nat}
    (hbound : objectBound row.action = some bound) (hobj : bound ≤ obj) (opd : Nat) (s : State) :
    row.act obj opd s = .error .badObject := by
  simp only [actionRows, List.mem_cons, List.not_mem_nil, or_false] at h
  rcases h with rfl | rfl | rfl | rfl | rfl | rfl | rfl | rfl | rfl | rfl | rfl | rfl | rfl | rfl | rfl | rfl | rfl
    | rfl | rfl | rfl | rfl | rfl | rfl | rfl
  all_goals cases hbound
  all_goals dsimp only
  iterate 4 exact onNest_badObject s _ hobj
  iterate 4 exact onRail_badObject s _ hobj
  iterate 5 exact onTrack_badObject s _ hobj
  iterate 2 exact onNest_badObject s _ hobj
  · exact actCheckArm_badObject opd s hobj
  · exact actCheckArmRun_badObject opd s hobj
  · exact actCheckCancel_badObject opd s hobj
  iterate 3 exact onNode_badObject s _ hobj

/-- R164: the action word in memory, with the bus free, and nothing else. -/
structure ActionWritten (a : HostAccess) (s t : State) : Prop where
  word : readWord t.mem a.word.toNat = a.data
  bytes : BytesKept a.word.toNat 1 s t
  path : t.path = { s.path with host := none }

theorem writeAction_written {s : State} (hmemory : Memory.wf s.mem = true) (a : HostAccess) :
    ActionWritten a s (writeAction a (clearHost s)) := by
  obtain ⟨hword, hbytes⟩ := word_written (t := writeAction a (clearHost s)) hmemory rfl
  exact ⟨hword, hbytes, rfl⟩

theorem ActionWritten.of_bus {a : HostAccess} {s t u : State} (h : ActionWritten a s t) (hbus : u.bus = t.bus) :
    ActionWritten a s u := by
  simp only [State.bus, Prod.mk.injEq] at hbus
  obtain ⟨-, hmem, hpath⟩ := hbus
  exact ⟨by rw [hmem]; exact h.word, fun x hx => by rw [hmem]; exact h.bytes x hx, hpath.trans h.path⟩

/-- R165: the result is offered to the place of the slot, and the take count advances. -/
theorem offerResult_written {a : HostAccess} {s t : State} (h : ActionWritten a s t) (k : SlotId) (r : Option Reason) :
    let u := offerResult k a.data r t
    readWord u.mem a.word.toNat = a.data ∧ BytesKept a.word.toNat 1 s u
      ∧ u.path = { s.path with host := none, takes := s.path.takes.set k (s.path.takes[k] + 1) }
      ∧ (Place.result k, [resultWord (wordCode a.data) (wordObject a.data) r (s.path.takes[k] + 1)])
          ∈ u.post.places := by
  obtain ⟨hword, hbytes, hpath⟩ := h
  have htakes : t.path.takes = s.path.takes := by rw [hpath]
  have hplace := offerResult_place k a.data r t
  have hadvanced : (offerResult k a.data r t).path
      = { t.path with takes := t.path.takes.set k (t.path.takes[k] + 1) } := rfl
  rw [htakes] at hplace hadvanced
  exact ⟨hword, hbytes, hadvanced.trans (by rw [hpath]), hplace⟩

theorem offerResult_sameBlocks (k : SlotId) (w : Word) (r : Option Reason) (s : State) :
    SameBlocks s (offerResult k w r s) := sameBlocks_trans (sameBlocks_modPath s _) (sameBlocks_modPost ..)

/-- R164: a refused action leaves every block, and posts nothing. -/
theorem refused_sameBlocks (k : SlotId) (a : HostAccess) (r : Option Reason) (s : State) :
    SameBlocks s (offerResult k a.data r (writeAction a (clearHost s)))
      ∧ NothingPosted s (offerResult k a.data r (writeAction a (clearHost s))) :=
  ⟨sameBlocks_trans (sameBlocks_trans (sameBlocks_modPath s _) (sameBlocks_setMem _ _)) (offerResult_sameBlocks ..),
    rfl, rfl⟩

theorem exec_unknownAction {s : State} {k : SlotId} {a : HostAccess} (h : grantedUnknown s = some (k, a)) :
    exec .unknownAction s
      = .next (offerResult k a.data (some .unknownAction) (writeAction a (clearHost s))) := by
  change execUnknownAction s = _
  unfold execUnknownAction
  rw [h]
  rfl

/-- Settles O14: an undefined code and an object out of range are refused by the action itself, which changes nothing. -/
theorem unknownActionsAndObjectsAreRefused : Obligations.UnknownActionsAndObjectsAreRefused := by
  refine ⟨fun s k a hmemory hgrant => ?_, fun row hrow bound hbound s k a hgrant hobj => ?_⟩
  · obtain ⟨hword, hbytes, hpath, hplace⟩ :=
      offerResult_written (writeAction_written hmemory a) k (some .unknownAction)
    obtain ⟨hblocks, hposted⟩ := refused_sameBlocks k a (some .unknownAction) s
    exact ⟨_, exec_unknownAction hgrant, hword, hbytes, hpath, hplace, hblocks, hposted⟩
  · exact answers_of_error (exec_actionRows hrow s) ⟨hgrant, rfl⟩ (actionRows_badObject hrow hbound hobj _ _)

/-- Settles O15: an action, accepted or refused, keeps memory and path as the writing of its word left them. -/
theorem everyActionIsTakenAndAnswered : Obligations.EveryActionIsTakenAndAnswered := by
  intro row hrow s k a hmemory hgrant
  have hwritten := writeAction_written hmemory a
  have hexec := exec_actionRows hrow s
  cases hact : row.act (wordObject a.data) (wordOperand a.data) (writeAction a (clearHost s)) with
  | ok v =>
    obtain ⟨hword, hbytes, hpath, hplace⟩ :=
      offerResult_written (hwritten.of_bus (actionRows_bus hrow _ _ _ _ hact)) k none
    exact ⟨_, none, hexec.trans (congrArg _ (performAction_ok hgrant hact)), rfl, hword, hbytes, hpath, hplace⟩
  | error r =>
    obtain ⟨hword, hbytes, hpath, hplace⟩ := offerResult_written hwritten k (some r)
    exact ⟨_, some r, hexec.trans (congrArg _ (performAction_error hgrant hact)), ⟨rfl, refused_sameBlocks k a _ s⟩,
      hword, hbytes, hpath, hplace⟩

/-! ### The arbiter (R167, R168) -/

/-- How far place x is behind the place after r in a cycle. -/
def turnsAfter {n : Nat} (r x : Fin (n + 1)) : Nat := (x.val + (2 * n + 1) - r.val) % (n + 1)

theorem cycleAfter_length {n : Nat} (r : Fin (n + 1)) : (cycleAfter r).length = n + 1 := by simp [cycleAfter]

/-- The place at position i of the cycle is i turns away. -/
theorem turnsAfter_getElem {n : Nat} (r : Fin (n + 1)) {i : Nat} (h : i < (cycleAfter r).length) :
    turnsAfter r (cycleAfter r)[i] = i := by
  have hi : i < n + 1 := cycleAfter_length r ▸ h
  have hr := r.isLt
  simp only [turnsAfter, cycleAfter, List.getElem_map, List.getElem_range]
  rcases Nat.lt_or_ge (r.val + 1 + i) (n + 1) with hlt | hge
  · rw [Nat.mod_eq_of_lt hlt, show r.val + 1 + i + (2 * n + 1) - r.val = i + (n + 1) + (n + 1) by omega,
      Nat.add_mod_right, Nat.add_mod_right, Nat.mod_eq_of_lt hi]
  · rw [Nat.mod_eq_sub_mod hge, Nat.mod_eq_of_lt (show r.val + 1 + i - (n + 1) < n + 1 by omega),
      show r.val + 1 + i - (n + 1) + (2 * n + 1) - r.val = i + (n + 1) by omega, Nat.add_mod_right,
      Nat.mod_eq_of_lt hi]

theorem turnsAfter_lt {n : Nat} (r x : Fin (n + 1)) : turnsAfter r x < n + 1 := Nat.mod_lt _ (Nat.succ_pos n)

/-- Two places as many turns away are the same. -/
theorem turnsAfter_inj {n : Nat} {r x y : Fin (n + 1)} (h : turnsAfter r x = turnsAfter r y) : x = y := by
  have hr := r.isLt
  have hx := x.isLt
  have hy := y.isLt
  have hmod : x.val + (2 * n + 1 - r.val) ≡ y.val + (2 * n + 1 - r.val) [MOD n + 1] := by
    unfold turnsAfter at h
    have hle : r.val ≤ 2 * n + 1 := by omega
    rwa [Nat.add_sub_assoc hle, Nat.add_sub_assoc hle] at h
  exact Fin.ext (Nat.ModEq.eq_of_lt_of_lt (Nat.ModEq.add_right_cancel' _ hmod) hx hy)

theorem cycleAfter_turnsAfter {n : Nat} (r x : Fin (n + 1)) :
    (cycleAfter r)[turnsAfter r x]'(by rw [cycleAfter_length]; exact turnsAfter_lt r x) = x :=
  turnsAfter_inj (turnsAfter_getElem r _)

/-- R168: the rotation takes the waiting place that comes first after r. -/
theorem find_cycleAfter {n : Nat} {r x : Fin (n + 1)} {p : Fin (n + 1) → Bool} (h : p x = true) :
    ∃ g, (cycleAfter r).find? p = some g ∧ p g = true ∧ turnsAfter r g ≤ turnsAfter r x := by
  cases hfind : (cycleAfter r).find? p with
  | none =>
    have hmem : x ∈ cycleAfter r := cycleAfter_turnsAfter r x ▸ List.getElem_mem _
    exact absurd h (List.find?_eq_none.1 hfind x hmem)
  | some g =>
    obtain ⟨hg, i, hi, rfl, hbefore⟩ := List.find?_eq_some_iff_getElem.1 hfind
    refine ⟨_, rfl, hg, ?_⟩
    rw [turnsAfter_getElem r hi]
    refine Nat.le_of_not_lt fun hlt => ?_
    have hnot := hbefore _ hlt
    rw [cycleAfter_turnsAfter, h] at hnot
    cases hnot

theorem find_cycleAfter_none {n : Nat} {r : Fin (n + 1)} {p : Fin (n + 1) → Bool} (h : ∀ x, p x = false) :
    (cycleAfter r).find? p = none := List.find?_eq_none.2 fun x _ => by simp [h x]

section
variable {s : State}

theorem grant_ready (hburst : s.path.burst = none) (hready : s.path.ready = true) : grant s = grantReady s := by
  unfold grant
  rw [hburst, hready]
  rfl

theorem grantReady_urgent {t : TrackId} (h : urgentTrack s = some t) : grantReady s = some (.urgentFetch t) := by
  simp only [grantReady, h]

theorem grantReady_full (h : urgentTrack s = none) (hfull : 24 ≤ s.post.fifo.length) : grantReady s = some .fifo := by
  simp [grantReady, h, Config.fifoUrgent, hfull]

theorem grantReady_host (h : urgentTrack s = none) (hroom : s.post.fifo.length < 24) (hhost : hostWaits s = true) :
    grantReady s = some .host := by
  simp only [grantReady, h, Config.fifoUrgent, if_neg (Nat.not_le.2 hroom), if_pos hhost]

theorem grantReady_fifo (h : urgentTrack s = none) (hhost : hostWaits s = false) (hroom : s.post.fifo.length < 24)
    (hfifo : s.post.fifo ≠ []) : grantReady s = some .fifo := by
  simp only [grantReady, h, Config.fifoUrgent, if_neg (Nat.not_le.2 hroom), hhost, Bool.false_eq_true, if_false,
    if_pos hfifo]

theorem grantReady_back {c : Client} (h : urgentTrack s = none) (hhost : hostWaits s = false) (hfifo : s.post.fifo = [])
    (hback : backClient s = some c) : grantReady s = some c := by
  simp [grantReady, h, Config.fifoUrgent, hhost, hfifo, hback]

theorem grantReady_last (h : urgentTrack s = none) (hhost : hostWaits s = false) (hfifo : s.post.fifo = [])
    (hback : backClient s = none) : grantReady s = if s.post.places = [] then none else some .slot := by
  simp [grantReady, h, Config.fifoUrgent, hhost, hfifo, hback]

theorem hostWaits_ready (h : s.path.ready = true) : hostWaits s = s.path.host.isSome := by
  unfold hostWaits
  cases s.path.host <;> simp [h]

theorem hostWaits_filling (h : s.path.ready = false) : hostWaits s = s.path.host.any fun a => !inBlock s a.word := by
  unfold hostWaits
  simp [h]

/-- R168: class 5. -/
theorem backClient_some {g : Fin 9} (h : (cycleAfter s.path.backTurn).find? (backWaits s) = some g) :
    backClient s = some (if h : g.val < 8 then .fetch ⟨g.val, h⟩ else .blockRead) := by
  unfold backClient
  rw [h]
  rfl

theorem backClient_none (h : ∀ i : Fin 9, backWaits s i = false) : backClient s = none := by
  unfold backClient
  rw [find_cycleAfter_none h]
  rfl
end

/-- Settles O16: the classes are the branches of the grant, and in classes 1 and 5 the rotation takes the first place that
waits. -/
theorem arbiterGrantsByClassAndRotation : Obligations.ArbiterGrantsByClassAndRotation := by
  intro s
  refine ⟨fun t hburst => grant_of_burst hburst, fun hburst hready => ?_, fun hburst hready => ?_⟩
  · rw [grant_ready hburst hready]
    refine ⟨fun t ht => ?_, fun hcalm => ?_⟩
    · obtain ⟨g, hfind, hg, hfirst⟩ := find_cycleAfter (r := s.path.urgentTurn) ht
      exact ⟨g, grantReady_urgent hfind, hg, hfirst⟩
    · have hurgent : urgentTrack s = none := find_cycleAfter_none hcalm
      refine ⟨grantReady_full hurgent, fun hroom => ⟨fun hhost => ?_, fun hhost => ?_⟩⟩
      · exact grantReady_host hurgent hroom ((hostWaits_ready hready).trans (Option.isSome_iff_ne_none.2 hhost))
      · have hidle : hostWaits s = false := by rw [hostWaits_ready hready, hhost]; rfl
        refine ⟨grantReady_fifo hurgent hidle hroom, fun hfifo => ⟨fun i hi => ?_, fun hnone => ?_⟩⟩
        · obtain ⟨g, hfind, hg, hfirst⟩ := find_cycleAfter (r := s.path.backTurn) hi
          exact ⟨g, hg, grantReady_back hurgent hidle hfifo (backClient_some hfind), hfirst⟩
        · exact grantReady_last hurgent hidle hfifo (backClient_none hnone)
  · unfold grant
    rw [hburst, hready, hostWaits_filling hready]
    rfl

/-! ### Bursts of the Posting Engine (R173, R176) -/

theorem exec_postFifoBurst {s : State} (h : grant s = some .fifo) :
    exec .postFifoBurst s = .next (settle (fifoBurst s)) := by
  change takenIf (grant s == some .fifo) _ s = _
  rw [h]
  rfl

theorem exec_slotWrite {s : State} (h : grant s = some .slot) : exec .slotWrite s = .next (slotBurst s) := by
  change takenIf (grant s == some .slot) _ s = _
  rw [h]
  rfl

/-- A burst of these words at word number w: they stand in memory, and of posting the field f has changed. -/
structure Burst (w : Nat) (l : List Word) (f : Post → Post) (s t : State) : Prop where
  words : WordsRead w l t
  bytes : BytesKept w l.length s t
  post : t.post = f s.post
  path : t.path = s.path
  blocks : SameBlocks s t

theorem burst_of_writeWords {s : State} (hmemory : Memory.wf s.mem = true) (w : Nat) {l : List Word}
    (hlength : l.length ≤ 4194304) (f : Post → Post) : Burst w l f s ((s.setMem (writeWords s.mem w l)).modPost f) := by
  obtain ⟨hwords, hbytes⟩ := run_written (s := s) (t := (s.setMem (writeWords s.mem w l)).modPost f) hmemory hlength rfl
  exact ⟨hwords, hbytes, rfl, rfl, sameBlocks_trans (sameBlocks_setMem s _) (sameBlocks_modPost ..)⟩

/-- R173: the words of a burst are those from the present progress on. -/
theorem writePart_burst {s : State} (hmemory : Memory.wf s.mem = true) (w : Nat) (words : List Word) {n : Nat}
    (hn : n ≤ 16) : Burst (w + s.post.progress) ((words.drop s.post.progress).take n)
      (fun p => { p with progress := s.post.progress + n }) s (writePart w words n s) := by
  have hlength : ((words.drop s.post.progress).take n).length ≤ 16 := (List.length_take_le ..).trans hn
  unfold writePart
  exact burst_of_writeWords hmemory _ (hlength.trans (by decide)) _

/-- R173: the producer word of a ring is written, the producer moves and ATTENTION is judged. -/
theorem writeProducer_written {s : State} (hmemory : Memory.wf s.mem = true) (off : Nat) (slot : BitVec 7)
    (f : Post → Post) :
    let v := judgeAttention ((writeProducer off slot s).modPost f)
    readWord v.mem (blockWord s off) = pack [put 0 7 (slot + 1).toNat] ∧ BytesKept (blockWord s off) 1 s v
      ∧ v.path = s.path ∧ SameBlocks s v := by
  obtain ⟨hword, hbytes⟩ := word_written (s := s) (t := judgeAttention ((writeProducer off slot s).modPost f))
    (v := pack [put 0 7 (slot + 1).toNat]) (w := blockWord s off) hmemory rfl
  exact ⟨hword, hbytes, rfl,
    sameBlocks_trans (sameBlocks_trans (sameBlocks_setMem s _) (sameBlocks_modPost ..)) (sameBlocks_modPost ..)⟩

section
variable {s : State} {slot : BitVec 7} {words : List Word} {rest : List Item}

theorem fifoBurst_eventPart (h : s.post.fifo = .event slot words :: rest) (hpart : s.post.progress < 4) :
    fifoBurst s = writePart (blockWord s (0x2800 + 16 * slot.toNat)) words 4 s := by
  simp only [fifoBurst, h, if_pos hpart]

theorem fifoBurst_verdictPart (h : s.post.fifo = .verdict slot words :: rest) (hpart : s.post.progress < 8) :
    fifoBurst s = writePart (blockWord s (0x3000 + 32 * slot.toNat)) words 4 s := by
  simp only [fifoBurst, h, if_pos hpart]

/-- The state in which the item of an event leaves the FIFO. -/
def eventProduced (slot : BitVec 7) (s : State) : State :=
  judgeAttention ((writeProducer 0xC0 slot s).modPost fun p => { p with eventProducer := slot + 1 })

/-- The state in which the item of a verdict leaves the FIFO. -/
def verdictProduced (slot : BitVec 7) (s : State) : State :=
  judgeAttention ((writeProducer 0xC8 slot s).modPost fun p => { p with verdictProducer := slot + 1 })

theorem fifoBurst_eventEnd (h : s.post.fifo = .event slot words :: rest) (hend : 4 ≤ s.post.progress) :
    fifoBurst s = itemLeaves (eventProduced slot s) := by
  simp only [fifoBurst, h, if_neg (Nat.not_lt.2 hend), eventProduced]

theorem fifoBurst_verdictEnd (h : s.post.fifo = .verdict slot words :: rest) (hend : 8 ≤ s.post.progress) :
    fifoBurst s = itemLeaves (verdictProduced slot s) := by
  simp only [fifoBurst, h, if_neg (Nat.not_lt.2 hend), verdictProduced]
end

/-- Settles O17: a ring record is written in bursts of four words, and the burst after them writes the producer. -/
theorem ringRecordsPrecedeTheirProducer : Obligations.RingRecordsPrecedeTheirProducer := by
  intro s slot words rest hmemory hgrant
  have hexec := exec_postFifoBurst hgrant
  refine ⟨fun h hlength hprogress => ?_, fun h hlength hprogress => ?_, fun h hprogress => ?_, fun h hprogress => ?_⟩
  · obtain ⟨hwords, hbytes, hpost, hpath, hblocks⟩ :=
      writePart_burst hmemory (blockWord s (0x2800 + 16 * slot.toNat)) words (show 4 ≤ 16 by decide)
    have hall : (words.drop s.post.progress).take 4 = words := by
      rw [hprogress, List.drop_zero, ← hlength, List.take_length]
    rw [hall, hprogress] at hwords hbytes
    rw [hlength] at hbytes
    rw [fifoBurst_eventPart h (by omega)] at hexec
    refine ⟨_, hexec, hwords, hbytes, hpost.trans (by rw [hprogress]), hpath, hblocks⟩
  · obtain ⟨hwords, hbytes, hpost, hpath, hblocks⟩ :=
      writePart_burst hmemory (blockWord s (0x3000 + 32 * slot.toNat)) words (show 4 ≤ 16 by decide)
    have hfour : ((words.drop s.post.progress).take 4).length = 4 := by
      rw [List.length_take, List.length_drop, hlength]
      omega
    rw [hfour] at hbytes
    rw [fifoBurst_verdictPart h (by omega)] at hexec
    exact ⟨_, hexec, hwords, hbytes, hpost, hpath, hblocks⟩
  · rw [fifoBurst_eventEnd h (Nat.le_of_eq hprogress.symm)] at hexec
    obtain ⟨hword, hbytes, hpath, hblocks⟩ := writeProducer_written hmemory 0xC0 slot
      fun p => { p with eventProducer := slot + 1 }
    exact ⟨eventProduced slot s, hexec, hword, hbytes, rfl, hpath, hblocks⟩
  · rw [fifoBurst_verdictEnd h (Nat.le_of_eq hprogress.symm)] at hexec
    obtain ⟨hword, hbytes, hpath, hblocks⟩ := writeProducer_written hmemory 0xC8 slot
      fun p => { p with verdictProducer := slot + 1 }
    exact ⟨verdictProduced slot s, hexec, hword, hbytes, rfl, hpath, hblocks⟩

theorem fifoBurst_block {s : State} {buffer : Word} {words : List Word} {rest : List Item}
    (h : s.post.fifo = .block buffer words :: rest) :
    fifoBurst s =
      let count := min (16 - s.post.progress) (4 - (buffer.toNat / 4 + s.post.progress) % 4)
      let v := writePart (buffer.toNat / 4) words count s
      if v.post.progress < 16 then v else itemLeaves v := by
  simp only [fifoBurst, h]

theorem slotBurst_eq {s : State} {p : Place} {v : List Word} {rest : List (Place × List Word)}
    (h : s.post.places = (p, v) :: rest) : slotBurst s =
      (s.setMem (writeWords s.mem (blockWord s p.offset) (placeWords s p v))).modPost fun q => { q with places := rest } := by
  simp only [slotBurst, h]

theorem placeWords_of_ne {p : Place} (h : p ≠ .summary) (s : State) (v : List Word) : placeWords s p v = v := by
  cases p <;> simp_all [placeWords]

/-- Settles O18: the burst of a block ends at a boundary of 16 bytes or with its sixteenth word; a place is written whole. -/
theorem blocksAndPlacesAreWritten : Obligations.BlocksAndPlacesAreWritten := by
  refine ⟨fun s buffer words rest hmemory hgrant hfifo hlength hprogress => ?_,
    fun s p v rest hmemory hgrant hplaces hlength => ?_⟩
  · dsimp only
    generalize hcount : min (16 - s.post.progress) (4 - (buffer.toNat / 4 + s.post.progress) % 4) = count
    have hle : count ≤ 16 - s.post.progress := hcount ▸ Nat.min_le_left ..
    obtain ⟨hwords, hbytes, hpost, hpath, hblocks⟩ :=
      writePart_burst hmemory (buffer.toNat / 4) words (show count ≤ 16 by omega)
    have hall : ((words.drop s.post.progress).take count).length = count := by
      rw [List.length_take, List.length_drop, hlength]
      omega
    rw [hall] at hbytes
    refine ⟨writePart (buffer.toNat / 4) words count s, ?_, hwords, hbytes, hpost, hpath, hblocks⟩
    rw [exec_postFifoBurst hgrant, fifoBurst_block hfifo, hcount]
    dsimp only
    rw [hpost]
  · have hwords : (placeWords s p v).length ≤ 4 := by
      by_cases hp : p = .summary
      · subst hp
        exact Nat.le_refl 4
      · rw [placeWords_of_ne hp]
        exact hlength
    obtain ⟨hread, hbytes, hpost, hpath, hblocks⟩ := burst_of_writeWords hmemory (blockWord s p.offset)
      (hwords.trans (by decide)) fun q => { q with places := rest }
    rw [← slotBurst_eq hplaces] at hread hbytes hpost hpath hblocks
    refine ⟨_, exec_slotWrite hgrant, fun hp => ?_, fun hp => ?_, hpost, hpath, hblocks⟩
    · rw [placeWords_of_ne hp] at hread hbytes
      exact ⟨hread, hbytes⟩
    · subst hp
      exact ⟨hread, hbytes⟩

end Sys2Proof.Machine
end

section
/-! CERTIFICATE. The statements on the end of a drain, on snapshots and pulse periods, and on the rails (R13, R18, R23 to
R32, R40 to R42, R47). -/
namespace Sys2Proof.Machine

open Stated

/-! ### The end of a drain (R13) -/

/-- A command that takes its event where its condition holds. -/
theorem takenIf_true {b : Bool} (h : b = true) (t s : State) : takenIf b t s = .next t := by
  rw [h]
  rfl

/-- Settles O23: DRAIN_END is the end of the drain of a nest whose completion test holds. -/
theorem drainEndClosesTheSession : Obligations.DrainEndClosesTheSession :=
  fun _ _ h => ⟨_, takenIf_true h _ _, drainEnd_closed h⟩

/-! ### Snapshots (R18, R42, R96) -/

/-- Every block and all that is posted, but for the places. -/
def State.besidePlaces (s : State) := (s.besideStatus, s.tracks)

theorem offer_besidePlaces (p : Place) (v : List Word) (s : State) : (offer p v s).besidePlaces = s.besidePlaces := rfl

section
variable {α : Type} {p : α → Place} {v : α → List Word}

/-- Each place in turn is offered its value. -/
def offers (p : α → Place) (v : α → List Word) (l : List α) (s : State) : State :=
  s.forEach l fun a s => offer (p a) (v a) s

/-- What a place holds stands, unless it is offered something else. -/
theorem mem_offers_of_mem {q : Place} {w : List Word} (l : List α) (h : ∀ b ∈ l, p b = q → v b = w) {s : State}
    (hs : (q, w) ∈ s.post.places) : (q, w) ∈ (offers p v l s).post.places := by
  induction l generalizing s with
  | nil => exact hs
  | cons b l ih =>
    refine ih (fun b hb => h b (List.mem_cons_of_mem _ hb)) ?_
    by_cases hb : p b = q
    · rw [← hb, ← h b List.mem_cons_self hb]
      exact mem_upsertPlace ..
    · exact (mem_upsertPlace_of_ne (Ne.symm hb) _ _ _).2 hs

theorem mem_offers {a : α} {l : List α} (ha : a ∈ l) (h : ∀ b ∈ l, p b = p a → v b = v a) (s : State) :
    (p a, v a) ∈ (offers p v l s).post.places := by
  induction l generalizing s with
  | nil => cases ha
  | cons b l ih =>
    have htail : ∀ b ∈ l, p b = p a → v b = v a := fun b hb => h b (List.mem_cons_of_mem _ hb)
    rcases List.mem_cons.1 ha with rfl | hmem
    · exact mem_offers_of_mem l htail (mem_upsertPlace ..)
    · exact ih hmem htail _

theorem offers_besidePlaces (l : List α) (s : State) : (offers p v l s).besidePlaces = s.besidePlaces :=
  forEach_keeps State.besidePlaces (fun a s => offer (p a) (v a) s) (fun _ _ => rfl) l s

/-- An offer whose value does not look at posting. -/
theorem forEach_offers {f : α → State → State} {s : State}
    (h : ∀ a (q : Post), f a { s with post := q } = offer (p a) (v a) { s with post := q }) (l : List α) (q : Post) :
    State.forEach { s with post := q } l f = offers p v l { s with post := q } := by
  induction l generalizing q with
  | nil => rfl
  | cons a l ih =>
    unfold offers
    rw [forEach_cons, forEach_cons, h]
    exact ih _
end

section
variable (n : NestId) (s : State)

theorem offerRails_eq : offerRails n s = offers (fun k => Place.rail (railOf n k))
    (fun k => railSnapshot s.rails[railOf n k] s.supplies[nestOfRail (railOf n k)]) allKinds s :=
  forEach_offers (f := fun k s => offerRail (railOf n k) s) (s := s) (p := fun k => Place.rail (railOf n k))
    (v := fun k => railSnapshot s.rails[railOf n k] s.supplies[nestOfRail (railOf n k)]) (fun _ _ => rfl) _ s.post

theorem offerInputs_eq : offerInputs n s = offers (fun j => Place.input (inputOf n j))
    (fun j => inputSnapshot s.inputs[inputOf n j]) (List.finRange 8) s :=
  forEach_offers (f := fun j s => offerInput (inputOf n j) s) (s := s) (p := fun j => Place.input (inputOf n j))
    (v := fun j => inputSnapshot s.inputs[inputOf n j]) (fun _ _ => rfl) _ s.post

theorem offerRails_besidePlaces : (offerRails n s).besidePlaces = s.besidePlaces := by
  rw [offerRails_eq]
  exact offers_besidePlaces ..

theorem offerInputs_besidePlaces : (offerInputs n s).besidePlaces = s.besidePlaces := by
  rw [offerInputs_eq]
  exact offers_besidePlaces ..

theorem inputs_of_besidePlaces {s t : State} (h : t.besidePlaces = s.besidePlaces) : t.inputs = s.inputs := by
  simp only [State.besidePlaces, State.besideStatus, State.besideTracks, Prod.mk.injEq] at h
  obtain ⟨⟨⟨-, -, -, -, -, hinputs, -⟩, -⟩, -⟩ := h
  exact hinputs

/-- R42: each rail of the nest has its snapshot in its place. -/
theorem offerRails_place (k : Fin 3) :
    (Place.rail (railOf n k), railSnapshot s.rails[railOf n k] s.supplies[n]) ∈ (offerRails n s).post.places := by
  rw [offerRails_eq]
  have hplace := mem_offers (p := fun k => Place.rail (railOf n k))
    (v := fun k => railSnapshot s.rails[railOf n k] s.supplies[nestOfRail (railOf n k)]) (mem_allKinds k)
    (fun b _ hb => by rw [railOf_inj.1 (Place.rail.inj hb)]) s
  simp only [nestOfRail_railOf] at hplace ⊢
  exact hplace

/-- R96: each input of the nest has its snapshot in its place. -/
theorem offerInputs_place (j : Fin 8) :
    (Place.input (inputOf n j), inputSnapshot s.inputs[inputOf n j]) ∈ (offerInputs n s).post.places := by
  rw [offerInputs_eq]
  exact mem_offers (List.mem_finRange j) (fun b _ hb => by rw [inputOf_inj.1 (Place.input.inj hb)]) s

/-- What another place holds stands through the offers of a nest's rails and inputs. -/
theorem offerRails_mem {q : Place} {w : List Word} (hq : ∀ k, q ≠ .rail (railOf n k)) (h : (q, w) ∈ s.post.places) :
    (q, w) ∈ (offerRails n s).post.places := by
  rw [offerRails_eq]
  exact mem_offers_of_mem _ (fun b _ hb => absurd hb.symm (hq b)) h

theorem offerInputs_mem {q : Place} {w : List Word} (hq : ∀ j, q ≠ .input (inputOf n j))
    (h : (q, w) ∈ s.post.places) : (q, w) ∈ (offerInputs n s).post.places := by
  rw [offerInputs_eq]
  exact mem_offers_of_mem _ (fun b _ hb => absurd hb.symm (hq b)) h

/-- R18: the timer restarts. -/
def snapRestarted : State := s.modNest n fun x => { x with snapTimer := some 0 }

theorem snapshotExpiry_eq :
    snapshotExpiry n s = offerInputs n (offerRails n (offerNest n (snapRestarted n s))) := rfl

theorem snapshotExpiry_besidePlaces : (snapshotExpiry n s).besidePlaces = (snapRestarted n s).besidePlaces := by
  rw [snapshotExpiry_eq, offerInputs_besidePlaces, offerRails_besidePlaces]
  rfl

/-- R18: the restart of the timer is no part of the status. -/
theorem snapRestarted_status : nestStatus (snapRestarted n s).nests[n] = nestStatus s.nests[n] := by
  have hget := modNest_get n (fun x : Nest => { x with snapTimer := some 0 }) s n
  rw [if_pos rfl] at hget
  exact (congrArg nestStatus hget).trans rfl

theorem snapshotExpiry_nest : (Place.nest n, nestStatus s.nests[n]) ∈ (snapshotExpiry n s).post.places := by
  have hplace := offerNest_place n (snapRestarted n s)
  change (_, nestStatus (snapRestarted n s).nests[n]) ∈ _ at hplace
  rw [snapRestarted_status] at hplace
  exact offerInputs_mem n _ (fun _ => Place.noConfusion) (offerRails_mem n _ (fun _ => Place.noConfusion) hplace)

theorem snapshotExpiry_rail (j : Fin 3) :
    (Place.rail (railOf n j), railSnapshot s.rails[railOf n j] s.supplies[n]) ∈ (snapshotExpiry n s).post.places := by
  have hplace := offerRails_place n (offerNest n (snapRestarted n s)) j
  exact offerInputs_mem n _ (fun _ => Place.noConfusion) hplace

theorem snapshotExpiry_input (j : Fin 8) :
    (Place.input (inputOf n j), inputSnapshot s.inputs[inputOf n j]) ∈ (snapshotExpiry n s).post.places := by
  have hinputs : (offerRails n (offerNest n (snapRestarted n s))).inputs = s.inputs :=
    (inputs_of_besidePlaces (offerRails_besidePlaces ..)).trans rfl
  have hplace := offerInputs_place n (offerRails n (offerNest n (snapRestarted n s))) j
  rwa [hinputs] at hplace
end

/-! ### The end of a pulse period (R47) -/

theorem periodEnd_of_none {p : Pulse} (h : p.waiting = none) : p.periodEnd = p := by
  unfold Pulse.periodEnd
  rw [h]

theorem periodEnd_of_some {p : Pulse} {f d : Nat} (h : p.waiting = some (f, d)) : p.periodEnd = ⟨f, d, none⟩ := by
  unfold Pulse.periodEnd
  rw [h]

theorem modOutputs_self {n : NestId} {f : Outputs → Outputs} {s : State} (h : f s.outputs[n] = s.outputs[n]) :
    s.modOutputs n f = s := by
  unfold State.modOutputs
  rw [h]
  simp

/-- The end of the pulse period of an output of a nest. -/
theorem exec_pulsePeriodEnd (n : NestId) (k : Fin 4) (s : State) : exec (.pulsePeriodEnd n k) s
    = .next { s with
        outputs :=
          s.outputs.set n { s.outputs[n] with pulse := s.outputs[n].pulse.set k s.outputs[n].pulse[k].periodEnd } } := rfl

/-- Settles O25: the expiry offers its places one after another, each of them once; the end of a pulse period takes what is
pending. -/
theorem snapshotsAndPulsePeriodsEnd : Obligations.SnapshotsAndPulsePeriodsEnd := by
  refine ⟨fun n s hdue => ⟨_, takenIf_true hdue _ _, ?_⟩, fun n k s => ?_⟩
  · have hkept := snapshotExpiry_besidePlaces n s
    have hnest := snapshotExpiry_nest n s
    have hrail := snapshotExpiry_rail n s
    have hinput := snapshotExpiry_input n s
    generalize snapshotExpiry n s = t at *
    simp only [State.besidePlaces, State.besideStatus, State.besideTracks, State.bus, Prod.mk.injEq] at hkept
    obtain ⟨⟨⟨⟨-, hmem, hpath⟩, hnests, hsupplies, hrails, hcapture, hinputs, hchecks, hunposted, hnodes, hlink,
      hprompts⟩, houtputs, hclaims, hholders, hports, hfifo, hlost⟩, htracks⟩ := hkept
    exact ⟨hnests, hnest, hrail, hinput, hsupplies, hrails, hinputs,
      ⟨hsupplies, htracks, houtputs, hclaims, hholders, hports, hcapture⟩,
      ⟨hchecks, hunposted, hnodes, hlink, hprompts⟩, ⟨hfifo, hlost⟩, hmem, hpath⟩
  · rw [exec_pulsePeriodEnd]
    cases hwaiting : s.outputs[n].pulse[k].waiting with
    | none =>
      rw [periodEnd_of_none hwaiting]
      exact congrArg _ (modOutputs_self (n := n) (f := fun x => { x with pulse := x.pulse.set k x.pulse[k] }) (by simp))
    | some w => rw [periodEnd_of_some hwaiting]

/-! ### Faults and expiries in a sample (R25, R26, R29 to R31) -/

section
variable {r : RailId} {m : NestReading} {s : State} {a : RailAct}

/-- What a rail does at its turn, unless it is nothing, is its act in a state that no earlier turn has moved. -/
theorem actAtTurn_acts (h : actAtTurn r m s = a) (ha : a ≠ .idle) :
    (atTurn (nestOfRail r) m s (kindOfRail r).val).rails[r].state = s.rails[r].state
      ∧ railAct (atTurn (nestOfRail r) m s (kindOfRail r).val) r m.rails[kindOfRail r].limiter = a := by
  unfold actAtTurn at h
  dsimp only at h
  split at h
  · rename_i hstate
    exact ⟨hstate, h⟩
  · exact absurd h.symm ha

/-- A command that is the nest sample in which rail r acts so has what holds of the act. -/
theorem atRailTurn_of_actAtTurn {c : Instr} {P : State → State → Prop} (h : actAtTurn r m s = a) (ha : a ≠ .idle)
    (hc : exec c s = .next (sampleIf (actAtTurn r m s == a) (nestOfRail r) m s))
    (hP : P (atTurn (nestOfRail r) m s (kindOfRail r).val)
      (applyRailAct r a (atTurn (nestOfRail r) m s (kindOfRail r).val))) : AtRailTurn c r m s P := by
  obtain ⟨hstate, hact⟩ := actAtTurn_acts h ha
  obtain ⟨w, hw, hexec⟩ := atRailTurn_of_act hstate hact hP
  refine ⟨w, hw, ?_⟩
  rw [hc, h, beq_self_eq_true]
  exact hexec
end

/-- Of all blocks an event changes posting alone. -/
theorem postEvent_besidePost (e : Event) (s : State) :
    SamePlant s (postEvent e s) ∧ SameStimulus s (postEvent e s) ∧ SameChecks s (postEvent e s) := by
  rw [postEvent_eq]
  exact ⟨⟨rfl, rfl, rfl, rfl⟩, ⟨rfl, rfl, rfl, rfl, rfl, rfl, rfl⟩, ⟨rfl, rfl, rfl, rfl, rfl⟩⟩

theorem railTrigger_started (r : RailId) (b : Bool) (s : State) : railTrigger r b s = started (railFires r b s) s :=
  railTrigger_eq r b s

/-- R31: a rail whose voltage passes is ON, reported, and its triggers follow. -/
theorem endRetryTest_passes {r : RailId} {s : State} (h : setpoint s r * passPercent s r ≤ 100 * s.rails[r].voltage) :
    ∃ z, endRetryTest r s = started (railFires r false z) z
      ∧ z.rails = s.rails.set r { s.rails[r] with state := .on, dwell := 0, timer := none }
      ∧ Posted (evRailRecovered r s.rails[r].retry s.rails[r].voltage) s z
      ∧ z.nests = s.nests ∧ z.supplies = s.supplies ∧ z.inputs = s.inputs ∧ SameStimulus s z ∧ SameChecks s z := by
  let passed : State := s.modRail r fun x => { x with state := .on, dwell := 0, timer := none }
  obtain ⟨⟨hnests, hsupplies, hrails, hinputs⟩, hstimulus, hchecks⟩ :=
    postEvent_besidePost (evRailRecovered r s.rails[r].retry s.rails[r].voltage) passed
  refine ⟨postEvent (evRailRecovered r s.rails[r].retry s.rails[r].voltage) passed, ?_, hrails,
    posted_of_room (posted_postEvent _ _) rfl rfl rfl rfl rfl, hnests, hsupplies, hinputs, hstimulus, hchecks⟩
  unfold endRetryTest passes
  rw [decide_eq_true h, ← railTrigger_started]
  rfl

theorem endRetryTest_fails {r : RailId} {s : State} (h : 100 * s.rails[r].voltage < setpoint s r * passPercent s r) :
    endRetryTest r s = railFault .short true r s := by
  unfold endRetryTest passes
  rw [decide_eq_false (Nat.not_le.2 h)]
  rfl

/-- Settles O29: the act of the rail at its turn is a fault, or the end of a retry test. -/
theorem faultsFollowThePolicyOfTheRail : Obligations.FaultsFollowThePolicyOfTheRail := by
  intro r m s
  refine ⟨fun h => atRailTurn_of_actAtTurn h (by decide) rfl (railFault_faulted ..),
    fun h => atRailTurn_of_actAtTurn h (by decide) rfl ⟨fun hfails => ?_, fun hpasses => endRetryTest_passes hpasses⟩⟩
  change Faulted .short r _ (endRetryTest r _)
  rw [endRetryTest_fails hfails]
  exact railFault_faulted ..

/-- R30: what keeps a rail from its retry test. -/
theorem blocked_eq (r : RailId) (s : State) :
    (s.supplies[nestOfRail r].range || s.supplies[nestOfRail r].temperature
      || (kindOfRail r != 0 && !(s.rails[railOf (nestOfRail r) 0].state == .on
            || s.rails[railOf (nestOfRail r) 0].state == .limiting)))
      = (s.supplies[nestOfRail r].faulty || !battServes s r) := by
  unfold battServes Supply.faulty inService
  rw [Bool.not_or (kindOfRail r == 0)]
  rfl

theorem endFaultWait_eq (r : RailId) (s : State) : endFaultWait r s = s.modRail r fun x =>
    { x with
      state := if s.supplies[nestOfRail r].faulty || !battServes s r then x.state else .retryTest
      timer := some 0 } := by
  unfold endFaultWait
  split <;> rfl

/-- Settles O30: the act of the rail at its turn is the end of a fault wait or of a discharge. -/
theorem waitsAndDischargesExpire : Obligations.WaitsAndDischargesExpire := by
  intro r m s
  refine ⟨fun h => atRailTurn_of_actAtTurn h (by decide) rfl ?_,
    fun h => atRailTurn_of_actAtTurn h (by decide) rfl ⟨fun hlow => ?_, fun hhigh => ?_⟩⟩
  · dsimp only
    rw [blocked_eq]
    exact endFaultWait_eq ..
  · exact if_pos hlow
  · generalize atTurn (nestOfRail r) m s (kindOfRail r).val = x at hhigh ⊢
    have hleft : applyRailAct r .dischargeExpiry x = postEvent
        (evRailLatched r .dischargeFail x.rails[r].retry x.rails[r].voltage)
        (x.modRail r fun y => { y with state := .latched, cause := .dischargeFail, timer := none }) :=
      if_neg (Nat.not_le.2 hhigh)
    obtain ⟨⟨hnests, hsupplies, hrails, hinputs⟩, hstimulus, hchecks⟩ :=
      postEvent_besidePost (evRailLatched r .dischargeFail x.rails[r].retry x.rails[r].voltage)
        (x.modRail r fun y => { y with state := .latched, cause := .dischargeFail, timer := none })
    rw [hleft]
    exact ⟨hrails, posted_of_room (posted_postEvent _ _) rfl rfl rfl rfl rfl, hnests, hsupplies, hinputs, hstimulus,
      hchecks⟩

/-! ### Rail actions (R23, R24, R32, R41) -/

section
variable {r : RailId} {s : State}

theorem onRail_val (act : RailId → State → Except Reason State) : onRail act r.val s = act r s :=
  dif_pos r.isLt

theorem actRailOn_refused {e : Reason} (h : railOnRefusal s r = some e) (opd : Nat) :
    actRailOn r.val opd s = .error e := by
  unfold actRailOn
  rw [onRail_val, h]

theorem actRailOn_accepted (h : railOnRefusal s r = none) (opd : Nat) : actRailOn r.val opd s
    = .ok (railTrigger r false (s.modRail r fun x => { x with state := .on, cause := .none, dwell := 0 })) := by
  unfold actRailOn
  rw [onRail_val, h]

theorem actRailClear_refused {e : Reason} (h : railClearRefusal s r = some e) (opd : Nat) :
    actRailClear r.val opd s = .error e := by
  unfold actRailClear
  rw [onRail_val, h]

theorem actRailClear_accepted (h : railClearRefusal s r = none) (opd : Nat) : actRailClear r.val opd s
    = .ok (s.modRail r fun x => { x with state := .retryTest, retry := 0, timer := some 0 }) := by
  unfold actRailClear
  rw [onRail_val, h]
end

/-- R23, R32: the tests that RAIL_ON and RAIL_CLEAR share. -/
def sharedRefusal (s : State) (r : RailId) : Option Reason :=
  if s.supplies[nestOfRail r].range ∨ s.supplies[nestOfRail r].temperature then some .supplyFault
  else if kindOfRail r ≠ 0 ∧ s.rails[railOf (nestOfRail r) 0].state ≠ .on
      ∧ s.rails[railOf (nestOfRail r) 0].state ≠ .limiting then some .dependency
  else none

theorem faulty_iff (u : Supply) : u.faulty = true ↔ u.range = true ∨ u.temperature = true := Bool.or_eq_true_iff

theorem battServes_iff (s : State) (r : RailId) : (!battServes s r) = true
    ↔ kindOfRail r ≠ 0 ∧ s.rails[railOf (nestOfRail r) 0].state ≠ .on
      ∧ s.rails[railOf (nestOfRail r) 0].state ≠ .limiting := by
  unfold battServes inService
  simp

theorem railClearRefusal_eq (s : State) (r : RailId) : railClearRefusal s r =
    if s.rails[r].state ≠ .latched then some .wrongState
    else if s.nests[nestOfRail r].state ≠ .opened then some .notOpen
    else if s.nests[nestOfRail r].interlock = .unsatisfied then some .interlock
    else sharedRefusal s r := by
  unfold railClearRefusal sharedRefusal
  simp only [faulty_iff, battServes_iff]

/-- Two tests in order, and what follows them. -/
theorem ite_of_first_two {p q : Prop} [Decidable p] [Decidable q] (x y : Reason) (z : Option Reason) :
    (if p then some x else if q then some y else z)
      = if (if p then some x else if q then some y else none) ≠ none then
          (if p then some x else if q then some y else none)
        else z := by
  by_cases hp : p
  · simp [hp]
  · by_cases hq : q <;> simp [hp, hq]

theorem railOnRefusal_eq (s : State) (r : RailId) : railOnRefusal s r =
    if s.rails[r].state = .discharging then some .busy
    else if s.rails[r].state ≠ .off then some .wrongState
    else if s.nests[nestOfRail r].state ≠ .opened then some .notOpen
    else if s.nests[nestOfRail r].interlock = .unsatisfied then some .interlock
    else if sharedRefusal s r ≠ none then sharedRefusal s r
    else if railRecordInRange s r = false then some .badRange
    else none := by
  have hrange : (!railRecordInRange s r) = true ↔ railRecordInRange s r = false :=
    (Bool.not_eq_true' _).to_iff
  unfold railOnRefusal sharedRefusal
  simp only [faulty_iff, battServes_iff, hrange]
  rw [ite_of_first_two .supplyFault]

/-- R164, R165: an action whose owner tests first. -/
theorem answers_of_refusal {c : Instr} {x : Action} {act : Nat → Nat → State → Except Reason State} {k : SlotId}
    {a : HostAccess} {obj : Nat} {s : State} {reason : Option Reason} {P : State → Prop}
    (hc : exec c s = .next (performAction x act s)) (hbus : KeepsBus act) (hg : Commands s x k a obj)
    (hrefused : ∀ e, reason = some e → act obj (wordOperand a.data) (writeAction a (clearHost s)) = .error e)
    (haccepted : reason = none → ∃ u, act obj (wordOperand a.data) (writeAction a (clearHost s)) = .ok u
      ∧ P (offerResult k a.data none u)) : Answers c k a s reason P := by
  cases hreason : reason with
  | some e => exact answers_of_error hc hg (hrefused e hreason)
  | none =>
    obtain ⟨u, hact, hP⟩ := haccepted hreason
    have hpath : u.path = (writeAction a (clearHost s)).path := path_of_bus (hbus _ _ _ _ hact)
    exact answers_of_ok hc hg hact (by rw [hpath]; rfl) hP

/-- Settles O26: the refusals are those of the tests in order; an accepted RAIL_ON triggers from the state with the rail
ON. -/
theorem railOnAndClearTestInOrder : Obligations.RailOnAndClearTestInOrder := by
  intro s k a r
  refine ⟨fun hcommand => ?_, fun hcommand => ?_⟩
  · have hon := railOnRefusal_eq (writeAction a (clearHost s)) r
    refine answers_of_refusal rfl actRailOn_bus hcommand (fun e he => actRailOn_refused (hon.trans he) _)
      fun hnone => ⟨_, actRailOn_accepted (hon.trans hnone) _, ?_⟩
    generalize hz : (writeAction a (clearHost s)).modRail r
      (fun x => { x with state := .on, cause := .none, dwell := 0 }) = z
    have htriggered := railTrigger_started r false z
    have hplant := samePlant_of_plant (railTrigger_plant r false z)
    have hstimulus := sameStimulus_of_bench (bench_of_plant (railTrigger_plant r false z))
    generalize railTrigger r false z = u at *
    obtain ⟨hnests, hsupplies, hrails, hinputs⟩ := hplant
    have hresult : (offerResult k a.data none u).rails = z.rails := hrails
    have hon : ({ writeAction a (clearHost s) with rails := z.rails } : State) = z := by rw [← hz]; rfl
    dsimp only
    rw [hresult, hon, ← htriggered]
    subst hz
    exact ⟨rfl, ⟨⟨rfl, rfl, rfl, rfl, rfl⟩, ⟨rfl, rfl⟩, ⟨rfl, rfl, rfl, rfl, rfl⟩, rfl, rfl⟩, hnests, hsupplies, hinputs,
      hstimulus⟩
  · have hclear := railClearRefusal_eq (writeAction a (clearHost s)) r
    exact answers_of_refusal rfl actRailClear_bus hcommand (fun e he => actRailClear_refused (hclear.trans he) _)
      fun hnone => ⟨_, actRailClear_accepted (hclear.trans hnone) _, rfl, rfl, rfl, rfl,
        ⟨rfl, rfl, rfl, rfl, rfl, rfl, rfl⟩, ⟨rfl, rfl, rfl, rfl, rfl⟩, rfl, rfl⟩

/-! ### RAIL_OFF (R24) -/

/-- R24: the record of a rail that is turned off. -/
def Rail.turnedOff (x : Rail) : Rail :=
  if x.state.forcible then { x with state := .discharging, retry := 0, dwell := 0, timer := some 0 }
  else if x.state = .latched then { x with state := .off, retry := 0, dwell := 0 }
  else { x with retry := 0, dwell := 0 }

/-- R24, R33: a rail is turned off but for the dependants. -/
def turnOff (r : RailId) (s : State) : State :=
  let u := s.modRail r Rail.turnedOff
  if s.rails[r].state.serving then railLost r u else u

/-- R24: the states whose turning off reaches the dependants of BATT. -/
def RailState.leaves (x : RailState) : Bool := x.forcible || x == .latched

theorem leaves_iff (x : RailState) : x.leaves = true ↔ x.forcible = true ∨ x = .latched := by
  unfold RailState.leaves
  simp

section
variable {r : RailId} {s : State}

theorem modRail_congr {f g : Rail → Rail} (h : f s.rails[r] = g s.rails[r]) : s.modRail r f = s.modRail r g := by
  unfold State.modRail
  rw [h]

theorem modRail_modRail (f g : Rail → Rail) : (s.modRail r f).modRail r g = s.modRail r fun x => g (f x) := by
  unfold State.modRail
  simp

theorem serving_forcible {x : RailState} (h : x.serving = true) : x.forcible = true := by
  revert h
  cases x <;> decide

theorem not_serving {x : RailState} (h : x.forcible = false) : x.serving = false :=
  Bool.eq_false_iff.2 fun hx => Bool.false_ne_true (h.symm.trans (serving_forcible hx))

/-- R24: turning off a rail that is neither in use nor LATCHED. -/
theorem railOffEffect_idle (h : s.rails[r].state.leaves = false) : railOffEffect r s = turnOff r s := by
  obtain ⟨hforcible, hlatched⟩ := Bool.or_eq_false_iff.1 h
  have hstate : s.rails[r].state ≠ .latched := by simpa using hlatched
  have hoff : s.rails[r].turnedOff = { s.rails[r] with retry := 0, dwell := 0 } :=
    (if_neg (by rw [hforcible]; decide)).trans (if_neg hstate)
  unfold railOffEffect turnOff
  dsimp only
  rw [hforcible, not_serving hforcible, if_neg Bool.false_ne_true, if_neg hstate, if_neg Bool.false_ne_true,
    modRail_congr (g := Rail.turnedOff) hoff.symm]

/-- R24, R33, R35: turning off any other rail. -/
theorem railOffEffect_leaves (h : s.rails[r].state.leaves = true) : railOffEffect r s =
    if kindOfRail r = 0 then forceDependants (nestOfRail r) RailState.forcible (turnOff r s) else turnOff r s := by
  unfold railOffEffect turnOff
  dsimp only
  cases hforcible : s.rails[r].state.forcible with
  | true =>
    have hoff : s.rails[r].turnedOff = { s.rails[r] with state := .discharging, retry := 0, dwell := 0, timer := some 0 } :=
      if_pos hforcible
    rw [if_pos rfl, modRail_modRail, modRail_congr (g := Rail.turnedOff) hoff.symm]
  | false =>
    have hstate : s.rails[r].state = .latched :=
      ((leaves_iff _).1 h).resolve_left (by rw [hforcible]; decide)
    have hoff : s.rails[r].turnedOff = { s.rails[r] with state := .off, retry := 0, dwell := 0 } :=
      (if_neg (by rw [hforcible]; decide)).trans (if_pos hstate)
    rw [not_serving hforcible, if_neg Bool.false_ne_true, if_pos hstate, modRail_modRail,
      modRail_congr (g := Rail.turnedOff) hoff.symm, if_neg Bool.false_ne_true]

theorem railOffEffect_eq (r : RailId) (s : State) : railOffEffect r s =
    if s.rails[r].state.leaves = true ∧ kindOfRail r = 0 then
      forceDependants (nestOfRail r) RailState.forcible (turnOff r s)
    else turnOff r s := by
  cases h : s.rails[r].state.leaves with
  | true => rw [railOffEffect_leaves h]; simp
  | false => rw [railOffEffect_idle h]; simp

theorem turnOff_onward (r : RailId) (s : State) : Onward s (turnOff r s) := by
  unfold turnOff
  dsimp only
  split
  · exact (modRail_onward ..).trans (railLost_onward ..)
  · exact modRail_onward ..

theorem turnOff_rails (r : RailId) (s : State) (j : RailId) :
    (turnOff r s).rails[j] = if j = r then s.rails[r].turnedOff else s.rails[j] := by
  have hrails : (turnOff r s).rails = (s.modRail r Rail.turnedOff).rails := by
    unfold turnOff
    dsimp only
    split
    · exact railLost_rails ..
    · rfl
  rw [hrails]
  exact modRail_get ..

theorem turnOff_lost {w : State} (h : s.rails[r].state.serving = true) (hw : Onward (turnOff r s) w) :
    ServiceLost r s w := by
  unfold turnOff at hw
  rw [if_pos h] at hw
  exact serviceLost_of_railLost (modRail_onward ..) hw
end

/-- What becomes of the rails of a nest when rail r is turned off. -/
structure TurnedOff (r : RailId) (s u : State) : Prop where
  self : u.rails[r] = s.rails[r].turnedOff
  others : ∀ q : RailId, (kindOfRail r = 0 → nestOfRail q ≠ nestOfRail r) → q ≠ r → u.rails[q] = s.rails[q]
  dependants : kindOfRail r = 0 → ∀ j : Fin 3, j ≠ 0 →
    u.rails[railOf (nestOfRail r) j] =
      if s.rails[r].state.leaves = true ∧ s.rails[railOf (nestOfRail r) j].state.forcible = true then
        dependantRail s.rails[railOf (nestOfRail r) j]
      else s.rails[railOf (nestOfRail r) j]
  lost : s.rails[r].state.serving = true → ServiceLost r s u
  dependantsLost : kindOfRail r = 0 → ∀ j : Fin 3, j ≠ 0 → s.rails[r].state.leaves = true →
    s.rails[railOf (nestOfRail r) j].state.forcible = true → DependantLost (railOf (nestOfRail r) j) s u
  beside : u.besideRails = s.besideRails

theorem railOffEffect_turnedOff (r : RailId) (s : State) : TurnedOff r s (railOffEffect r s) := by
  have hoff := turnOff_onward r s
  have hself : (turnOff r s).rails[r] = s.rails[r].turnedOff := by rw [turnOff_rails, if_pos rfl]
  have hrest : ∀ q : RailId, q ≠ r → (turnOff r s).rails[q] = s.rails[q] := fun q hq => by rw [turnOff_rails, if_neg hq]
  have hdep : kindOfRail r = 0 → ∀ k : Fin 3, k ≠ 0 → railOf (nestOfRail r) k ≠ r := fun hbatt k hk e => by
    have hr := railOf_kindOfRail r
    rw [hbatt] at hr
    exact hk (railOf_inj.1 (e.trans hr.symm))
  rw [railOffEffect_eq]
  by_cases hreach : s.rails[r].state.leaves = true ∧ kindOfRail r = 0
  · obtain ⟨hleaves, hbatt⟩ := hreach
    rw [if_pos ⟨hleaves, hbatt⟩]
    have hon := forceDependants_onward (nestOfRail r) RailState.forcible (turnOff r s)
    exact {
      self := (forceDependants_other _ _ _ fun k hk => (hdep hbatt k hk).symm).trans hself
      others := fun q hnest hq =>
        (forceDependants_other _ _ _ fun k _ e => hnest hbatt (by rw [e, nestOfRail_railOf])).trans (hrest q hq)
      dependants := fun _ j hj => by
        rw [forceDependants_dependant _ _ _ hj, hrest _ (hdep hbatt j hj)]
        exact if_congr ⟨fun h => ⟨hleaves, h⟩, fun h => h.2⟩ rfl rfl
      lost := fun h => turnOff_lost h hon
      dependantsLost := fun _ j hj _ hforcible => forceDependants_lost hj hoff (hrest _ (hdep hbatt j hj)) hforcible
      beside := (hoff.trans hon).beside }
  · rw [if_neg hreach]
    exact {
      self := hself
      others := fun q _ hq => hrest q hq
      dependants := fun hbatt j hj => by
        rw [if_neg fun h => hreach ⟨h.1, hbatt⟩]
        exact hrest _ (hdep hbatt j hj)
      lost := fun h => turnOff_lost h (.refl _)
      dependantsLost := fun hbatt _ _ hleaves => absurd ⟨hleaves, hbatt⟩ hreach
      beside := hoff.beside }

theorem actRailOff_accepted {r : RailId} {s : State} (opd : Nat) :
    actRailOff r.val opd s = .ok (railOffEffect r s) := by
  unfold actRailOff
  rw [onRail_val]

/-- Settles O27: RAIL_OFF turns the rail off, and where that reaches the dependants of BATT forces them off. -/
theorem railOffTakesARailOutOfService : Obligations.RailOffTakesARailOutOfService := by
  intro s k a r hcommand
  refine answers_of_refusal rfl actRailOff_bus hcommand nofun fun _ => ⟨_, actRailOff_accepted _, ?_⟩
  have hoff := railOffEffect_turnedOff r (writeAction a (clearHost s))
  generalize railOffEffect r (writeAction a (clearHost s)) = u at hoff ⊢
  obtain ⟨hself, hothers, hdependants, hlost, hdependantsLost, hbeside⟩ := hoff
  have hnests := nests_of_besideRails hbeside
  have hsupplies := supplies_of_besideRails hbeside
  have hinputs : u.inputs = s.inputs := congrArg (fun p => p.2.2.2.1) hbeside
  have hcapture : u.capture = s.capture := congrArg (fun p => p.2.2.2.2) hbeside
  refine ⟨hself, fun q hq => hothers q (fun _ => hq) fun e => hq (congrArg nestOfRail e), fun hbatt q hq =>
    hothers q (fun h => absurd h hbatt) hq, fun hbatt j hj => ?_, hlost, fun hbatt j hj hleft hforcible =>
      hdependantsLost hbatt j hj ((leaves_iff _).2 hleft) hforcible, hnests, hsupplies, hinputs, hcapture⟩
  exact (hdependants hbatt j hj).trans (if_congr (and_congr_left' (leaves_iff _)) rfl rfl)

end Sys2Proof.Machine
end

section
/-! CERTIFICATE. The statement on charge: RAIL_CHARGE_RESET and the crossing of a budget (R40, R41). -/
namespace Sys2Proof.Machine

open Stated

/-! ### RAIL_CHARGE_RESET (R41, R116) -/

theorem sourceRail_congr {s t : State} (h : t.path = s.path) (c : CheckId) : sourceRail t c = sourceRail s c := by
  have hword : checkWord t c 0 = checkWord s c 0 := by unfold checkWord; rw [cfg_congr h]
  unfold sourceRail sourceType sourceNumber
  simp only [hword]

/-- R41: check c measures the charge of rail r and is running. -/
def resetWith (s : State) (r : RailId) (c : CheckId) : Bool :=
  (s.checks[c].state == .delaying || s.checks[c].state == .sampling)
    && checkNest s c == nestOfRail r && checkKind s c == some .charge && sourceRail s c == some (kindOfRail r)

theorem resetWith_iff (s : State) (r : RailId) (c : CheckId) : resetWith s r c = true
    ↔ s.checks[c].running ∧ checkNest s c = nestOfRail r ∧ checkKind s c = some .charge
      ∧ sourceRail s c = some (kindOfRail r) := by
  unfold resetWith Check.running
  simp [and_assoc]

theorem resetWith_congr {s t : State} {c : CheckId} (hpath : t.path = s.path) (hc : t.checks[c] = s.checks[c])
    (r : RailId) : resetWith t r c = resetWith s r c := by
  unfold resetWith
  rw [hc, checkNest_congr hpath, checkKind_congr hpath, sourceRail_congr hpath]

/-- R116: the decision of a check whose charge is reset. -/
def resetDecision : Decision := { verdict := .sourceFault, detail := detailChargeReset }

/-- R41: one check at its turn. -/
def resetCheck (r : RailId) (s : State) (c : CheckId) (u : State) : State :=
  if resetWith s r c && resetWith u r c then decideCheck c resetDecision u else u

theorem checksChargeReset_eq (r : RailId) (s : State) :
    checksChargeReset r s = s.forEach allChecks (resetCheck r s) := rfl

theorem resetCheck_plant (r : RailId) (s : State) (c : CheckId) (u : State) : (resetCheck r s c u).plant = u.plant := by
  unfold resetCheck
  split
  · exact decideCheck_plant ..
  · rfl

theorem resetCheck_stands {r : RailId} {s : State} {c : CheckId} {v : Verdict} (e : CheckId) {u : State}
    (h : VerdictStands c v u) : VerdictStands c v (resetCheck r s e u) := by
  unfold resetCheck
  split
  · rename_i hreset
    refine verdictStands_decideFuel 64 h ?_
    rintro rfl
    have hrunning := ((resetWith_iff ..).1 (Bool.and_eq_true_iff.1 hreset).2).1
    rcases hrunning with hstate | hstate <;> rcases h.settled with hdone | hdone <;> rw [hstate] at hdone <;> cases hdone
  · exact h

/-- R41, R116: each running check that measures on the rail is decided. -/
theorem checksChargeReset_decides {r : RailId} {s : State} {c : CheckId} (h : resetWith s r c = true) :
    VerdictStands c (verdictOf s c resetDecision) (checksChargeReset r s) := by
  have hrunning := ((resetWith_iff ..).1 h).1
  rw [checksChargeReset_eq]
  refine forEach_turns (P := fun u => u.plant = s.plant ∧ u.checks[c] = s.checks[c]) (a := c)
    (fun e u hne hu => ⟨(resetCheck_plant ..).trans hu.1, ?_⟩) (fun u hu => ?_) (fun e u hu => resetCheck_stands e hu)
    (List.mem_finRange c) ⟨rfl, rfl⟩
  · obtain ⟨-, hc⟩ := hu
    unfold resetCheck
    split
    · rw [decideCheck_running hne _ (by rw [hc]; exact hrunning), hc]
    · exact hc
  · obtain ⟨hplant, hc⟩ := hu
    have hreset : resetCheck r s c u = decideCheck c resetDecision u := by
      unfold resetCheck
      rw [resetWith_congr (path_of_bench (bench_of_plant hplant)) hc, h]
      rfl
    rw [hreset, ← verdictOf_congr (besideRails_of_plant hplant) hc]
    exact decideCheck_stands ..

theorem actRailChargeReset_accepted {r : RailId} {s : State} (opd : Nat) : actRailChargeReset r.val opd s
    = .ok (checksChargeReset r (s.modRail r fun x => { x with charge := 0, residue := 0, crossed := false })) := by
  unfold actRailChargeReset
  rw [onRail_val]

/-! ### The crossing of a budget (R40) -/

/-- R40: the state in which rail r of state y, whose accumulator reaches its budget, is charged and reported. -/
def crossedBudget (r : RailId) (y : State) : State :=
  let x := y.rails[r].addCharge
  postEvent (evRailBudget r x.charge (chargeBudget y r)) (y.modRail r fun x => { x.addCharge with crossed := true })

theorem chargeRail_crosses {r : RailId} {y : State} (hclosed : railSwitchClosed y.rails[r].state = true)
    (hcrosses : y.rails[r].addCharge.crosses (chargeBudget y r) = true) :
    chargeRail r y = railTrigger r true (crossedBudget r y) := by
  have hget : (y.modRail r Rail.addCharge).rails[r] = y.rails[r].addCharge := (modRail_get ..).trans (if_pos rfl)
  have hbudget : chargeBudget (y.modRail r Rail.addCharge) r = chargeBudget y r := rfl
  unfold chargeRail crossedBudget
  dsimp only
  rw [if_pos hclosed, hget, hbudget, if_pos hcrosses, modRail_modRail]

/-- The charge step of a nest: the rails before rail k, rail k, and those after it. -/
theorem chargeNest_split (n : NestId) (k : Fin 3) (s : State) : chargeNest n s =
    (chargeRail (railOf n k) (s.forEach (allKinds.filter fun j => decide (j.val < k.val))
      fun j => chargeRail (railOf n j))).forEach (allKinds.filter fun j => decide (k.val < j.val))
        fun j => chargeRail (railOf n j) := by
  have hsplit : allKinds =
      (allKinds.filter fun j => decide (j.val < k.val)) ++ k :: allKinds.filter fun j => decide (k.val < j.val) := by
    revert k; decide
  unfold chargeNest
  conv_lhs => rw [hsplit]
  rw [forEach_append, forEach_cons]

/-- The charge of the rails before rail k leaves it. -/
theorem chargedBefore_rail (n : NestId) (k : Fin 3) (s : State) :
    (s.forEach (allKinds.filter fun j => decide (j.val < k.val)) fun j => chargeRail (railOf n j)).rails[railOf n k]
      = s.rails[railOf n k] := by
  refine forEach_others (p := fun u : State => u.rails[railOf n k]) (a := k) (fun j u hj => ?_) (by simp) s
  rw [chargeRail_get, if_neg fun h => hj (railOf_inj.1 h).symm]

theorem chargedBefore_bus (n : NestId) (k : Fin 3) (s : State) :
    (s.forEach (allKinds.filter fun j => decide (j.val < k.val)) fun j => chargeRail (railOf n j)).bus = s.bus :=
  forEach_bus (fun _ _ => chargeRail_bus ..) _ s

theorem crosses_iff (x : Rail) (budget : Nat) :
    x.crosses budget = true ↔ budget ≠ 0 ∧ x.crossed = false ∧ budget ≤ x.charge := by
  unfold Rail.crosses
  simp [and_assoc]

/-- R39: what the charge of a measured rail adds. -/
theorem addCharge_eq {x : Rail} {current : Nat} (h : x.current = current) : x.addCharge =
    { x with
      charge := min 4294967295 (x.charge + (x.residue + current) / 1000)
      residue := (x.residue + current) % 1000 } := by
  subst h
  rfl

/-- The state after a budget crossing, as its statement has it. -/
theorem crossedBudget_eq {r : RailId} {y : State} {current : Nat} (h : y.rails[r].current = current) :
    crossedBudget r y = { y with
      rails := y.rails.set r
        { y.rails[r] with
          charge := min 4294967295 (y.rails[r].charge + (y.rails[r].residue + current) / 1000)
          residue := (y.rails[r].residue + current) % 1000
          crossed := true }
      post := (crossedBudget r y).post } := by
  subst h
  unfold crossedBudget
  dsimp only
  rw [postEvent_eq]
  rfl

theorem crossedBudget_posted (r : RailId) (y : State) :
    Posted (evRailBudget r y.rails[r].addCharge.charge (chargeBudget y r)) y (crossedBudget r y) :=
  posted_of_room (posted_postEvent _ (y.modRail r fun x => { x.addCharge with crossed := true })) rfl rfl rfl rfl rfl

/-- The state at the charge of rail k in a nest sample. -/
def beforeCharge (n : NestId) (m : NestReading) (k : Fin 3) (s : State) : State :=
  (afterReadings n m s).forEach (allKinds.filter fun j => decide (j.val < k.val)) fun j => chargeRail (railOf n j)

theorem beforeCharge_rail {n : NestId} {k : Fin 3} {r : RailId} (hr : railOf n k = r) (m : NestReading) (s : State) :
    (beforeCharge n m k s).rails[r] = s.rails[r].measure m.rails[k] := by
  subst hr
  unfold beforeCharge afterReadings
  rw [chargedBefore_rail, readInputs_rails, measureNest_rail]

theorem beforeCharge_bus (n : NestId) (m : NestReading) (k : Fin 3) (s : State) :
    (beforeCharge n m k s).bus = s.bus := by
  unfold beforeCharge afterReadings
  rw [chargedBefore_bus, readInputs_bus, measureNest_bus]

/-- R40: the budget crossing of rail r is the nest sample with its charge. -/
theorem exec_budgetCrossing {r : RailId} {m : NestReading} {s : State} (h : budgetCrosses r m s = true) :
    exec (.budgetCrossing r m) s = .next (settle (handSeat (nestOfRail r) m
      ((superviseSupply (nestOfRail r) m.range m.temperature
        ((chargeRail r (beforeCharge (nestOfRail r) m (kindOfRail r) s)).forEach
          (allKinds.filter fun j => decide ((kindOfRail r).val < j.val)) fun j => chargeRail (railOf (nestOfRail r) j))).forEach
        allKinds (railTurn (nestOfRail r) m s)))) := by
  change Host.Outcome.next (sampleIf (budgetCrosses r m s) (nestOfRail r) m s) = _
  rw [h]
  change Host.Outcome.next (settle (handSeat (nestOfRail r) m (afterRails (nestOfRail r) m s))) = _
  rw [afterRails_eq]
  unfold afterCharge
  rw [chargeNest_split _ (kindOfRail r), railOf_kindOfRail]
  rfl

/-- Settles O28: the checks that measure the charge are decided at their turn; the charge step that reaches the budget
stands in the sample with what follows it. -/
theorem chargeIsResetAndCrossesItsBudget : Obligations.ChargeIsResetAndCrossesItsBudget := by
  refine ⟨fun s k a r hcommand => ?_, fun r m s hcrosses => ?_⟩
  · refine answers_of_refusal rfl actRailChargeReset_bus hcommand nofun fun _ => ⟨_, actRailChargeReset_accepted _, ?_⟩
    generalize hz : (writeAction a (clearHost s)).modRail r
      (fun x => { x with charge := 0, residue := 0, crossed := false }) = z
    have hdecides : ∀ c, resetWith z r c = true → VerdictStands c (verdictOf z c resetDecision) (checksChargeReset r z) :=
      fun c h => checksChargeReset_decides h
    have hplant := samePlant_of_plant (checksChargeReset_plant r z)
    have hstimulus := sameStimulus_of_bench (bench_of_plant (checksChargeReset_plant r z))
    generalize checksChargeReset r z = u at *
    obtain ⟨hnests, hsupplies, hrails, hinputs⟩ := hplant
    subst hz
    exact ⟨hrails, fun c hrunning hnest hkind hsource => hdecides c ((resetWith_iff ..).2 ⟨hrunning, hnest, hkind, hsource⟩),
      hnests, hsupplies, hinputs, hstimulus⟩
  · obtain ⟨hclosed, hcharged⟩ := Bool.and_eq_true_iff.1 hcrosses
    obtain ⟨hbudget, hcrossed, hreached⟩ := (crosses_iff ..).1 hcharged
    have hexec := exec_budgetCrossing hcrosses
    have hrail := beforeCharge_rail (railOf_kindOfRail r) m s
    have hpath : (beforeCharge (nestOfRail r) m (kindOfRail r) s).path = s.path := path_of_bus (beforeCharge_bus ..)
    have hbefore : (readInputs (nestOfRail r) m.lines (measureNest (nestOfRail r) m s)).forEach
        (allKinds.filter fun j => decide (j.val < (kindOfRail r).val)) (fun j => chargeRail (railOf (nestOfRail r) j))
      = beforeCharge (nestOfRail r) m (kindOfRail r) s := rfl
    dsimp only
    rw [hbefore]
    clear hbefore
    generalize beforeCharge (nestOfRail r) m (kindOfRail r) s = y at *
    have hybudget : chargeBudget y r = chargeBudget s r := chargeBudget_congr hpath r
    have hcurrent : y.rails[r].current = m.rails[kindOfRail r].current := by
      rw [hrail]
      exact if_pos hclosed
    have hyclosed : railSwitchClosed y.rails[r].state = true := by
      rw [hrail]
      exact hclosed
    have hycrosses : y.rails[r].addCharge.crosses (chargeBudget y r) = true := by
      rw [hrail, hybudget]
      exact hcharged
    have hcharge : min 4294967295 (y.rails[r].charge + (y.rails[r].residue + m.rails[kindOfRail r].current) / 1000)
        = y.rails[r].addCharge.charge := by rw [addCharge_eq hcurrent]
    rw [chargeRail_crosses hyclosed hycrosses, railTrigger_started, crossedBudget_eq hcurrent] at hexec
    have hposted := crossedBudget_posted r y
    rw [crossedBudget_eq hcurrent, ← hcharge, hybudget] at hposted
    refine ⟨hclosed, hcrossed, hbudget, ?_, ?_, ?_, _, hposted, hexec⟩
    · rw [hrail]; rfl
    · rw [hrail]; rfl
    · rw [hcharge, hrail]
      exact hreached

end Sys2Proof.Machine
end

section
/-! CERTIFICATE. The statements on the track actions and on the fetch of an entry (R46, R49, R51, R52, R61 to R63). -/
namespace Sys2Proof.Machine

open Stated

/-! ### The tests of TRACK_LAUNCH (R49) -/

theorem railsReady_iff (s : State) (t : TrackId) : (!railsReady s t) = true ↔
    ∃ j : Fin 3, requiresRail s t j = true ∧ s.rails[railOf (trackNest s t) j].state ≠ .on
      ∧ s.rails[railOf (trackNest s t) j].state ≠ .limiting := by
  have hkinds : allKinds = List.finRange 3 := rfl
  simp [railsReady, inService, hkinds]

theorem bufferPlaced_iff (s : State) (t : TrackId) : (!bufferPlaced s t) = true ↔
    16777216 < bufferBase s t + 16 * bufferSize s t
      ∨ (16384 * s.path.base.toNat < bufferBase s t + 16 * bufferSize s t
          ∧ bufferBase s t < 16384 * s.path.base.toNat + 16384) := by
  have hsize : memorySize = 16777216 := rfl
  simp only [bufferPlaced, Bool.not_eq_true', Bool.and_eq_false_iff, Bool.or_eq_false_iff, decide_eq_false_iff_not,
    Nat.not_le, hsize]

theorem launchRefusal_eq (s : State) (t : TrackId) : launchRefusal s t =
    if s.tracks[t].state.active then some .busy
    else if s.nests[trackNest s t].state ≠ .opened then some .notOpen
    else if ∃ j : Fin 3, requiresRail s t j = true ∧ s.rails[railOf (trackNest s t) j].state ≠ .on
        ∧ s.rails[railOf (trackNest s t) j].state ≠ .limiting then some .dependency
    else if sizeCode s t ≤ 8 ∧ bufferBase s t % (16 * bufferSize s t) ≠ 0 then some .misaligned
    else if 8 < sizeCode s t ∨ bufferSize s t ≤ startIndex s t ∨ entryCount s t = 0 ∨ 2 < underrunPolicy s t
        ∨ 16777216 < bufferBase s t + 16 * bufferSize s t
        ∨ (16384 * s.path.base.toNat < bufferBase s t + 16 * bufferSize s t
            ∧ bufferBase s t < 16384 * s.path.base.toNat + 16384) then some .badRange
    else if claimConflict s t then some .conflict
    else none := by
  unfold launchRefusal
  simp only [railsReady_iff, bufferPlaced_iff]

/-- R49 test 5: a track that may be launched has entries to play. -/
theorem entryCount_of_launchable {s : State} {t : TrackId} (h : launchRefusal s t = none) : entryCount s t ≠ 0 := by
  intro hzero
  revert h
  unfold launchRefusal
  simp only [hzero, true_or, or_true, if_true]
  split
  · exact nofun
  split
  · exact nofun
  split
  · exact nofun
  split <;> exact nofun

/-! ### The claims that a launch takes (R46) -/

/-- One output of the loop over the claim set. -/
def takeIfClaimed (t : TrackId) (n : NestId) (o : Fin 16) (s : State) : State :=
  if claimsOutput s t o then s.setClaims (s.claims.set (claimOf n o) (some t)) else s

/-- Every block but the claims of outputs. -/
def State.besideOutputClaims (s : State) :=
  (s.besideTracks, s.tracks, s.outputs, s.frameHolders, s.ports, s.post)

theorem takeIfClaimed_besideOutputClaims (t : TrackId) (n : NestId) (o : Fin 16) (s : State) :
    (takeIfClaimed t n o s).besideOutputClaims = s.besideOutputClaims := by
  unfold takeIfClaimed
  split <;> rfl

theorem claimOf_inj {m n : NestId} {i j : Fin 16} : claimOf m i = claimOf n j ↔ m = n ∧ i = j := by
  simp only [claimOf, Fin.ext_iff]
  omega

theorem setClaims_get (s : State) (i j : Fin 32) (x : Option TrackId) :
    (s.setClaims (s.claims.set i x)).claims[j] = if j = i then x else s.claims[j] := by
  simp only [setClaims_claims, Fin.getElem_fin, Vector.getElem_set, ← Fin.ext_iff, eq_comm]

/-- What the claim set of track t makes of a claim on output o of its nest. -/
def claimTaken (t : TrackId) (s : State) (o : Fin 16) (x : Option TrackId) : Option TrackId :=
  if claimsOutput s t o then some t else x

theorem claimTaken_takeIfClaimed (t : TrackId) (n : NestId) (o : Fin 16) (s : State) :
    claimTaken t (takeIfClaimed t n o s) = claimTaken t s := by
  unfold takeIfClaimed
  split <;> rfl

theorem takeIfClaimed_get (t : TrackId) (n j : NestId) (o i : Fin 16) (s : State) :
    (takeIfClaimed t n o s).claims[claimOf j i] =
      if j = n ∧ i = o then claimTaken t s o s.claims[claimOf n o] else s.claims[claimOf j i] := by
  unfold takeIfClaimed claimTaken
  by_cases hclaims : claimsOutput s t o = true
  · rw [if_pos hclaims, setClaims_get, if_pos hclaims]
    simp only [claimOf_inj]
  · rw [if_neg hclaims, if_neg hclaims]
    split
    · next h => rw [h.1, h.2]
    · rfl

/-- The claims of the claim set are taken. -/
def outputsTaken (t : TrackId) (s : State) : State :=
  s.forEach (List.finRange 16) (takeIfClaimed t (trackNest s t))

theorem outputsTaken_besideOutputClaims (t : TrackId) (s : State) :
    (outputsTaken t s).besideOutputClaims = s.besideOutputClaims :=
  forEach_keeps State.besideOutputClaims _ (takeIfClaimed_besideOutputClaims t _) _ s

theorem outputsTaken_claims (t : TrackId) (s : State) (j : NestId) (o : Fin 16) :
    (outputsTaken t s).claims[claimOf j o] =
      if j = trackNest s t ∧ claimsOutput s t o = true then some t else s.claims[claimOf j o] := by
  unfold outputsTaken
  generalize trackNest s t = n
  by_cases hj : j = n
  · subst hj
    refine (forEach_table_under (t := fun s (i : Fin 16) => s.claims[claimOf j i]) (p := claimTaken t)
      (f := fun g => g) (fun i s => claimTaken_takeIfClaimed t j i s)
      (fun i s k => by simp only [takeIfClaimed_get, true_and]) _ (List.nodup_finRange 16) s o).trans ?_
    rw [if_pos (List.mem_finRange o)]
    simp only [claimTaken, true_and]
  · rw [if_neg fun h => hj h.1]
    exact forEach_keeps (fun s : State => s.claims[claimOf j o]) _
      (fun i s => (takeIfClaimed_get t n j i o s).trans (if_neg fun h => hj h.1)) _ s

theorem takeClaims_eq (t : TrackId) (s : State) : takeClaims t s =
    if claimsFrames (outputsTaken t s) t then (outputsTaken t s).modHolders (trackNest s t) fun v => v.set t true
    else outputsTaken t s := rfl

/-- Every block but the claims. -/
def State.besideAllClaims (s : State) := (s.besideTracks, s.tracks, s.outputs, s.ports, s.post)

theorem besideAllClaims_of_outputClaims {s t : State} (h : s.besideOutputClaims = t.besideOutputClaims) :
    s.besideAllClaims = t.besideAllClaims := congrArg (fun p => (p.1, p.2.1, p.2.2.1, p.2.2.2.2.1, p.2.2.2.2.2)) h

theorem takeClaims_besideAllClaims (t : TrackId) (s : State) :
    (takeClaims t s).besideAllClaims = s.besideAllClaims := by
  have h := besideAllClaims_of_outputClaims (outputsTaken_besideOutputClaims t s)
  rw [takeClaims_eq]
  split
  · exact h
  · exact h

theorem takeClaims_claims (t : TrackId) (s : State) (j : NestId) (o : Fin 16) :
    (takeClaims t s).claims[claimOf j o] =
      if j = trackNest s t ∧ claimsOutput s t o = true then some t else s.claims[claimOf j o] := by
  rw [← outputsTaken_claims, takeClaims_eq]
  split <;> rfl

theorem outputsTaken_frames (t : TrackId) (s : State) : (outputsTaken t s).frameHolders = s.frameHolders
    ∧ claimsFrames (outputsTaken t s) t = claimsFrames s t := by
  have h := outputsTaken_besideOutputClaims t s
  simp only [State.besideOutputClaims, State.besideTracks, State.bus, Prod.mk.injEq] at h
  obtain ⟨⟨⟨-, -, hpath⟩, -⟩, -, -, hholders, -⟩ := h
  exact ⟨hholders, by unfold claimsFrames trackWord cfg; rw [hpath]⟩

theorem takeClaims_frameHolders (t : TrackId) (s : State) (j : NestId) (i : TrackId) :
    (takeClaims t s).frameHolders[j][i] =
      if j = trackNest s t ∧ i = t ∧ claimsFrames s t = true then true else s.frameHolders[j][i] := by
  obtain ⟨hholders, hframes⟩ := outputsTaken_frames t s
  rw [takeClaims_eq, hframes]
  by_cases hclaims : claimsFrames s t = true
  · rw [if_pos hclaims, modHolders_get, hholders]
    by_cases hj : j = trackNest s t
    · rw [if_pos hj]
      simp only [Fin.getElem_fin, Vector.getElem_set, ← Fin.ext_iff, eq_comm, hj, hclaims, true_and, and_true]
    · rw [if_neg hj, if_neg fun h => hj h.1]
  · rw [if_neg hclaims, hholders, if_neg fun h => hclaims h.2.2]

/-! ### The launch (R49) -/

theorem actTrackLaunch_refused {t : TrackId} {s : State} {e : Reason} (h : launchRefusal s t = some e) (opd : Nat) :
    actTrackLaunch t.val opd s = .error e := by
  unfold actTrackLaunch
  rw [onTrack_val, h]

/-- R49: the record of a track as its launch leaves it, before its fetch request is renewed. -/
def Track.launched (x : Track) (total first : Nat) : Track :=
  { x with
    state := .priming
    cause := .none
    launch := x.launch + 1
    total := total
    played := 0
    fetched := 0
    fetchIndex := first
    held := []
    interval := 0
    starved := false
    stalled := false
    underrunReported := false
    gap := none
    underruns := 0
    lateness := 0
    dropped := 0 }

/-- R51: a launched track with entries to play requests its first fetch. -/
theorem Track.renew_launched (x : Track) {total : Nat} (first : Nat) (h : total ≠ 0) :
    (x.launched total first).renew = { x.launched total first with request := true } := by
  have htotal : 0 < total := Nat.pos_of_ne_zero h
  simp [Track.renew, Track.launched, TrackState.active, Config.prefetchPlaces, htotal]

theorem launchTrack_eq (t : TrackId) (s : State) : launchTrack t s =
    offerTrack t (changeTrack t (fun x => x.launched (entryCount s t) (startIndex s t)) (takeClaims t s)) := rfl

/-- R46, R49: track t of state s has been launched. -/
structure Launched (t : TrackId) (s u : State) : Prop where
  tracks : u.tracks = s.tracks.set t { s.tracks[t].launched (entryCount s t) (startIndex s t) with request := true }
  claims : ∀ (j : NestId) (o : Fin 16), u.claims[claimOf j o] =
    if j = trackNest s t ∧ claimsOutput s t o = true then some t else s.claims[claimOf j o]
  frames : ∀ (j : NestId) (i : TrackId), u.frameHolders[j][i] =
    if j = trackNest s t ∧ i = t ∧ claimsFrames s t = true then true else s.frameHolders[j][i]
  outputs : u.outputs = s.outputs
  ports : u.ports = s.ports
  capture : u.capture = s.capture
  plant : SamePlant s u
  checks : SameChecks s u
  posted : NothingPosted s u

theorem launchTrack_launched {t : TrackId} {s : State} (hcount : entryCount s t ≠ 0) :
    Launched t s (launchTrack t s) := by
  have hclaims := takeClaims_claims t s
  have hframes := takeClaims_frameHolders t s
  have h := takeClaims_besideAllClaims t s
  rw [launchTrack_eq]
  generalize takeClaims t s = u at *
  simp only [State.besideAllClaims, State.besideTracks, Prod.mk.injEq] at h
  obtain ⟨⟨-, hnests, hsupplies, hrails, hcapture, hinputs, hchecks⟩, htracks, houtputs, hports, hpost⟩ := h
  refine ⟨?_, hclaims, hframes, houtputs, hports, hcapture, ⟨hnests, hsupplies, hrails, hinputs⟩, hchecks,
    (congrArg Post.fifo hpost : u.post.fifo = s.post.fifo), (congrArg Post.lost hpost : u.post.lost = s.post.lost)⟩
  rw [offerTrack_tracks]
  unfold changeTrack
  rw [modTrack_tracks, htracks, Track.renew_launched _ _ hcount]

theorem actTrackLaunch_accepted {t : TrackId} {s : State} (h : launchRefusal s t = none) (opd : Nat) :
    ∃ u, actTrackLaunch t.val opd s = .ok u ∧ Launched t s u := by
  refine ⟨launchTrack t s, ?_, launchTrack_launched (entryCount_of_launchable h)⟩
  unfold actTrackLaunch
  rw [onTrack_val, h]

/-- R164: the tests do not look at the action word. -/
theorem launchRefusal_written (s : State) (a : HostAccess) (t : TrackId) :
    launchRefusal (writeAction a (clearHost s)) t = launchRefusal s t := rfl

/-- Settles O31: the refusals are those of the tests in order; an accepted launch takes the claims of the claim set and
starts the counts of the track. -/
theorem launchTestsInOrderAndPrimes : Obligations.LaunchTestsInOrderAndPrimes := by
  intro s k a t hcommand
  have hrefusal := (launchRefusal_written s a t).trans (launchRefusal_eq s t)
  refine answers_of_refusal rfl actTrackLaunch_bus hcommand
    (fun e he => actTrackLaunch_refused (hrefusal.trans he) _) fun hnone => ?_
  obtain ⟨u, hact, htracks, hclaims, hframes, houtputs, hports, hcapture, hplant, hchecks, hposted⟩ :=
    actTrackLaunch_accepted (hrefusal.trans hnone) (wordOperand a.data)
  exact ⟨u, hact, htracks, hclaims, hframes, houtputs, hports, hcapture, hplant, hchecks, hposted⟩

end Sys2Proof.Machine
end

section
/-! CERTIFICATE. The statements on the suspension and the resumption of a track and on the fetch of an entry, with the
underrun test that both may meet and the fault of a track (R51, R52, R55, R61 to R63). -/
namespace Sys2Proof.Machine

open Stated

/-! ### The fault of a track (R55, R61) -/

/-- The state of a fault before its event: claims are released, the track is off the stall lists. -/
def faultReleased (idles : Bool) (t : TrackId) (s : State) : State :=
  if idles then released t s else unstall t (releaseClaims t s)

/-- R55, R61: the record of a track that faults. -/
def Track.faulted (x : Track) (c : TrackCause) : Track :=
  { x with state := .faulted, cause := c, held := [], stalled := false, request := false }

theorem Track.renew_faulted (x : Track) (c : TrackCause) :
    Track.renew { x with state := .faulted, cause := c, held := [], stalled := false } = x.faulted c := rfl

section
variable (c : TrackCause) (d : EntryDetail) (index target : Nat) (idles : Bool) (t : TrackId) (s : State)

theorem faultTrack_eq : faultTrack c d index target idles t s =
    let u := (faultReleased idles t s).modTrack t fun x => x.faulted c
    offerTrack t (postEvent (evTrackFaulted (trackNest u t) t c d index u.tracks[t].played target) u) := by
  cases idles <;> rfl

theorem faultReleased_besideClaims : (faultReleased idles t s).besideClaims = s.besideClaims := by
  cases idles with
  | true => exact released_besideClaims t s
  | false => exact (unstall_besideClaims t _).trans (releaseClaims_besideClaims t s)

theorem faultReleased_claimsReleased : ClaimsReleased t s (faultReleased idles t s) := by
  cases idles with
  | true => exact released_claimsReleased t s
  | false =>
    have h := unstall_outputSide t (releaseClaims t s)
    simp only [State.outputSide, Prod.mk.injEq] at h
    obtain ⟨-, hclaims, hholders⟩ := h
    unfold ClaimsReleased faultReleased
    simp only [Bool.false_eq_true, if_false, hclaims, hholders]
    exact ⟨releaseClaims_claims t s, releaseClaims_frameHolders t s⟩

theorem faultReleased_outputs : (faultReleased false t s).outputs = s.outputs :=
  (Prod.mk.inj (unstall_outputSide t _)).1.trans (Prod.mk.inj (releaseClaims_outputs_ports t _)).1

theorem faultReleased_ports (p : NestId) : (faultReleased idles t s).ports[p] =
    { s.ports[p] with stall := s.ports[p].stall.filter fun j => j != t } := by
  cases idles with
  | true => exact released_ports t s p
  | false =>
    unfold faultReleased
    rw [if_neg Bool.false_ne_true, unstall_ports, (Prod.mk.inj (releaseClaims_outputs_ports t _)).2]

/-- R55, R61: track t of state s has faulted. -/
structure TrackFaulted (c : TrackCause) (d : EntryDetail) (index target : Nat) (idles : Bool) (t : TrackId)
    (s u : State) : Prop where
  tracks : u.tracks = s.tracks.set t (s.tracks[t].faulted c)
  claims : ClaimsReleased t s u
  idled : idles = true → ClaimedIdle t s u
  kept : idles = false → u.outputs = s.outputs
  ports : ∀ p : NestId, u.ports[p] = { s.ports[p] with stall := s.ports[p].stall.filter fun j => j != t }
  event : Posted (evTrackFaulted (trackNest s t) t c d index s.tracks[t].played target) s u
  beside : u.besideTracks = s.besideTracks

theorem faultTrack_faulted :
    TrackFaulted c d index target idles t s (faultTrack c d index target idles t s) := by
  have hkept := faultReleased_besideClaims idles t s
  have hclaims := faultReleased_claimsReleased idles t s
  have hports := faultReleased_ports idles t s
  have hidled (h : idles = true) : ClaimedIdle t s (faultReleased idles t s) := by
    subst h; exact released_claimedIdle t s
  have houtputs (h : idles = false) : (faultReleased idles t s).outputs = s.outputs := by
    subst h; exact faultReleased_outputs t s
  rw [faultTrack_eq]
  generalize faultReleased idles t s = r at *
  have hbeside := besideTracks_of_claims hkept
  have hpath := path_of_besideRails (besideRails_of_tracks hbeside)
  have hnests := nests_of_besideRails (besideRails_of_tracks hbeside)
  have htracks := tracks_of_claims hkept
  have hpost := post_of_claims hkept
  dsimp only
  rw [modTrack_get, if_pos rfl, htracks, trackNest_congr ((modTrack_path r t _).trans hpath)]
  have hposted := posted_congr (posted_postEvent (evTrackFaulted (trackNest s t) t c d index s.tracks[t].played target)
    (r.modTrack t fun x => x.faulted c)) hpost.symm hpath.symm hnests.symm
  generalize hv : postEvent (evTrackFaulted (trackNest s t) t c d index (s.tracks[t].faulted c).played target)
    (r.modTrack t fun x => x.faulted c) = v
  have hv' := postEvent_eq (evTrackFaulted (trackNest s t) t c d index (s.tracks[t].faulted c).played target)
    (r.modTrack t fun x => x.faulted c)
  rw [hv] at hv'
  have hposted' : Posted (evTrackFaulted (trackNest s t) t c d index s.tracks[t].played target) s v := hv ▸ hposted
  obtain ⟨q, rfl⟩ : ∃ q, v = { r.modTrack t (fun x => x.faulted c) with post := q } := ⟨_, hv'⟩
  refine ⟨?_, hclaims, hidled, houtputs, hports, posted_offer hposted' .., hbeside⟩
  rw [← htracks]
  rfl

end

/-! ### The underrun test (R61) -/

/-- R61: the track has left starvation. -/
def fed (t : TrackId) (s : State) : State := changeTrack t (fun x => { x with starved := false }) s

/-- R61, HOLD: the underrun is counted. -/
def underrunCounted (t : TrackId) (v : State) : State :=
  changeTrack t (fun x => { x with underruns := satAdd 255 x.underruns 1, underrunReported := true }) v

/-- R61, HOLD: the first underrun of a launch is reported. -/
def underrunReport (t : TrackId) (e : Entry) (v : State) : State :=
  if v.tracks[t].underrunReported then underrunCounted t v
  else postEvent (evTrackUnderrun (trackNest v t) t v.tracks[t].played (v.tracks[t].interval - e.required))
    (underrunCounted t v)

theorem underrunReport_posts (t : TrackId) (e : Entry) (v : State) :
    ∃ q : Post, underrunReport t e v = { underrunCounted t v with post := q }
      ∧ (v.tracks[t].underrunReported = true → q = v.post)
      ∧ (v.tracks[t].underrunReported = false →
          Posted (evTrackUnderrun (trackNest v t) t v.tracks[t].played (v.tracks[t].interval - e.required)) v
            (underrunReport t e v)) := by
  unfold underrunReport
  cases hreported : v.tracks[t].underrunReported with
  | true => exact ⟨v.post, rfl, fun _ => rfl, nofun⟩
  | false =>
    refine ⟨_, postEvent_eq _ _, nofun, fun _ => ?_⟩
    exact posted_congr (posted_postEvent _ (underrunCounted t v)) rfl rfl rfl

theorem fed_interval (t : TrackId) (s : State) : (fed t s).tracks[t].interval = s.tracks[t].interval := by
  unfold fed
  rw [changeTrack_self]
  rfl

section
variable {t : TrackId} {e : Entry} {rest : List Entry} {s : State} (h : s.tracks[t].held = e :: rest)
include h

/-- R61: a head in time is left to fall due; a late one is handled as due under HOLD, and else the track faults. -/
theorem underrunTest_eq : underrunTest t s =
    if s.tracks[t].interval ≤ e.required then fed t s
    else if underrunPolicy (fed t s) t = 0 then handleDue t (offerTrack t (underrunReport t e (fed t s)))
    else faultTrack .underrun .none e.index 0 (underrunPolicy (fed t s) t == 1) t (fed t s) := by
  rw [← fed_interval]
  unfold underrunTest
  rw [h]
  rfl

theorem underrunTest_underrun (hlate : e.required < s.tracks[t].interval) :
    Underrun t e (fed t s).tracks[t] (fed t s) (underrunTest t s) := by
  rw [underrunTest_eq h, if_neg (Nat.not_le.2 hlate)]
  generalize fed t s = v
  refine ⟨fun hhold => ?_, fun hfaults => ?_⟩
  · obtain ⟨q, hq, hreported, hposted⟩ := underrunReport_posts t e v
    rw [if_pos hhold]
    generalize underrunReport t e v = w at *
    subst hq
    refine ⟨(offerTrack t { underrunCounted t v with post := q }).post, rfl, fun hr => ?_, hposted⟩
    have hpost := hreported hr
    exact ⟨(congrArg Post.fifo hpost : q.fifo = v.post.fifo), (congrArg Post.lost hpost : q.lost = v.post.lost)⟩
  · rw [if_neg hfaults]
    obtain ⟨htracks, ⟨hclaims, -⟩, hidled, hkept, -, hevent, hbeside⟩ :=
      faultTrack_faulted .underrun .none e.index 0 (underrunPolicy v t == 1) t v
    generalize faultTrack .underrun .none e.index 0 (underrunPolicy v t == 1) t v = u at *
    simp only [State.besideTracks, Prod.mk.injEq] at hbeside
    obtain ⟨-, hnests, hsupplies, hrails, -, hinputs, hchecks⟩ := hbeside
    refine ⟨?_, fun j hj => ?_, ⟨hnests, hsupplies, hrails, hinputs⟩, hchecks, hclaims,
      fun hsafe => hidled (beq_iff_eq.2 hsafe), fun hstop => hkept (beq_eq_false_iff_ne.2 hstop), hevent⟩
    · rw [htracks]
      simp [Track.renew_faulted]
    · rw [htracks]
      simp [Fin.val_ne_of_ne hj.symm]

end

/-! ### What a change of a track and an offer of its status leave -/

theorem same_of_besideStatus {s u : State} (h : u.besideStatus = s.besideStatus) :
    u.outputs = s.outputs ∧ u.claims = s.claims ∧ u.frameHolders = s.frameHolders ∧ u.ports = s.ports
      ∧ u.capture = s.capture ∧ u.path = s.path ∧ SamePlant s u ∧ SameChecks s u ∧ NothingPosted s u := by
  simp only [State.besideStatus, State.besideTracks, State.bus, Prod.mk.injEq] at h
  obtain ⟨⟨⟨-, -, hpath⟩, hnests, hsupplies, hrails, hcapture, hinputs, hchecks⟩, houtputs, hclaims, hholders, hports,
    hposted⟩ := h
  exact ⟨houtputs, hclaims, hholders, hports, hcapture, hpath, ⟨hnests, hsupplies, hrails, hinputs⟩, hchecks, hposted⟩

theorem set_self_track (t : TrackId) (s : State) : s.tracks.set t s.tracks[t] = s.tracks :=
  Vector.set_getElem_self t.isLt

/-! ### TRACK_SUSPEND (R62) -/

/-- R62: what TRACK_SUSPEND answers to a track in a state. -/
def suspendRefusal (x : TrackState) : Option Reason :=
  if x = .running ∨ x = .suspending ∨ x = .suspended then none
  else if x = .priming then some .busy
  else some .wrongState

/-- R62: the record of a track that TRACK_SUSPEND is accepted for. -/
def Track.suspendedBy (x : Track) : Track :=
  if x.state = .running then Track.renew { x with state := if x.stalled then .suspending else .suspended } else x

section
variable {t : TrackId} {s : State}

theorem actTrackSuspend_refused {e : Reason} (h : suspendRefusal s.tracks[t].state = some e) (opd : Nat) :
    actTrackSuspend t.val opd s = .error e := by
  unfold actTrackSuspend
  rw [onTrack_val]
  obtain ⟨x, hx⟩ : ∃ x, s.tracks[t].state = x := ⟨_, rfl⟩
  simp only [hx] at h ⊢
  cases x with
  | running | suspending | suspended => cases h
  | priming | idle | done | halted | faulted => cases h; rfl

theorem actTrackSuspend_accepted (h : suspendRefusal s.tracks[t].state = none) (opd : Nat) :
    ∃ u, actTrackSuspend t.val opd s = .ok u ∧ u.tracks = s.tracks.set t s.tracks[t].suspendedBy
      ∧ u.besideStatus = s.besideStatus := by
  unfold actTrackSuspend Track.suspendedBy
  rw [onTrack_val]
  obtain ⟨x, hx⟩ : ∃ x, s.tracks[t].state = x := ⟨_, rfl⟩
  simp only [hx] at h ⊢
  cases x with
  | running => exact ⟨_, rfl, rfl, rfl⟩
  | suspending | suspended => exact ⟨s, rfl, (set_self_track t s).symm, rfl⟩
  | priming | idle | done | halted | faulted => cases h
end

/-! ### TRACK_RESUME (R63) -/

/-- R63: what TRACK_RESUME answers to a track in a state. -/
def resumeRefusal (x : TrackState) : Option Reason :=
  if x = .running ∨ x = .suspending ∨ x = .suspended then none else some .wrongState

/-- R63: the record of a SUSPENDED track that goes on, before its fetch request is renewed. -/
def Track.resumed (x : Track) : Track :=
  { x with state := .running, starved := x.starved || (x.held.isEmpty && decide (x.played < x.total)) }

/-- R63: a SUSPENDED track is RUNNING again, before the underrun test. -/
def resumed (t : TrackId) (s : State) : State := offerTrack t (changeTrack t Track.resumed s)

theorem resumed_track (t : TrackId) (s : State) : (resumed t s).tracks[t] = s.tracks[t].resumed.renew :=
  changeTrack_self t Track.resumed s

theorem resumeTrack_eq (t : TrackId) (s : State) :
    resumeTrack t s = if s.tracks[t].resumed.starved then underrunTest t (resumed t s) else resumed t s := by
  have hstarved : (resumed t s).tracks[t].starved = s.tracks[t].resumed.starved := by rw [resumed_track]; rfl
  rw [← hstarved]
  rfl

/-- R61, R63: a resumed track that leaves starvation at once. -/
theorem fed_resumed_tracks (t : TrackId) (s : State) : (fed t (resumed t s)).tracks =
    s.tracks.set t (Track.renew { s.tracks[t] with state := .running, starved := false }) := by
  have h := changeTrack_changeTrack (t := t) (f := Track.resumed) (g := fun x => { x with starved := false })
    (fun _ => rfl) s
  exact congrArg State.tracks h

section
variable {t : TrackId} {s : State}

theorem underrunTest_of_empty (h : s.tracks[t].held = []) : underrunTest t s = s := by
  unfold underrunTest
  rw [h]

/-- R63: nothing held, a resumed track is starved where entries remain. -/
theorem resumeTrack_of_empty (h : s.tracks[t].held = []) : resumeTrack t s = resumed t s := by
  have hheld : (resumed t s).tracks[t].held = [] := by rw [resumed_track]; exact h
  rw [resumeTrack_eq, underrunTest_of_empty hheld, ite_self]

theorem Track.resumed_of_held {x : Track} (h : x.held ≠ []) : x.resumed = { x with state := .running } := by
  unfold Track.resumed
  rw [List.isEmpty_eq_false_iff.2 h, Bool.false_and, Bool.or_false]

theorem Track.resumed_of_empty {x : Track} (h : x.held = []) :
    x.resumed = { x with state := .running, starved := x.starved || decide (x.played < x.total) } := by
  unfold Track.resumed
  rw [List.isEmpty_iff.2 h, Bool.true_and]

theorem resumeTrack_of_fed (hfed : s.tracks[t].starved = false) (h : s.tracks[t].held ≠ []) :
    resumeTrack t s = resumed t s := by
  rw [resumeTrack_eq, Track.resumed_of_held h, if_neg (Bool.eq_false_iff.1 hfed)]

theorem resumeTrack_of_starved (hstarved : s.tracks[t].starved = true) (h : s.tracks[t].held ≠ []) :
    resumeTrack t s = underrunTest t (resumed t s) := by
  rw [resumeTrack_eq, Track.resumed_of_held h, if_pos hstarved]
end

/-- R61, R63: track t, in state s, has been resumed. -/
structure Resumed (t : TrackId) (s u : State) : Prop where
  running : s.tracks[t].state = .running → u.tracks = s.tracks
  suspending : s.tracks[t].state = .suspending →
    u.tracks = s.tracks.set t (Track.renew { s.tracks[t] with state := .running })
  empty : s.tracks[t].state = .suspended → s.tracks[t].held = [] → u.tracks = s.tracks.set t (Track.renew
    { s.tracks[t] with
      state := .running
      starved := s.tracks[t].starved || decide (s.tracks[t].played < s.tracks[t].total) })
  fed : s.tracks[t].state = .suspended → s.tracks[t].starved = false → s.tracks[t].held ≠ [] →
    u.tracks = s.tracks.set t (Track.renew { s.tracks[t] with state := .running })
  intime : ∀ e rest, s.tracks[t].state = .suspended → s.tracks[t].starved = true → s.tracks[t].held = e :: rest →
    s.tracks[t].interval ≤ e.required →
    u.tracks = s.tracks.set t (Track.renew { s.tracks[t] with state := .running, starved := false })
  late : ∀ e rest, s.tracks[t].state = .suspended → s.tracks[t].starved = true → s.tracks[t].held = e :: rest →
    e.required < s.tracks[t].interval →
    ∃ v, v.besideStatus = s.besideStatus
      ∧ v.tracks = s.tracks.set t (Track.renew { s.tracks[t] with state := .running, starved := false })
      ∧ Underrun t e v.tracks[t] v u

section
variable {t : TrackId} {s : State}

theorem resumeTrack_resumed (h : s.tracks[t].state = .suspended) : Resumed t s (resumeTrack t s) := by
  have hheld : (resumed t s).tracks[t].held = s.tracks[t].held := by rw [resumed_track]; rfl
  have hinterval : (resumed t s).tracks[t].interval = s.tracks[t].interval := by rw [resumed_track]; rfl
  have htracks : (resumed t s).tracks = s.tracks.set t s.tracks[t].resumed.renew := rfl
  refine ⟨fun hr => (nomatch h.symm.trans hr), fun hs => (nomatch h.symm.trans hs), fun _ hempty => ?_,
    fun _ hfed hne => ?_, fun e rest _ hstarved hcons hintime => ?_, fun e rest _ hstarved hcons hlate => ?_⟩
  · rw [resumeTrack_of_empty hempty, htracks, Track.resumed_of_empty hempty]
  · rw [resumeTrack_of_fed hfed hne, htracks, Track.resumed_of_held hne]
  · rw [resumeTrack_of_starved hstarved (by rw [hcons]; exact nofun), underrunTest_eq (hheld.trans hcons), hinterval,
      if_pos hintime, fed_resumed_tracks]
  · rw [resumeTrack_of_starved hstarved (by rw [hcons]; exact nofun)]
    refine ⟨fed t (resumed t s), rfl, fed_resumed_tracks t s, ?_⟩
    exact underrunTest_underrun (hheld.trans hcons) (by rw [hinterval]; exact hlate)

theorem actTrackResume_refused {e : Reason} (h : resumeRefusal s.tracks[t].state = some e) (opd : Nat) :
    actTrackResume t.val opd s = .error e := by
  unfold actTrackResume
  rw [onTrack_val]
  obtain ⟨x, hx⟩ : ∃ x, s.tracks[t].state = x := ⟨_, rfl⟩
  simp only [hx] at h ⊢
  cases x with
  | running | suspending | suspended => cases h
  | priming | idle | done | halted | faulted => cases h; rfl

theorem actTrackResume_accepted (h : resumeRefusal s.tracks[t].state = none) (opd : Nat) :
    ∃ u, actTrackResume t.val opd s = .ok u ∧ Resumed t s u := by
  unfold actTrackResume
  rw [onTrack_val]
  obtain ⟨x, hx⟩ : ∃ x, s.tracks[t].state = x := ⟨_, rfl⟩
  simp only [hx] at h ⊢
  cases x with
  | running =>
    exact ⟨s, rfl, fun _ => rfl, fun hs => (nomatch hx.symm.trans hs), fun hs => (nomatch hx.symm.trans hs),
      fun hs => (nomatch hx.symm.trans hs), fun _ _ hs => (nomatch hx.symm.trans hs),
      fun _ _ hs => (nomatch hx.symm.trans hs)⟩
  | suspending =>
    exact ⟨_, rfl, fun hs => (nomatch hx.symm.trans hs), fun _ => rfl, fun hs => (nomatch hx.symm.trans hs),
      fun hs => (nomatch hx.symm.trans hs), fun _ _ hs => (nomatch hx.symm.trans hs),
      fun _ _ hs => (nomatch hx.symm.trans hs)⟩
  | suspended => exact ⟨_, rfl, resumeTrack_resumed hx⟩
  | priming | idle | done | halted | faulted => cases h
end

/-- Settles O32: the state of the track alone says what either action answers; a track that resumes starved, its head
held, makes the underrun test. -/
theorem suspendAndResumeFollowTheState : Obligations.SuspendAndResumeFollowTheState := by
  intro s k a t
  refine ⟨fun hcommand => ?_, fun hcommand => ?_⟩
  · refine answers_of_refusal rfl actTrackSuspend_bus hcommand
      (fun e he => actTrackSuspend_refused (s := writeAction a (clearHost s)) he _) fun hnone => ?_
    obtain ⟨u, hact, htracks, hbeside⟩ :=
      actTrackSuspend_accepted (s := writeAction a (clearHost s)) hnone (wordOperand a.data)
    obtain ⟨houtputs, hclaims, -, hports, -, -, hplant, hchecks, hposted⟩ := same_of_besideStatus hbeside
    exact ⟨u, hact, htracks, houtputs, hclaims, hports, hplant, hchecks, hposted⟩
  · refine answers_of_refusal rfl actTrackResume_bus hcommand
      (fun e he => actTrackResume_refused (s := writeAction a (clearHost s)) he _) fun hnone => ?_
    obtain ⟨u, hact, hrunning, hsuspending, hempty, hfed, hintime, hlate⟩ :=
      actTrackResume_accepted (s := writeAction a (clearHost s)) hnone (wordOperand a.data)
    refine ⟨u, hact, hrunning, hsuspending, hempty, hfed, hintime, fun e rest hstate hstarved hcons hl => ?_⟩
    obtain ⟨v, hbeside, htracks, hunderrun⟩ := hlate e rest hstate hstarved hcons hl
    obtain ⟨houtputs, hclaims, hholders, hports, hcapture, hpath, hplant, hchecks, hposted⟩ :=
      same_of_besideStatus hbeside
    obtain ⟨-, hsupplies, -⟩ := id hplant
    exact ⟨v, u, hplant, ⟨hsupplies, rfl, houtputs, hclaims, hholders, hports, hcapture⟩, hchecks, hposted, hpath,
      htracks, hunderrun, offerResult_sameBlocks .., rfl, rfl⟩

end Sys2Proof.Machine
end

section
/-! CERTIFICATE. The statement on the fetch of an entry (R50 to R52, R61, R167 to R169). -/
namespace Sys2Proof.Machine

open Stated

/-! ### The fetch that completes (R167 to R169) -/

section
variable {s : State} {t : TrackId} {p : Path} (h : FetchCompletes s t p)
include h

/-- The path that a completed fetch leaves: the grant moves a turn at most, and the port is free. -/
theorem path_of_fetchCompletes : p.shadow = s.path.shadow ∧ p.burst = none ∧ (grantFetch s).path.burst = some t
    ∧ { (grantFetch s).path with burst := none } = p := by
  rcases h with ⟨hgrant, rfl⟩ | ⟨hgrant, rfl⟩ | ⟨hburst, rfl⟩
  · have hfree := burst_of_grant hgrant
    rw [grantFetch_of_urgentFetch hgrant]
    exact ⟨rfl, hfree, rfl, congrArg (fun b => { s.path with urgentTurn := t, burst := b }) hfree.symm⟩
  · have hfree := burst_of_grant hgrant
    rw [grantFetch_of_fetch hgrant]
    exact ⟨rfl, hfree, rfl, congrArg (fun b => { s.path with backTurn := t.castSucc, burst := b }) hfree.symm⟩
  · rw [grantFetch_of_burst hburst]
    exact ⟨rfl, rfl, hburst, rfl⟩

theorem grantFetch_completed : (grantFetch s).modPath (fun q => { q with burst := none }) = { s with path := p } := by
  obtain ⟨-, -, -, hp⟩ := path_of_fetchCompletes h
  rw [grantFetch_eq s, ← hp]
  rfl

omit h in
theorem grantFetch_track : (grantFetch s).tracks[t].state = s.tracks[t].state := by rw [grantFetch_eq]

theorem exec_entryFetch_completes : exec .entryFetch s = .next (settle (completeFetch t (grantFetch s))) := by
  obtain ⟨-, -, hburst, -⟩ := path_of_fetchCompletes h
  change execEntryFetch s = _
  unfold execEntryFetch
  dsimp only
  rw [hburst]

/-- R169: the entry of a track that is no longer active is dropped. -/
theorem completeFetch_dropped (hstate : s.tracks[t].state.active = false) :
    completeFetch t (grantFetch s) = { s with path := p } := by
  rw [completeFetch_of_inactive (by rw [grantFetch_track]; exact hstate), grantFetch_completed h]

theorem completeFetch_taken (hstate : s.tracks[t].state.active = true) :
    completeFetch t (grantFetch s) = fetchEntry t { s with path := p } := by
  rw [completeFetch_of_active (by rw [grantFetch_track]; exact hstate), grantFetch_completed h]

end

/-! ### The entry joins the prefetch (R50 to R52) -/

theorem changeTrack_twice (t : TrackId) (f g : Track → Track) (s : State) : changeTrack t g (changeTrack t f s) =
    { s with tracks := s.tracks.set t (g (f s.tracks[t]).renew).renew } := by
  simp [changeTrack, State.modTrack]

/-- R52: the record of a track that has taken an entry, before its fetch request is renewed. -/
def Track.took (size : Nat) (e : Entry) (x : Track) : Track :=
  { x with held := x.held ++ [e], fetchIndex := (x.fetchIndex + 1) % size, fetched := x.fetched + 1 }

/-- R52: the entry at the fetch index has joined the prefetch. -/
def entryTaken (t : TrackId) (s : State) : State := changeTrack t (Track.took (bufferSize s t) (entryAt s t)) s

theorem entryTaken_track (t : TrackId) (s : State) :
    (entryTaken t s).tracks[t] = (s.tracks[t].took (bufferSize s t) (entryAt s t)).renew := changeTrack_self ..

theorem entryTaken_tracks (t : TrackId) (s : State) :
    (entryTaken t s).tracks = s.tracks.set t (s.tracks[t].took (bufferSize s t) (entryAt s t)).renew := rfl

section
variable (t : TrackId) (s : State)

theorem fetchEntry_eq : fetchEntry t s =
    if s.tracks[t].state = .priming ∧ (s.tracks[t].held.length + 1 = 8 ∨ s.tracks[t].fetched + 1 = s.tracks[t].total) then
      offerTrack t (changeTrack t (fun x => { x with state := .running, interval := 0 }) (entryTaken t s))
    else if s.tracks[t].state = .running ∧ s.tracks[t].starved = true then underrunTest t (entryTaken t s)
    else entryTaken t s := by
  have hlength : s.tracks[t].held.length + 1 = ((entryTaken t s).tracks[t]).held.length := by
    rw [entryTaken_track]; exact (List.length_append (bs := [entryAt s t])).symm
  have hstate : s.tracks[t].state = ((entryTaken t s).tracks[t]).state := by rw [entryTaken_track]; rfl
  have hfetched : s.tracks[t].fetched + 1 = ((entryTaken t s).tracks[t]).fetched := by rw [entryTaken_track]; rfl
  have htotal : s.tracks[t].total = ((entryTaken t s).tracks[t]).total := by rw [entryTaken_track]; rfl
  have hstarved : s.tracks[t].starved = ((entryTaken t s).tracks[t]).starved := by rw [entryTaken_track]; rfl
  rw [hlength, hstate, hfetched, htotal, hstarved]
  rfl

end

section
variable {t : TrackId} {s : State}

theorem fetchEntry_priming (h : s.tracks[t].state = .priming) : (fetchEntry t s).tracks = s.tracks.set t
    (if s.tracks[t].held.length + 1 = 8 ∨ s.tracks[t].fetched + 1 = s.tracks[t].total then
      Track.renew { (s.tracks[t].took (bufferSize s t) (entryAt s t)).renew with state := .running, interval := 0 }
    else (s.tracks[t].took (bufferSize s t) (entryAt s t)).renew) := by
  have hrunning : s.tracks[t].state ≠ .running := by rw [h]; exact nofun
  rw [fetchEntry_eq]
  by_cases hends : s.tracks[t].held.length + 1 = 8 ∨ s.tracks[t].fetched + 1 = s.tracks[t].total
  · rw [if_pos ⟨h, hends⟩, if_pos hends, offerTrack_tracks]
    exact congrArg State.tracks (changeTrack_twice ..)
  · rw [if_neg fun hp => hends hp.2, if_neg hends, if_neg fun hr => hrunning hr.1]
    exact entryTaken_tracks t s

theorem fetchEntry_unprimed (h : s.tracks[t].state ≠ .priming)
    (hfed : ¬ (s.tracks[t].state = .running ∧ s.tracks[t].starved = true)) : fetchEntry t s = entryTaken t s := by
  rw [fetchEntry_eq, if_neg fun hp => h hp.1, if_neg hfed]

theorem fetchEntry_besideStatus (hfed : ¬ (s.tracks[t].state = .running ∧ s.tracks[t].starved = true)) :
    (fetchEntry t s).besideStatus = s.besideStatus := by
  rw [fetchEntry_eq, if_neg hfed]
  split <;> rfl

theorem fetchEntry_starved (h : s.tracks[t].state = .running) (hstarved : s.tracks[t].starved = true) :
    fetchEntry t s = underrunTest t (entryTaken t s) := by
  have hprimed : s.tracks[t].state ≠ .priming := by rw [h]; exact nofun
  rw [fetchEntry_eq, if_neg fun hp => hprimed hp.1, if_pos ⟨h, hstarved⟩]

theorem fed_entryTaken : fed t (entryTaken t s) =
    { s with
      tracks := s.tracks.set t
        (Track.renew { (s.tracks[t].took (bufferSize s t) (entryAt s t)).renew with starved := false }) } :=
  changeTrack_twice ..

end

theorem entryAt_congr {s z : State} (hshadow : z.path.shadow = s.path.shadow) (hmem : z.mem = s.mem)
    (htracks : z.tracks = s.tracks) (t : TrackId) :
    entryAt z t = ⟨s.tracks[t].fetchIndex, readWord s.mem (bufferBase s t / 4 + 4 * s.tracks[t].fetchIndex),
      readWord s.mem (bufferBase s t / 4 + 4 * s.tracks[t].fetchIndex + 1),
      readWord s.mem (bufferBase s t / 4 + 4 * s.tracks[t].fetchIndex + 2),
      readWord s.mem (bufferBase s t / 4 + 4 * s.tracks[t].fetchIndex + 3)⟩ := by
  simp only [entryAt, entryWord, bufferBase, trackWord, cfg, hshadow, hmem, htracks]

theorem bufferSize_congr {s z : State} (hshadow : z.path.shadow = s.path.shadow) (t : TrackId) :
    bufferSize z t = bufferSize s t := by
  simp only [bufferSize, sizeCode, trackWord, cfg, hshadow]

/-- Settles O34: the fetch takes the entry at the fetch index; what the full or starved track does then follows from the
record that it leaves. -/
theorem fetchTakesTheEntryInMemory : Obligations.FetchTakesTheEntryInMemory := by
  intro s t p h
  dsimp only
  obtain ⟨hshadow, -⟩ := path_of_fetchCompletes h
  have hentry := entryAt_congr (z := { s with path := p }) hshadow rfl rfl t
  have hsize := bufferSize_congr (z := { s with path := p }) hshadow t
  rw [← hentry, ← hsize]
  refine ⟨fun hstate => ⟨_, exec_entryFetch_completes h, completeFetch_dropped h hstate⟩, fun hstate => ?_⟩
  refine ⟨_, (exec_entryFetch_completes h).trans (by rw [completeFetch_taken h hstate]), ?_⟩
  have hbus := fetchEntry_bus t { s with path := p }
  simp only [State.bus, Prod.mk.injEq] at hbus
  obtain ⟨-, hmem, hpath⟩ := hbus
  refine ⟨hpath, hmem, fetchEntry_priming (s := { s with path := p }), fun hprimed hfed => ?_, fun hfed => ?_,
    fun hrunning hstarved e rest hcons => ?_⟩
  · rw [fetchEntry_unprimed (s := { s with path := p }) hprimed hfed]; rfl
  · obtain ⟨houtputs, hclaims, -, hports, hcapture, -, hplant, hchecks, hposted⟩ :=
      same_of_besideStatus (fetchEntry_besideStatus (s := { s with path := p }) hfed)
    exact ⟨houtputs, hclaims, hports, hcapture, hplant, hchecks, hposted⟩
  · have hheld : (entryTaken t { s with path := p }).tracks[t].held = e :: rest := by
      rw [entryTaken_track]; exact hcons
    have hinterval : (entryTaken t { s with path := p }).tracks[t].interval = s.tracks[t].interval := by
      rw [entryTaken_track]; rfl
    rw [fetchEntry_starved (s := { s with path := p }) hrunning hstarved]
    refine ⟨fun hintime => ?_, fun hlate => ?_⟩
    · rw [underrunTest_eq hheld, hinterval, if_pos hintime, fed_entryTaken]
      rfl
    · have hunderrun := underrunTest_underrun hheld (by rw [hinterval]; exact hlate)
      rw [fed_entryTaken] at hunderrun
      exact hunderrun

end Sys2Proof.Machine
end

section
/-! CERTIFICATE. The statements on bad entries and on FRAME entries (R55, R58, R59, R70, R74, R75). -/
namespace Sys2Proof.Machine

open Stated

/-! ### Targets by their codes (section 3.1) -/

section
variable {e : Entry}

theorem target_none_iff : e.target = none ↔ 10 < e.targetCode := by
  unfold Entry.target
  dsimp only
  split_ifs <;> simp <;> omega

theorem target_pulse (h : 1 ≤ e.targetCode) (h' : e.targetCode ≤ 4) : ∃ k, e.target = some (.pulse k) := by
  unfold Entry.target
  dsimp only
  rw [if_neg (by omega), dif_pos ⟨h, h'⟩]
  exact ⟨_, rfl⟩

theorem target_level (h : 5 ≤ e.targetCode) (h' : e.targetCode ≤ 8) : ∃ k, e.target = some (.level k) := by
  unfold Entry.target
  dsimp only
  rw [if_neg (by omega), dif_neg (by omega), dif_pos ⟨h, h'⟩]
  exact ⟨_, rfl⟩

theorem target_frame (h : e.targetCode = 10) : e.target = some .frame := by
  unfold Entry.target
  simp [h]
end

/-! ### The tests of an entry (R55) -/

section
variable {s : State} {t : TrackId} {e : Entry}

theorem entryFault_badTarget (h : e.target = none) : entryFault s t e = .badTarget := if_pos h

theorem entryFault_unclaimed (h : e.target ≠ none) (hclaim : unclaimed s t e = true) :
    entryFault s t e = .unclaimed := by
  unfold entryFault
  rw [if_neg h, if_pos hclaim]

theorem entryFault_badLength (h : e.target = some .frame) (hclaim : unclaimed s t e = false)
    (hlength : 8 < e.frameLength) : entryFault s t e = .badLength := by
  unfold entryFault
  rw [if_neg (by rw [h]; exact nofun), if_neg (Bool.eq_false_iff.1 hclaim), if_pos ⟨h, hlength⟩]

theorem entryFault_badValue (h : e.target ≠ none) (hclaim : unclaimed s t e = false)
    (hlength : e.target = some .frame → e.frameLength ≤ 8) (hvalue : valueOutOfRange e = true) :
    entryFault s t e = .badValue := by
  unfold entryFault
  rw [if_neg h, if_neg (Bool.eq_false_iff.1 hclaim), if_neg fun hf => Nat.not_le.2 hf.2 (hlength hf.1), if_pos hvalue]

theorem handleDue_faults {rest : List Entry} (hheld : s.tracks[t].held = e :: rest) (hbad : entryFault s t e ≠ .none) :
    handleDue t s = faultTrack .badEntry (entryFault s t e) e.index e.targetCode true t s := by
  unfold handleDue
  rw [hheld]
  dsimp only
  cases hfault : entryFault s t e with
  | none => exact absurd hfault hbad
  | badTarget | unclaimed | badLength | badValue => rfl
end

/-- Settles O36: the tests in order; the entry that fails one faults its track, whose outputs go idle. -/
theorem badEntryFaultsItsTrack : Obligations.BadEntryFaultsItsTrack := by
  intro s t e rest hdue hheld
  have hdefined (h : e.targetCode ≤ 10) : e.target ≠ none := fun hnone => Nat.not_le.2 (target_none_iff.1 hnone) h
  refine ⟨fun hcode => entryFault_badTarget (target_none_iff.2 hcode),
    fun hcode hclaim => entryFault_unclaimed (hdefined hcode) hclaim,
    fun hcode hclaim hlength => entryFault_badLength (target_frame hcode) hclaim hlength,
    fun hlow hhigh hclaim hvalue => ?_, fun hlow hhigh hclaim hvalue => ?_,
    fun hcode hclaim hlength hbase hvalue => ?_, fun hbad => ?_⟩
  · obtain ⟨k, hk⟩ := target_pulse hlow hhigh
    refine entryFault_badValue (hdefined (by omega)) hclaim (fun hf => nomatch hk.symm.trans hf) ?_
    simpa [valueOutOfRange, hk, or_assoc] using hvalue
  · obtain ⟨k, hk⟩ := target_level hlow hhigh
    refine entryFault_badValue (hdefined (by omega)) hclaim (fun hf => nomatch hk.symm.trans hf) ?_
    simpa [valueOutOfRange, hk] using hvalue
  · have hk := target_frame hcode
    refine entryFault_badValue (hdefined (by omega)) hclaim (fun _ => hlength) ?_
    simp [valueOutOfRange, hk, hbase, hvalue]
  · obtain ⟨htracks, hclaims, hidled, -, hports, hevent, hbeside⟩ :=
      faultTrack_faulted .badEntry (entryFault s t e) e.index e.targetCode true t s
    refine ⟨_, takenIf_true hdue _ _, ?_⟩
    rw [handleDue_faults hheld hbad]
    simp only [State.besideTracks, Prod.mk.injEq] at hbeside
    obtain ⟨-, hnests, hsupplies, hrails, hcapture, hinputs, hchecks⟩ := hbeside
    exact ⟨htracks, hclaims, hidled rfl, hports, hevent, hcapture, ⟨hnests, hsupplies, hrails, hinputs⟩, hchecks⟩

/-! ### The play of a FRAME entry (R56, R58) -/

/-- A play renews the fetch request, so that a renewal before it is none. -/
theorem playedTrack_renew (x : Track) (e : Entry) (rest : List Entry) :
    playedTrack x.renew e rest = playedTrack x e rest := by
  unfold playedTrack
  dsimp only [Track.renew]
  rfl

theorem applyTarget_frame {e : Entry} (h : e.target = some .frame) (n : NestId) (s : State) : applyTarget n e s = s := by
  unfold applyTarget; rw [h]

/-- R56, R58: track t of state s has played a FRAME entry, its record before it being x. -/
structure FramePlayed (t : TrackId) (x : Track) (e : Entry) (rest : List Entry) (s u : State) : Prop where
  tracks : u.tracks = s.tracks.set t (playedTrack x e rest)
  outputs : u.outputs = s.outputs
  capture : u.capture = s.capture
  plant : SamePlant s u

section
variable {t : TrackId} {e : Entry} {rest : List Entry} (hframe : e.target = some .frame)
include hframe

theorem playHead_framePlayed {x : Track} {s v : State} (hheld : x.held = e :: rest)
    (htracks : v.tracks = s.tracks.set t x.renew) (houtputs : v.outputs = s.outputs) (hcapture : v.capture = s.capture)
    (hplant : SamePlant s v) : FramePlayed t x e rest s (playHead t v) ∧ (playHead t v).ports = v.ports := by
  have htrack : v.tracks[t] = x.renew := by rw [htracks]; simp
  have hplayed : v.tracks[t].held = e :: rest := by rw [htrack]; exact hheld
  obtain ⟨hcapture', hports⟩ := playHead_capture_ports hplayed
  obtain ⟨hnests', hsupplies', hrails', hinputs'⟩ := playHead_samePlant hplayed
  obtain ⟨hnests, hsupplies, hrails, hinputs⟩ := hplant
  refine ⟨⟨?_, ?_, hcapture'.trans hcapture, ⟨hnests'.trans hnests, hsupplies'.trans hsupplies, hrails'.trans hrails,
    hinputs'.trans hinputs⟩⟩, hports⟩
  · rw [playHead_tracks hplayed, htrack, playedTrack_renew, htracks, Vector.set_set]
  · rw [playHead_outputs hplayed, applyTarget_frame hframe, houtputs]

/-- R58, R70: the frame has been queued by port p, and its entry is played. -/
theorem queueAndPlay_framePlayed {p : NestId} {s : State} (hheld : s.tracks[t].held = e :: rest) :
    FramePlayed t { s.tracks[t] with stalled := false, gap := some 0 } e rest s (queueAndPlay p t e s)
      ∧ (queueAndPlay p t e s).ports = s.ports.set p (s.ports[p].queueFrame (frameOf s t e)) :=
  playHead_framePlayed (v := changeTrack t (fun x => { x with stalled := false, gap := some 0 })
      (s.modPort p fun x => x.queueFrame (frameOf s t e))) hframe hheld rfl rfl rfl ⟨rfl, rfl, rfl, rfl⟩

/-- R59: the frame is dropped and counted, and its entry is played. -/
theorem dropped_framePlayed {s : State} (hheld : s.tracks[t].held = e :: rest) :
    FramePlayed t { s.tracks[t] with dropped := satAdd 255 s.tracks[t].dropped 1, gap := some 0 } e rest s
        (playHead t (changeTrack t (fun x => { x with gap := some 0 }) (countDrop t s)))
      ∧ (playHead t (changeTrack t (fun x => { x with gap := some 0 }) (countDrop t s))).ports = s.ports := by
  have htracks : (changeTrack t (fun x => { x with gap := some 0 }) (countDrop t s)).tracks = s.tracks.set t
      (Track.renew { s.tracks[t] with dropped := satAdd 255 s.tracks[t].dropped 1, gap := some 0 }) :=
    congrArg State.tracks (changeTrack_twice t (fun x => { x with dropped := satAdd 255 x.dropped 1 })
      (fun x => { x with gap := some 0 }) s)
  exact playHead_framePlayed hframe hheld htracks rfl rfl ⟨rfl, rfl, rfl, rfl⟩
end

/-! ### The submission of a frame (R58, R74) -/

theorem otherPorts_of_set {p : NestId} {s u : State} {x : Port} (h : u.ports = s.ports.set p x) : OtherPorts p s u := by
  intro q hq
  rw [h]
  simp [Fin.val_ne_of_ne hq.symm]

theorem port_of_set {p : NestId} {s u : State} {x : Port} (h : u.ports = s.ports.set p x) : u.ports[p] = x := by
  rw [h]; simp

theorem free_iff (x : Port) : x.free = true ↔ x.queue.length < 4 := decide_eq_true_iff

section
variable {s : State} {t : TrackId} {e : Entry} {rest : List Entry} (hheld : s.tracks[t].held = e :: rest)
  (hgood : entryFault s t e = .none) (hframe : e.target = some .frame)
include hheld hgood hframe

theorem handleDue_frame : handleDue t s = if gapOpen s t then s else submitFrame t e s := by
  unfold handleDue
  rw [hheld]
  dsimp only
  rw [hgood]
  exact if_pos hframe

theorem handleDue_submits (hgap : gapOpen s t = false) : handleDue t s = submitFrame t e s := by
  rw [handleDue_frame hheld hgood hframe, if_neg (Bool.eq_false_iff.1 hgap)]
end

/-- ENTRY_DUE and FRAME_GAP_END handle the due head. -/
theorem exec_handlesDue {s : State} {t : TrackId} {c : Instr}
    (h : c = .entryDue t ∧ headDue s t = true ∨ c = .frameGapEnd t ∧ gapEnded s t = true) :
    exec c s = .next (settle (handleDue t s)) := by
  rcases h with ⟨rfl, hdue⟩ | ⟨rfl, hended⟩
  · exact takenIf_true hdue _ _
  · exact takenIf_true hended _ _

/-- R75: a free place of an ON port goes to the head of the stall list. -/
theorem offerPlace_of_stalled {s : State} {p : NestId} {t : TrackId} {others : List TrackId} {e : Entry}
    {rest : List Entry} (hon : s.ports[p].state = .on) (hfree : s.ports[p].queue.length < 4)
    (hstall : s.ports[p].stall = t :: others) (hheld : s.tracks[t].held = e :: rest) :
    offerPlace p s = queueAndPlay p t e (s.modPort p fun x => { x with stall := others }) := by
  unfold offerPlace
  dsimp only
  rw [if_pos ⟨hon, (free_iff _).2 hfree⟩, hstall]
  dsimp only
  rw [modPort_tracks, hheld]

/-- Settles O37: what a submission does by the gap and the port; a stalled frame takes the place that its port offers. -/
theorem framesAreQueuedStalledOrDropped : Obligations.FramesAreQueuedStalledOrDropped := by
  refine ⟨fun s t e rest c hc hheld hgood hframe => ?_, fun s p t others e rest hon hfree hstall hheld hframe => ?_⟩
  · have hexec := exec_handlesDue hc
    dsimp only
    refine ⟨fun hgap => ?_, fun hgap hon hfree => ?_, fun hgap hon hfull => ?_, fun hgap hoff => ?_⟩
    · rw [hexec, handleDue_frame hheld hgood hframe, if_pos hgap]
    · rw [handleDue_submits hheld hgood hframe hgap] at hexec
      unfold submitFrame at hexec
      dsimp only at hexec
      rw [if_pos hon, if_pos ((free_iff _).2 hfree)] at hexec
      obtain ⟨⟨htracks, houtputs, hcapture, hplant⟩, hports⟩ :=
        queueAndPlay_framePlayed (p := trackNest s t) hframe hheld
      exact ⟨_, hexec, htracks, otherPorts_of_set hports, port_of_set hports, houtputs, hcapture, hplant⟩
    · rw [handleDue_submits hheld hgood hframe hgap] at hexec
      unfold submitFrame at hexec
      dsimp only at hexec
      rw [if_pos hon, if_neg fun h => Nat.not_lt.2 hfull ((free_iff _).1 h)] at hexec
      exact ⟨_, hexec, rfl, otherPorts_of_set rfl, port_of_set rfl, rfl, rfl, ⟨rfl, rfl, rfl, rfl⟩,
        ⟨rfl, rfl, rfl, rfl, rfl⟩, rfl, rfl⟩
    · rw [handleDue_submits hheld hgood hframe hgap] at hexec
      unfold submitFrame at hexec
      dsimp only at hexec
      rw [if_neg hoff] at hexec
      obtain ⟨⟨htracks, houtputs, hcapture, hplant⟩, hports⟩ := dropped_framePlayed hframe hheld
      exact ⟨_, hexec, htracks, hports, houtputs, hcapture, hplant⟩
  · obtain ⟨⟨htracks, houtputs, hcapture, hplant⟩, hports⟩ := queueAndPlay_framePlayed (p := p)
      (s := s.modPort p fun x => { x with stall := others }) hframe hheld
    have hport : (s.modPort p fun x => { x with stall := others }).ports[p] = { s.ports[p] with stall := others } := by
      simp
    rw [hport, modPort_ports, Vector.set_set] at hports
    refine ⟨queueAndPlay p t e (s.modPort p fun x => { x with stall := others }), ?_, htracks, otherPorts_of_set hports,
      port_of_set (s := s) hports, houtputs, hcapture, hplant⟩
    rw [← offerPlace_of_stalled hon hfree hstall hheld]
    rfl

end Sys2Proof.Machine
end

section
/-! SUPPORT. Frames given up by a port (R59, R73, R79, R80): what they leave of the tracks that they belong to. -/
namespace Sys2Proof.Machine

open Stated

/-! ### Drops counted (R59) -/

/-- A count of drops, which stays at 255, after some more. -/
def counted (more drops : Nat) : Nat := if more = 0 then drops else min 255 (drops + more)

theorem counted_zero (d : Nat) : counted 0 d = d := if_pos rfl

theorem counted_of_pos {n : Nat} (h : n ≠ 0) (d : Nat) : counted n d = min 255 (d + n) := if_neg h

theorem counted_counted (m n d : Nat) : counted n (counted m d) = counted (m + n) d := by
  unfold counted
  split_ifs <;> omega

/-- R59: the record of a track that has lost some more frames. -/
def Track.losing (n : Nat) (x : Track) : Track := { x with dropped := counted n x.dropped }

theorem Track.losing_losing (m n : Nat) (x : Track) : (x.losing m).losing n = x.losing (m + n) := by
  unfold Track.losing
  rw [counted_counted]

theorem Track.losing_zero (x : Track) : x.losing 0 = x := rfl

/-- A renewal of the fetch request looks at no count of drops. -/
theorem Track.renew_losing (n : Nat) (x : Track) : (x.renew.losing n).renew = (x.losing n).renew := rfl

theorem countDrop_eq (t : TrackId) (s : State) : countDrop t s = offerTrack t (changeTrack t (Track.losing 1) s) := rfl

theorem countDrop_track (t : TrackId) (s : State) (k : TrackId) :
    (countDrop t s).tracks[k] = if k = t then (s.tracks[t].losing 1).renew else s.tracks[k] := by
  rw [countDrop_eq, offerTrack_tracks, changeTrack_get]

/-! ### Queued frames given up (R80) -/

/-- R59: the frame is of this launch of track k. -/
def ofLaunch (k : TrackId) (launch : BitVec 8) (f : Frame) : Bool := f.track == k && f.launch == launch

/-- How many frames of a list are of this launch of track k. -/
def lostOf (k : TrackId) (launch : BitVec 8) (l : List Frame) : Nat := (l.filter (ofLaunch k launch)).length

theorem lostOf_cons (k : TrackId) (launch : BitVec 8) (f : Frame) (l : List Frame) :
    lostOf k launch (f :: l) = (if ofLaunch k launch f then 1 else 0) + lostOf k launch l := by
  unfold lostOf
  rw [List.filter_cons]
  split
  · rw [List.length_cons, Nat.add_comm]
  · rw [Nat.zero_add]

/-- R59, R80: but for its fetch request, the frame's track alone changes, and that in its count of drops. -/
theorem reportDrop_track (f : Frame) (s : State) (k : TrackId) : (reportDrop f s).tracks[k].renew =
    (s.tracks[k].losing (if ofLaunch k s.tracks[k].launch f then 1 else 0)).renew := by
  unfold reportDrop
  by_cases hlaunch : s.tracks[f.track].launch = f.launch
  · rw [if_pos hlaunch, countDrop_track]
    by_cases hk : k = f.track
    · subst hk
      rw [if_pos rfl, if_pos (by rw [ofLaunch, hlaunch, beq_self_eq_true, beq_self_eq_true]; rfl)]
      rfl
    · rw [if_neg hk, if_neg (by simp [ofLaunch, Ne.symm hk])]
      rfl
  · have hother : ofLaunch k s.tracks[k].launch f = false := by
      unfold ofLaunch
      by_cases hk : f.track = k
      · subst hk; rw [beq_eq_false_iff_ne.2 (Ne.symm hlaunch), Bool.and_false]
      · simp [hk]
    rw [if_neg hlaunch, hother]
    rfl

theorem launch_of_renew {x y : Track} {n : Nat} (h : x.renew = (y.losing n).renew) : x.launch = y.launch := by
  have hlaunch := congrArg Track.launch h
  exact hlaunch

theorem reportDrops_track (l : List Frame) (s : State) (k : TrackId) :
    (s.forEach l reportDrop).tracks[k].renew = (s.tracks[k].losing (lostOf k s.tracks[k].launch l)).renew := by
  induction l generalizing s with
  | nil => rfl
  | cons f l ih =>
    have hstep := reportDrop_track f s k
    rw [forEach_cons, ih, launch_of_renew hstep, ← Track.renew_losing, hstep, Track.renew_losing, Track.losing_losing,
      lostOf_cons]

theorem dropQueue_track (p : NestId) (s : State) (k : TrackId) : (dropQueue p s).tracks[k].renew =
    (s.tracks[k].losing (lostOf k s.tracks[k].launch s.ports[p].queue)).renew := reportDrops_track ..

/-- What the report of a dropped frame leaves: every block but the tracks. -/
def State.besideDrops (s : State) := (s.besideTracks, s.outputs, s.claims, s.ports, s.post.fifo, s.post.lost)

theorem reportDrop_besideDrops (f : Frame) (s : State) : (reportDrop f s).besideDrops = s.besideDrops := by
  unfold reportDrop
  split <;> rfl

theorem dropQueue_besideDrops (p : NestId) (s : State) : (dropQueue p s).besideDrops =
    (s.modPort p fun x => { x with queue := [], inFlight := none }).besideDrops :=
  forEach_keeps State.besideDrops _ reportDrop_besideDrops _ _

/-! ### Stalled frames given up (R73, R79) -/

/-- R58: the stalled frame has been dropped and counted; its entry is still to be played. -/
def stallEnded (t : TrackId) (s : State) : State := changeTrack t (fun x => { x with stalled := false }) (countDrop t s)

theorem dropStalled_eq (t : TrackId) (s : State) : dropStalled t s = playHead t (stallEnded t s) := rfl

theorem stallEnded_tracks (t : TrackId) (s : State) :
    (stallEnded t s).tracks = s.tracks.set t (Track.renew { s.tracks[t].losing 1 with stalled := false }) :=
  congrArg State.tracks (changeTrack_twice t (Track.losing 1) (fun x => { x with stalled := false }) s)

theorem stallEnded_track (t : TrackId) (s : State) :
    (stallEnded t s).tracks[t] = Track.renew { s.tracks[t].losing 1 with stalled := false } := by
  rw [stallEnded_tracks]; simp

theorem playHead_of_empty {t : TrackId} {s : State} (h : s.tracks[t].held = []) : playHead t s = s := by
  unfold playHead; rw [h]

/-- R58: the record of a track whose stalled frame has been dropped. -/
def Track.unstalled (x : Track) : Track :=
  match x.held with
  | [] => Track.renew { x.losing 1 with stalled := false }
  | e :: rest => playedTrack { x.losing 1 with stalled := false } e rest

theorem dropStalled_tracks (t : TrackId) (s : State) :
    (dropStalled t s).tracks = s.tracks.set t s.tracks[t].unstalled := by
  have hheld : (stallEnded t s).tracks[t].held = s.tracks[t].held := by rw [stallEnded_track]; rfl
  rw [dropStalled_eq]
  unfold Track.unstalled
  cases h : s.tracks[t].held with
  | nil => rw [playHead_of_empty (hheld.trans h), stallEnded_tracks]
  | cons e rest =>
    rw [playHead_tracks (hheld.trans h), stallEnded_track, playedTrack_renew, stallEnded_tracks, Vector.set_set]

theorem dropStalled_track (t : TrackId) (s : State) (k : TrackId) :
    (dropStalled t s).tracks[k] = if k = t then s.tracks[t].unstalled else s.tracks[k] := by
  rw [dropStalled_tracks]
  simp only [Fin.getElem_fin, Vector.getElem_set, ← Fin.ext_iff, eq_comm]

theorem playedTrack_counts (x : Track) (e : Entry) (rest : List Entry) :
    (playedTrack x e rest).dropped = x.dropped ∧ (playedTrack x e rest).stalled = x.stalled := by
  unfold playedTrack
  dsimp only
  split <;> exact ⟨rfl, rfl⟩

theorem Track.unstalled_counts (x : Track) :
    x.unstalled.dropped = counted 1 x.dropped ∧ x.unstalled.stalled = false := by
  unfold Track.unstalled
  split
  · exact ⟨rfl, rfl⟩
  · exact playedTrack_counts ..

/-- Each mention of a track in the stall list counts one drop. -/
theorem dropStalls_dropped (l : List TrackId) (s : State) (k : TrackId) :
    (s.forEach l dropStalled).tracks[k].dropped = counted (l.count k) s.tracks[k].dropped := by
  induction l generalizing s with
  | nil => rfl
  | cons t l ih =>
    rw [forEach_cons, ih, dropStalled_track, List.count_cons]
    by_cases hk : k = t
    · subst hk
      rw [if_pos rfl, (Track.unstalled_counts _).1, counted_counted, if_pos (beq_self_eq_true k), Nat.add_comm]
    · rw [if_neg hk, if_neg (by simpa using Ne.symm hk), Nat.add_zero]

theorem dropStalls_stalled {l : List TrackId} {t : TrackId} (ht : t ∈ l) (s : State) :
    (s.forEach l dropStalled).tracks[t].stalled = false := by
  refine forEach_reaches (P := fun _ => True) (Q := fun s => s.tracks[t].stalled = false) (fun _ _ _ => trivial)
    (fun b s _ hs => ?_) (fun s _ => ?_) ht trivial
  · rw [dropStalled_track]
    split
    · exact (Track.unstalled_counts _).2
    · exact hs
  · rw [dropStalled_track, if_pos rfl]
    exact (Track.unstalled_counts _).2

/-- A track that stands once in the stall list has its frame dropped once. -/
theorem dropStalls_once {l : List TrackId} {t : TrackId} (ht : l.count t = 1) (s : State) :
    (s.forEach l dropStalled).tracks[t] = s.tracks[t].unstalled := by
  have hothers {l : List TrackId} (hl : l.count t = 0) (s : State) :
      (s.forEach l dropStalled).tracks[t] = s.tracks[t] :=
    forEach_others (p := fun s : State => s.tracks[t])
      (fun b s hb => (dropStalled_track b s t).trans (if_neg (Ne.symm hb))) (List.count_eq_zero.1 hl) s
  obtain ⟨before, behind, rfl⟩ := List.append_of_mem (List.count_pos_iff.1 (ht.symm ▸ Nat.one_pos))
  rw [List.count_append, List.count_cons_self] at ht
  rw [forEach_append, forEach_cons, hothers (by omega), dropStalled_track, if_pos rfl, hothers (by omega)]

/-- What a play and the report of a drop leave: the plant, the capture slots and the ports. -/
def State.besidePlays (s : State) := (s.nests, s.supplies, s.rails, s.inputs, s.capture, s.ports)

theorem dropStalled_besidePlays (t : TrackId) (s : State) : (dropStalled t s).besidePlays = s.besidePlays := by
  rw [dropStalled_eq]
  cases h : (stallEnded t s).tracks[t].held with
  | nil => rw [playHead_of_empty h]; rfl
  | cons e rest =>
    obtain ⟨hcapture, hports⟩ := playHead_capture_ports h
    obtain ⟨hnests, hsupplies, hrails, hinputs⟩ := playHead_samePlant h
    unfold State.besidePlays
    rw [hnests, hsupplies, hrails, hinputs, hcapture, hports]
    rfl

theorem dropStallList_besidePlays (p : NestId) (s : State) : (dropStallList p s).besidePlays =
    (s.modPort p fun x => { x with stall := [] }).besidePlays :=
  forEach_keeps State.besidePlays _ dropStalled_besidePlays _ _

/-! ### What a play posts -/

theorem takeProfileSample_post (c : CheckId) (s : State) : (takeProfileSample c s).1.post = s.post := by
  unfold takeProfileSample
  dsimp only
  repeat' split
  all_goals rfl

theorem takeSampleMark_grows (c : CheckId) (s : State) : s.post.Grows (takeSampleMark c s).post := by
  unfold takeSampleMark
  split
  · exact decideCheck_grows ..
  · split
    · rw [← takeProfileSample_post c s]
      unfold finishCheck
      split
      · next h => rw [h]; exact .refl _
      · next h => rw [h]; exact decideCheck_grows ..
    · exact .refl _

theorem deliverMark_grows (n : NestId) (m : Nat) (s : State) : s.post.Grows (deliverMark n m s).post := by
  rw [deliverMark_eq]
  refine forEach_induct (fun t => s.post.Grows t.post) _ (fun c t h => h.trans ?_) _ _ (.refl _)
  unfold takeMark
  split
  · exact triggerCheck_grows t c
  · split
    · exact takeSampleMark_grows c t
    · exact .refl _

theorem dropStalled_grows (t : TrackId) (s : State) : s.post.Grows (dropStalled t s).post := by
  have hended : s.post.Grows (stallEnded t s).post := .of_eq rfl rfl
  rw [dropStalled_eq]
  cases h : (stallEnded t s).tracks[t].held with
  | nil => rw [playHead_of_empty h]; exact hended
  | cons e rest =>
    refine (hended.trans ?_).trans (playHead_grows h)
    have htarget : (targetSet t e rest (stallEnded t s)).post = (stallEnded t s).post := by rw [targetSet_eq]
    rw [← htarget]
    unfold markTaken
    split
    · exact .refl _
    · exact deliverMark_grows ..

theorem dropStallList_grows (p : NestId) (s : State) : s.post.Grows (dropStallList p s).post :=
  forEach_induct (fun t => s.post.Grows t.post) _ (fun t u h => h.trans (dropStalled_grows t u)) _ _ (.refl _)

/-! ### A port gives up what it holds (R73, R79) -/

/-- The port gives up its queue, and then the stalled frames. -/
def emptied (p : NestId) (s : State) : State := dropStallList p (dropQueue p s)

section
variable (p : NestId) (s : State)

theorem dropQueue_ports : (dropQueue p s).ports = s.ports.set p { s.ports[p] with queue := [], inFlight := none } :=
  congrArg (·.2.2.2.1) (dropQueue_besideDrops p s)

theorem dropQueue_stall : (dropQueue p s).ports[p].stall = s.ports[p].stall := by
  rw [port_of_set (dropQueue_ports p s)]

theorem dropQueue_besidePlays : (dropQueue p s).besidePlays =
    (s.modPort p fun x => { x with queue := [], inFlight := none }).besidePlays := by
  have h := dropQueue_besideDrops p s
  simp only [State.besideDrops, State.besideTracks, Prod.mk.injEq] at h
  obtain ⟨⟨-, hnests, hsupplies, hrails, hcapture, hinputs, -⟩, -, -, hports, -⟩ := h
  unfold State.besidePlays
  rw [hnests, hsupplies, hrails, hcapture, hinputs, hports]

theorem emptied_besidePlays : (emptied p s).besidePlays =
    (s.modPort p fun x => { x with queue := [], inFlight := none, stall := [] }).besidePlays := by
  have hstall := dropStallList_besidePlays p (dropQueue p s)
  have hqueue := dropQueue_besidePlays p s
  simp only [State.besidePlays, Prod.mk.injEq] at hqueue
  obtain ⟨hnests, hsupplies, hrails, hinputs, hcapture, hports⟩ := hqueue
  unfold emptied
  rw [hstall]
  unfold State.besidePlays
  simp only [modPort_nests, modPort_supplies, modPort_rails, modPort_inputs, modPort_capture, modPort_ports] at *
  rw [hnests, hsupplies, hrails, hinputs, hcapture, hports]
  simp

theorem emptied_ports : (emptied p s).ports =
    s.ports.set p { s.ports[p] with queue := [], inFlight := none, stall := [] } :=
  congrArg (·.2.2.2.2.2) (emptied_besidePlays p s)

theorem emptied_samePlant : SamePlant s (emptied p s) ∧ (emptied p s).capture = s.capture := by
  have h := emptied_besidePlays p s
  simp only [State.besidePlays, Prod.mk.injEq] at h
  obtain ⟨hnests, hsupplies, hrails, hinputs, hcapture, -⟩ := h
  exact ⟨⟨hnests, hsupplies, hrails, hinputs⟩, hcapture⟩

theorem emptied_stalled {t : TrackId} (ht : t ∈ s.ports[p].stall) : (emptied p s).tracks[t].stalled = false := by
  rw [← dropQueue_stall p s] at ht
  exact dropStalls_stalled ht _

/-- R59: a frame given up counts once for its launch, be it queued or stalled. -/
theorem emptied_dropped (k : TrackId) : (emptied p s).tracks[k].dropped =
    counted (lostOf k s.tracks[k].launch s.ports[p].queue + s.ports[p].stall.count k) s.tracks[k].dropped := by
  have hqueue : (dropQueue p s).tracks[k].dropped = counted (lostOf k s.tracks[k].launch s.ports[p].queue)
      s.tracks[k].dropped := congrArg Track.dropped (dropQueue_track p s k)
  have hstalls : (emptied p s).tracks[k].dropped
      = counted ((dropQueue p s).ports[p].stall.count k) (dropQueue p s).tracks[k].dropped :=
    dropStalls_dropped _ _ k
  rw [hstalls, dropQueue_stall, hqueue, counted_counted]

theorem Track.unstalled_of_held {x : Track} {e : Entry} {rest : List Entry} (h : x.held = e :: rest) :
    x.unstalled = playedTrack { x.losing 1 with stalled := false } e rest := by
  unfold Track.unstalled; rw [h]

/-- The entry of a track that stands once in the stall list is played once. -/
theorem emptied_played {t : TrackId} {e : Entry} {rest : List Entry} (ht : s.ports[p].stall.count t = 1)
    (hheld : s.tracks[t].held = e :: rest) : (emptied p s).tracks[t] = playedTrack
      { s.tracks[t].losing (lostOf t s.tracks[t].launch s.ports[p].queue + 1) with stalled := false } e rest := by
  have hqueue := dropQueue_track p s t
  have hheld' : (dropQueue p s).tracks[t].held = e :: rest := (congrArg Track.held hqueue).trans hheld
  rw [← dropQueue_stall p s] at ht
  have honce : (emptied p s).tracks[t] = (dropQueue p s).tracks[t].unstalled := dropStalls_once ht _
  have hrecord : Track.renew { (dropQueue p s).tracks[t].losing 1 with stalled := false } = Track.renew
      { s.tracks[t].losing (lostOf t s.tracks[t].launch s.ports[p].queue + 1) with stalled := false } := by
    have h := congrArg (fun x => Track.renew { x.losing 1 with stalled := false }) hqueue
    rw [← Track.losing_losing]
    exact h
  rw [honce, Track.unstalled_of_held hheld', ← playedTrack_renew, hrecord, playedTrack_renew]

theorem emptied_grows : s.post.Grows (emptied p s).post := by
  have h := dropQueue_besideDrops p s
  simp only [State.besideDrops, Prod.mk.injEq] at h
  obtain ⟨-, -, -, -, hfifo, hlost⟩ := h
  exact Post.Grows.trans (.of_eq hfifo hlost) (dropStallList_grows p _)

end

end Sys2Proof.Machine
end

section
/-! CERTIFICATE. The statements on the network ports (R72, R73, R76 to R80). -/
namespace Sys2Proof.Machine

open Stated

/-! ### PORT_START (R72) -/

theorem portRecordInRange_iff (s : State) (p : NestId) :
    (!portRecordInRange s p) = true ↔ 3 < bitRateCode s p ∨ 7 < retryLimit s p := by
  simp only [portRecordInRange, Bool.not_eq_true', Bool.and_eq_false_iff, decide_eq_false_iff_not, Nat.not_le]

/-- R72: what PORT_START answers. -/
def portStartRefusal (s : State) (p : NestId) : Option Reason :=
  if s.nests[p].state ≠ .opened then some .notOpen
  else if 3 < bitRateCode s p ∨ 7 < retryLimit s p then some .badRange
  else none

theorem actPortStart_eq (p : NestId) (opd : Nat) (s : State) :
    actPortStart p.val opd s = (portStartRefusal s p).elim (.ok (startPort p s)) .error := by
  unfold actPortStart portStartRefusal
  rw [onNest_val]
  simp only [portRecordInRange_iff]
  split_ifs <;> rfl

theorem captureOf_ne {m n : NestId} (h : m ≠ n) (i j : Fin 16) : captureOf m i ≠ captureOf n j := by
  unfold captureOf
  rw [ne_eq, Fin.ext_iff] at h ⊢
  dsimp only
  omega

/-- R72: the period bases of the nest, and of no other, become absent. -/
theorem dropBases_capture (p j : NestId) (i : Fin 16) (s : State) : (dropBases p s).capture[captureOf j i] =
    if j = p then { s.capture[captureOf j i] with base := none } else s.capture[captureOf j i] := by
  unfold dropBases
  by_cases hj : j = p
  · subst hj
    rw [if_pos rfl]
    exact (forEach_table (t := fun s (i : Fin 16) => s.capture[captureOf j i]) (f := fun _ x => { x with base := none })
      (fun i s k => by simp only [modCapture_get, captureOf_inj]) _ (List.nodup_finRange 16) s i).trans
      (if_pos (List.mem_finRange i))
  · rw [if_neg hj]
    exact forEach_keeps (fun s : State => s.capture[captureOf j i]) _
      (fun k s => (modCapture_get (captureOf p k) _ s _).trans (if_neg (captureOf_ne hj i k))) _ s

/-- Every block but the capture slots. -/
def State.besideBases (s : State) := (s.besideCapture, s.checks)

theorem dropBases_besideBases (p : NestId) (s : State) : (dropBases p s).besideBases = s.besideBases :=
  forEach_keeps State.besideBases _ (fun i s => (rfl : (s.modCapture (captureOf p i) _).besideBases = _)) _ s

/-- R72: the port enters ON with its failures cleared. -/
def portEntered (p : NestId) (s : State) : State := s.modPort p fun x => { x with state := .on, failures := 0 }

/-- R72: port p of state s has been started. -/
structure PortStarted (p : NestId) (s u : State) : Prop where
  ports : u.ports = s.ports.set p
    (if s.ports[p].state = .on then s.ports[p] else { s.ports[p] with state := .on, failures := 0 })
  capture : ∀ (j : NestId) (i : Fin 16), u.capture[captureOf j i] =
    if j = p ∧ s.ports[p].state = .off then { s.capture[captureOf j i] with base := none }
    else s.capture[captureOf j i]
  tracks : u.tracks = s.tracks
  outputs : u.outputs = s.outputs
  claims : u.claims = s.claims
  plant : SamePlant s u
  checks : SameChecks s u
  posted : NothingPosted s u

theorem startPort_started (p : NestId) (s : State) : PortStarted p s (startPort p s) := by
  unfold startPort
  dsimp only
  cases h : s.ports[p].state with
  | off =>
    have hcapture (j : NestId) (i : Fin 16) := dropBases_capture p j i (portEntered p s)
    have hbases := dropBases_besideBases p (portEntered p s)
    change PortStarted p s (dropBases p (portEntered p s))
    generalize dropBases p (portEntered p s) = u at *
    simp only [State.besideBases, State.besideCapture, Prod.mk.injEq] at hbases
    obtain ⟨⟨-, hnests, hsupplies, hrails, hinputs, htracks, houtputs, hclaims, -, hports, hunposted, hnodes, hlink,
      hprompts, hpost⟩, hchecks⟩ := hbases
    refine ⟨?_, fun j i => ?_, htracks, houtputs, hclaims, ⟨hnests, hsupplies, hrails, hinputs⟩,
      ⟨hchecks, hunposted, hnodes, hlink, hprompts⟩, ?_⟩
    · rw [hports, h]; rfl
    · rw [hcapture]; simp only [h, and_true]; rfl
    · exact ⟨(congrArg Post.fifo hpost : u.post.fifo = s.post.fifo), (congrArg Post.lost hpost : u.post.lost = s.post.lost)⟩
  | silent =>
    have hnotoff : s.ports[p].state ≠ .off := by rw [h]; exact nofun
    refine ⟨?_, fun j i => ?_, rfl, rfl, rfl, ⟨rfl, rfl, rfl, rfl⟩, ⟨rfl, rfl, rfl, rfl, rfl⟩, rfl, rfl⟩
    · rw [h]; rfl
    · rw [if_neg fun hoff => hnotoff hoff.2]; rfl
  | on =>
    have hnotoff : s.ports[p].state ≠ .off := by rw [h]; exact nofun
    refine ⟨?_, fun j i => ?_, rfl, rfl, rfl, ⟨rfl, rfl, rfl, rfl⟩, ⟨rfl, rfl, rfl, rfl, rfl⟩, rfl, rfl⟩
    · rw [if_pos h]; exact (Vector.set_getElem_self p.isLt).symm
    · rw [if_neg fun hoff => hnotoff hoff.2]

/-! ### PORT_STOP (R73) -/

/-- R73: port p of state s has been stopped. -/
structure PortStopped (p : NestId) (s u : State) : Prop where
  off : s.ports[p].state = .off → u = s
  ports : s.ports[p].state ≠ .off →
    u.ports = s.ports.set p { s.ports[p] with state := .off, queue := [], inFlight := none, stall := [] }
  stalled : s.ports[p].state ≠ .off → ∀ t ∈ s.ports[p].stall, u.tracks[t].stalled = false
  played : s.ports[p].state ≠ .off → ∀ (t : TrackId) (e : Entry) (rest : List Entry),
    s.ports[p].stall.count t = 1 → s.tracks[t].held = e :: rest → u.tracks[t] = playedTrack
      { s.tracks[t].losing (lostOf t s.tracks[t].launch s.ports[p].queue + 1) with stalled := false } e rest
  capture : u.capture = s.capture
  plant : SamePlant s u

theorem stopPort_stopped (p : NestId) (s : State) : PortStopped p s (stopPort p s) := by
  unfold stopPort
  by_cases h : s.ports[p].state = .off
  · rw [if_pos h]
    exact ⟨fun _ => rfl, fun hon => absurd h hon, fun hon => absurd h hon, fun hon => absurd h hon, rfl,
      rfl, rfl, rfl, rfl⟩
  · rw [if_neg h]
    change PortStopped p s ((emptied p s).modPort p fun x => { x with state := .off })
    obtain ⟨hplant, hcapture⟩ := emptied_samePlant p s
    refine ⟨fun hoff => absurd hoff h, fun _ => ?_, fun _ t ht => emptied_stalled p s ht,
      fun _ t e rest ht hheld => emptied_played p s ht hheld, hcapture, hplant⟩
    rw [modPort_ports, port_of_set (emptied_ports p s), emptied_ports, Vector.set_set]

/-- R59: as many frames of a list are of this launch as the stated filter keeps. -/
theorem lostOf_eq (k : TrackId) (launch : BitVec 8) (l : List Frame) :
    lostOf k launch l = (l.filter fun f => decide (f.track = k ∧ f.launch = launch)).length := by
  unfold lostOf ofLaunch
  simp only [Bool.decide_and, beq_eq_decide]

/-- Settles O38: a started port enters ON, from OFF without period bases; a stopped one gives up its queue and then its
stalled frames. -/
theorem portsStartAndStop : Obligations.PortsStartAndStop := by
  intro s k a p
  refine ⟨fun hcommand => ?_, fun hcommand => ?_⟩
  · have hact := actPortStart_eq p (wordOperand a.data) (writeAction a (clearHost s))
    change Answers _ _ _ _ (portStartRefusal (writeAction a (clearHost s)) p) _
    refine answers_of_refusal rfl actPortStart_bus hcommand (fun e he => by rw [hact, he]; rfl)
      fun hnone => ⟨_, by rw [hact, hnone]; rfl, ?_⟩
    obtain ⟨hports, hcapture, htracks, houtputs, hclaims, hplant, hchecks, hposted⟩ :=
      startPort_started p (writeAction a (clearHost s))
    generalize startPort p (writeAction a (clearHost s)) = u at *
    exact ⟨hports, hcapture, htracks, houtputs, hclaims, hplant, hchecks, hposted⟩
  · have hact : actPortStop p.val (wordOperand a.data) (writeAction a (clearHost s))
        = .ok (stopPort p (writeAction a (clearHost s))) := onNest_val ..
    refine answers_of_refusal rfl actPortStop_bus hcommand nofun fun _ => ⟨_, hact, ?_⟩
    obtain ⟨hoff, hports, hstalled, hplayed, hcapture, hplant⟩ := stopPort_stopped p (writeAction a (clearHost s))
    generalize stopPort p (writeAction a (clearHost s)) = u at *
    refine ⟨fun h => ?_, fun h => ⟨hports h, hstalled h, fun t e rest ht hheld => ?_⟩, hcapture, hplant⟩
    · rw [hoff h]
      exact ⟨rfl, rfl, rfl, rfl⟩
    · dsimp only
      rw [← lostOf_eq]
      refine (hplayed h t e rest ht hheld).trans ?_
      unfold Track.losing
      rw [counted_of_pos (Nat.succ_ne_zero _)]
      rfl

/-! ### Attempts (R76, R77) -/

theorem flying_of_inFlight {x : Port} {i : Nat} {f : Frame} (hflight : x.inFlight = some i) (hf : x.queue[i]? = some f) :
    x.flying = some (i, f) := by
  unfold Port.flying
  rw [hflight]
  dsimp only
  rw [hf]
  rfl

section
variable {s : State} {p : NestId} {i : Nat} {f : Frame} (h : s.ports[p].flying = some (i, f))
include h

theorem execAcked_flying : execAcked p s = .next (settle (frameAcked p i s)) := by
  unfold execAcked; rw [h]

theorem execNotAcked_flying : execNotAcked p s = .next (settle (frameNotAcked p i f s)) := by
  unfold execNotAcked; rw [h]

theorem execLostArbitration_flying {identifier : BitVec 29} {extended : Bool}
    (hkey : arbitrationKey identifier extended ≤ f.key) : execLostArbitration p identifier extended s
      = .next (s.modPort p fun x => { x with inFlight := none }) := by
  unfold execLostArbitration
  rw [h]
  exact takenIf_true (decide_eq_true hkey) _ _
end

theorem attemptReady_of {x : Port} (hon : x.state = .on) (hflight : x.inFlight = none) (hqueue : x.queue ≠ []) :
    attemptReady x = true := by
  simp [attemptReady, hon, hflight, hqueue]

/-- Settles O39: an attempt begins with the head of the queue and ends by its outcome. -/
theorem attemptsBeginAndEnd : Obligations.AttemptsBeginAndEnd :=
  ⟨fun _ _ hon hflight hqueue => takenIf_true (attemptReady_of hon hflight hqueue) _ _,
    fun _ _ _ _ hflight hf => execAcked_flying (flying_of_inFlight hflight hf),
    fun _ _ _ _ _ _ hflight hf hkey => execLostArbitration_flying (flying_of_inFlight hflight hf) hkey⟩

/-! ### A frame that fails (R78, R79) -/

/-- R78: the frame has left the queue and is reported dropped. -/
def frameRemoved (p : NestId) (i : Nat) (f : Frame) (s : State) : State :=
  reportDrop f (s.modPort p fun x => { x with queue := x.queue.eraseIdx i, inFlight := none })

/-- R78: the failure is counted. -/
def failureCounted (p : NestId) (i : Nat) (f : Frame) (s : State) : State :=
  (frameRemoved p i f s).modPort p fun x => { x with failures := min Config.silenceAfter (x.failures + 1) }

section
variable (p : NestId) (i : Nat) (f : Frame) (s : State)

theorem frameFails_eq : frameFails p i f s =
    if (failureCounted p i f s).ports[p].failures = 8 then silencePort p f (failureCounted p i f s)
    else offerPlace p (failureCounted p i f s) := rfl

theorem frameRemoved_ports : (frameRemoved p i f s).ports =
    s.ports.set p { s.ports[p] with queue := s.ports[p].queue.eraseIdx i, inFlight := none } :=
  congrArg (·.2.2.2.1) (reportDrop_besideDrops f _)

theorem failureCounted_ports : (failureCounted p i f s).ports = s.ports.set p
    { s.ports[p] with
      queue := s.ports[p].queue.eraseIdx i, inFlight := none, failures := min 8 (s.ports[p].failures + 1) } := by
  have h := frameRemoved_ports p i f s
  unfold failureCounted
  rw [modPort_ports, port_of_set h, h, Vector.set_set]
  rfl

theorem failureCounted_track (k : TrackId) : (failureCounted p i f s).tracks[k].renew =
    (s.tracks[k].losing (if ofLaunch k s.tracks[k].launch f then 1 else 0)).renew :=
  reportDrop_track f (s.modPort p fun x => { x with queue := x.queue.eraseIdx i, inFlight := none }) k

/-- Every block but the tracks and the ports, and of posting the FIFO and the lost count. -/
theorem failureCounted_beside : (failureCounted p i f s).outputs = s.outputs
    ∧ (failureCounted p i f s).capture = s.capture ∧ SamePlant s (failureCounted p i f s)
    ∧ SameChecks s (failureCounted p i f s) ∧ NothingPosted s (failureCounted p i f s) := by
  have h : (frameRemoved p i f s).besideDrops = _ := reportDrop_besideDrops f _
  change (frameRemoved p i f s).outputs = _ ∧ (frameRemoved p i f s).capture = _ ∧ SamePlant s (frameRemoved p i f s)
    ∧ SameChecks s (frameRemoved p i f s) ∧ NothingPosted s (frameRemoved p i f s)
  generalize frameRemoved p i f s = u at *
  simp only [State.besideDrops, State.besideTracks, Prod.mk.injEq] at h
  obtain ⟨⟨-, hnests, hsupplies, hrails, hcapture, hinputs, hchecks⟩, houtputs, -, -, hposted⟩ := h
  exact ⟨houtputs, hcapture, ⟨hnests, hsupplies, hrails, hinputs⟩, hchecks, hposted⟩

/-- R79: the port has been silenced and has given up what it held. -/
def silenced : State := emptied p (s.modPort p fun x => { x with state := .silent })

theorem silencePort_eq : silencePort p f s =
    postEvent (evPortSilent p f.identifier f.extended (s.ports[p].queue.length + s.ports[p].stall.length))
      (silenced p s) := rfl

end

theorem plant_of_postEvent (e : Event) (s : State) : (postEvent e s).tracks = s.tracks
    ∧ (postEvent e s).ports = s.ports ∧ (postEvent e s).capture = s.capture ∧ SamePlant s (postEvent e s) := by
  rw [postEvent_eq]
  exact ⟨rfl, rfl, rfl, rfl, rfl, rfl, rfl⟩

/-- R79: port p of state s has been silenced by the failure of frame f. -/
structure PortSilenced (p : NestId) (f : Frame) (s u : State) : Prop where
  ports : u.ports = s.ports.set p { s.ports[p] with state := .silent, queue := [], inFlight := none, stall := [] }
  stalled : ∀ t ∈ s.ports[p].stall, u.tracks[t].stalled = false
  dropped : ∀ k : TrackId, u.tracks[k].dropped = counted
    (lostOf k s.tracks[k].launch s.ports[p].queue + s.ports[p].stall.count k) s.tracks[k].dropped
  event : Reported
    (evPortSilent p f.identifier f.extended (s.ports[p].queue.length + s.ports[p].stall.length)) s u
  capture : u.capture = s.capture
  plant : SamePlant s u

theorem silencePort_silenced (p : NestId) (f : Frame) (s : State) : PortSilenced p f s (silencePort p f s) := by
  have hport : (s.modPort p fun x => { x with state := .silent }).ports[p] = { s.ports[p] with state := .silent } :=
    port_of_set (s := s) rfl
  have hports := emptied_ports p (s.modPort p fun x => { x with state := .silent })
  have hdropped := emptied_dropped p (s.modPort p fun x => { x with state := .silent })
  have hstalled (t : TrackId) := emptied_stalled p (s.modPort p fun x => { x with state := .silent }) (t := t)
  obtain ⟨hplant, hcapture⟩ := emptied_samePlant p (s.modPort p fun x => { x with state := .silent })
  have hgrows := emptied_grows p (s.modPort p fun x => { x with state := .silent })
  rw [hport] at hports hdropped hstalled
  rw [modPort_ports, Vector.set_set] at hports
  rw [silencePort_eq]
  unfold silenced
  generalize emptied p (s.modPort p fun x => { x with state := .silent }) = v at *
  obtain ⟨htracks', hports', hcapture', hnests', hsupplies', hrails', hinputs'⟩ := plant_of_postEvent
    (evPortSilent p f.identifier f.extended (s.ports[p].queue.length + s.ports[p].stall.length)) v
  have hreported := reported_of_postEvent
    (e := evPortSilent p f.identifier f.extended (s.ports[p].queue.length + s.ports[p].stall.length)) (x := s) (s := v)
    hplant.1 hgrows (.refl _)
  generalize postEvent (evPortSilent p f.identifier f.extended (s.ports[p].queue.length + s.ports[p].stall.length)) v
    = u at *
  obtain ⟨hnests, hsupplies, hrails, hinputs⟩ := hplant
  refine ⟨hports'.trans hports, fun t ht => ?_, fun k => ?_, hreported, hcapture'.trans hcapture,
    hnests'.trans hnests, hsupplies'.trans hsupplies, hrails'.trans hrails, hinputs'.trans hinputs⟩
  · rw [htracks']; exact hstalled t ht
  · rw [htracks']; exact hdropped k

/-- R59: the failed frame and those given up after it count together. -/
theorem lostOf_failed (k : TrackId) (launch : BitVec 8) (f : Frame) (l : List Frame) (n : Nat) (d : Nat) :
    counted (lostOf k launch l + n) (counted (if ofLaunch k launch f then 1 else 0) d)
      = counted (lostOf k launch (f :: l) + n) d := by
  rw [counted_counted, lostOf_cons, Nat.add_assoc]

/-- Settles O40: a frame with attempts left goes again; one that fails leaves the queue, and the eighth failure in a row
silences the port. -/
theorem unacknowledgedFramesRetryFailAndSilence : Obligations.UnacknowledgedFramesRetryFailAndSilence := by
  intro s p i f hflight hf
  have hexec : exec (.notAcked p) s = .next (settle (frameNotAcked p i f s)) :=
    execNotAcked_flying (flying_of_inFlight hflight hf)
  have hports := failureCounted_ports p i f s
  have hport := port_of_set hports
  have hfailures := congrArg Port.failures hport
  have hfailed (h : retryLimit s p ≤ f.attempts) : frameNotAcked p i f s = frameFails p i f s := if_neg (by omega)
  dsimp only at hfailures ⊢
  refine ⟨fun hmore => ?_, fun hlast hfew => ?_, fun hlast hmany => ?_⟩
  · have hagain : frameNotAcked p i f s = s.modPort p fun x =>
        { x with queue := x.queue.set i { f with attempts := f.attempts + 1 }, inFlight := none } := if_pos (by omega)
    rw [hexec, hagain]
    rfl
  · obtain ⟨houtputs, hcapture, hplant, hchecks, hposted⟩ := failureCounted_beside p i f s
    have htrack := failureCounted_track p i f s
    rw [hfailed hlast, frameFails_eq, if_neg (by rw [hfailures]; omega)] at hexec
    generalize failureCounted p i f s = w at *
    refine ⟨w, hexec, ?_, fun k => ?_, houtputs, hcapture, hplant, hchecks, hposted⟩
    · rw [hports, Nat.min_eq_right (by omega)]
    · have hdropped := congrArg Track.dropped (htrack k)
      have hstate := congrArg Track.state (htrack k)
      have hheld := congrArg Track.held (htrack k)
      refine ⟨hdropped.trans ?_, hstate, hheld⟩
      have hlaunch : (k = f.track ∧ s.tracks[k].launch = f.launch) ↔ ofLaunch k s.tracks[k].launch f = true := by
        unfold ofLaunch
        rw [Bool.and_eq_true, beq_iff_eq, beq_iff_eq, eq_comm, eq_comm (a := f.launch)]
      simp only [hlaunch]
      change counted (if ofLaunch k s.tracks[k].launch f then 1 else 0) s.tracks[k].dropped = _
      split <;> rfl
  · obtain ⟨-, hcapture', ⟨hnests', hsupplies', hrails', hinputs'⟩, -, hposted⟩ := failureCounted_beside p i f s
    have htrack := failureCounted_track p i f s
    rw [hfailed hlast, frameFails_eq, if_pos (by rw [hfailures]; omega)] at hexec
    obtain ⟨hports', hstalled, hdropped, hevent, hcapture, hnests, hsupplies, hrails, hinputs⟩ :=
      silencePort_silenced p f (failureCounted p i f s)
    generalize failureCounted p i f s = w at *
    generalize silencePort p f w = u at *
    rw [hport] at hports' hstalled hdropped hevent
    refine ⟨u, hexec, ?_, hstalled, fun k => ?_, ?_, hcapture.trans hcapture', hnests.trans hnests',
      hsupplies.trans hsupplies', hrails.trans hrails', hinputs.trans hinputs'⟩
    · rw [hports', hports, Vector.set_set, Nat.min_eq_left (by omega)]
    · have hdropped' := congrArg Track.dropped (htrack k)
      have hlaunch' := congrArg Track.launch (htrack k)
      have hbefore : w.tracks[k].dropped
          = counted (if ofLaunch k s.tracks[k].launch f then 1 else 0) s.tracks[k].dropped := hdropped'
      have hlaunch : w.tracks[k].launch = s.tracks[k].launch := hlaunch'
      rw [hdropped k, hlaunch, hbefore, lostOf_failed]
      rfl
    · obtain ⟨hfifo, hlost⟩ := hposted
      unfold Reported at hevent ⊢
      rw [hlost, words_congr hnests'] at hevent
      exact hevent

end Sys2Proof.Machine
end

section
/-! CERTIFICATE. The statement on the edges of a response input (R88, R90, R94). -/
namespace Sys2Proof.Machine

open Stated

/-! ### The edges of the comparator (R88, R90) -/

section
variable {x : Input} {clock : Clock}

theorem edgeAt_of_same {m : EdgeMark} (h : x.lastEdge = some m) (hm : m.clock = clock) : x.edgeAt clock = some m := by
  simp [Input.edgeAt, h, hm]

theorem edgeAt_of_other (h : ∀ m, x.lastEdge = some m → m.clock ≠ clock) : x.edgeAt clock = none := by
  unfold Input.edgeAt
  cases hm : x.lastEdge with
  | none => rfl
  | some m => simp [Option.filter, h m hm]

theorem takeEdge_of_same {m : EdgeMark} (h : x.lastEdge = some m) (hm : m.clock = clock) :
    x.takeEdge clock = x.undoEdge m := by
  unfold Input.takeEdge
  rw [edgeAt_of_same h hm]

theorem takeEdge_of_other (h : ∀ m, x.lastEdge = some m → m.clock ≠ clock) : x.takeEdge clock = x.newEdge clock := by
  unfold Input.takeEdge
  rw [edgeAt_of_other h]

/-- R88, R90: the comparator has gone HIGH; the edge counts once the first gate of the input has begun. -/
theorem newEdge_of_low (h : x.high = false) : x.newEdge clock =
    if x.position = none then { x with high := true, lastEdge := some ⟨clock, x.gate, x.edges⟩ }
    else { x with high := true, lastEdge := some ⟨clock, x.gate, x.edges⟩ : Input }.countRise clock := by
  unfold Input.newEdge
  rw [h]
  rfl

/-- R88, R90: the comparator has gone LOW; in a gate the high time grows. -/
theorem newEdge_of_high (h : x.high = true) : x.newEdge clock =
    { x with
      high := false
      gate := if x.position = none then x.gate else x.gate.fall clock
      lastEdge := some ⟨clock, x.gate, x.edges⟩ } := by
  unfold Input.newEdge
  rw [h]
  split <;> rfl
end

section
variable {s : State} {i : InputId}

theorem exec_risingEdge (h : seesEdges s i = true) (hlow : s.inputs[i].high = false) : exec (.risingEdge i) s
    = .next { s with inputs := s.inputs.set i (s.inputs[i].takeEdge s.nests[nestOfInput i].clock) } :=
  takenIf_true (by rw [h, hlow]; rfl) _ _

theorem exec_fallingEdge (h : seesEdges s i = true) (hhigh : s.inputs[i].high = true) : exec (.fallingEdge i) s
    = .next { s with inputs := s.inputs.set i (s.inputs[i].takeEdge s.nests[nestOfInput i].clock) } :=
  takenIf_true (by rw [h, hhigh]; rfl) _ _

theorem takenIf_false {b : Bool} (h : b = false) (t s : State) : takenIf b t s = .next s := by
  rw [h]
  rfl

theorem exec_edges_unseen (h : seesEdges s i = false) :
    exec (.risingEdge i) s = .next s ∧ exec (.fallingEdge i) s = .next s :=
  ⟨takenIf_false (by rw [h]; rfl) _ _, takenIf_false (by rw [h]; rfl) _ _⟩

theorem seesEdges_eq_true (h : s.inputs[i].measuring = true) (hthreshold : edgeThreshold s i ≠ 0) :
    seesEdges s i = true := by
  unfold seesEdges
  rw [h, bne_iff_ne.2 hthreshold]
  rfl

theorem seesEdges_eq_false (h : s.inputs[i].measuring = false ∨ edgeThreshold s i = 0) : seesEdges s i = false := by
  unfold seesEdges
  rcases h with h | h
  · rw [h, Bool.false_and]
  · rw [h, bne_self_eq_false, Bool.and_false]
end

/-- Settles O42: an edge in the microsecond of the latest one takes it back; any other is a rise or a fall. -/
theorem edgesReachTheGateRecord : Obligations.EdgesReachTheGateRecord := by
  intro s i
  dsimp only
  refine ⟨fun hmeasuring hthreshold => ?_, fun h => exec_edges_unseen (seesEdges_eq_false h)⟩
  have hsees := seesEdges_eq_true hmeasuring hthreshold
  refine ⟨fun m hlast hclock => ⟨fun hlow => ?_, fun hhigh => ?_⟩, fun hother => ⟨fun hlow => ?_, fun hhigh => ?_⟩⟩
  · rw [exec_risingEdge hsees hlow, takeEdge_of_same hlast hclock]
    rfl
  · rw [exec_fallingEdge hsees hhigh, takeEdge_of_same hlast hclock]
    rfl
  · rw [exec_risingEdge hsees hlow, takeEdge_of_other hother, newEdge_of_low hlow]
    rfl
  · rw [exec_fallingEdge hsees hhigh, takeEdge_of_other hother, newEdge_of_high hhigh]
    generalize s.inputs[i] = x
    generalize s.nests[nestOfInput i].clock = clock
    obtain ⟨measuring, mode, history, taken, high, position, firstDone, ⟨rising, first, last, time, before⟩, edges, value,
      lastEdge⟩ := x
    cases position with
    | none => rfl
    | some k =>
      cases first with
      | none => rfl
      | some b => cases last <;> rfl

end Sys2Proof.Machine
end

section
/-! CERTIFICATE. The statements on the ends of delays and the samples of checks (R108 to R111, R113, R114). -/
namespace Sys2Proof.Machine

open Stated

/-! ### What a sample says of its check, whatever else stands in the record -/

section
variable {s u : State} {c : CheckId} {f : Check → Check}
  (hf : ∀ k : Check, (f k).arming = k.arming ∧ (f k).session = k.session ∧ (f k).trigger = k.trigger)
include hf

theorem decided_of_modCheck {d : Decision} (h : Decided c d (s.modCheck c f) u) : Decided c d s u := by
  change VerdictStands c (verdictOf s c d) u
  rw [← verdictOf_modCheck hf]
  exact h

theorem levelSampled_of_modCheck (h : LevelSampled c (s.modCheck c f) u) : LevelSampled c s u := by
  obtain ⟨hnone, hsome⟩ := h
  exact ⟨fun hv => decided_of_modCheck hf (hnone hv), fun v hv => decided_of_modCheck hf (hsome v hv)⟩

theorem windowSampled_of_modCheck {x : Check} (h : WindowSampled c x (s.modCheck c f) u) : WindowSampled c x s u := by
  obtain ⟨hnone, hsome⟩ := h
  refine ⟨fun hv => decided_of_modCheck hf (hnone hv), fun v hv => ?_⟩
  obtain ⟨hchecks, hrest⟩ := hsome v hv
  rw [modCheck_checks, Vector.set_set] at hchecks
  exact ⟨hchecks, hrest⟩

theorem profileSampled_of_modCheck {x : Check} (h : ProfileSampled c x (s.modCheck c f) u) : ProfileSampled c x s u := by
  obtain ⟨⟨hnone, hsome⟩, hgoes, hposted⟩ := h
  refine ⟨⟨fun hv => decided_of_modCheck hf (hnone hv), fun v hv => ?_⟩, fun v hv => ?_, hposted⟩
  · obtain ⟨hlow, hhigh, hpass⟩ := hsome v hv
    exact ⟨fun h => decided_of_modCheck hf (hlow h), fun h h' => decided_of_modCheck hf (hhigh h h'),
      fun h h' hlast => decided_of_modCheck hf (hpass h h' hlast)⟩
  · obtain ⟨hchecks, hrest⟩ := hgoes v hv
    rw [modCheck_checks, Vector.set_set] at hchecks
    exact ⟨hchecks, hrest⟩
end

/-! ### One sample by kind (R108 to R111) -/

section
variable (s : State) (c : CheckId)

/-- R107, R108: the one sample of a LEVEL check decides it. -/
theorem finishLevelSample : LevelSampled c s (finishCheck c (takeLevelSample c s)) := by
  refine ⟨fun hnone => ?_, fun v hv => ?_⟩
  · have h : takeLevelSample c s = (s.modCheck c fun k => k, some { verdict := .noData }) := by
      unfold takeLevelSample
      rw [hnone]
      exact congrArg (fun l => ({ s with checks := l }, some _)) (Vector.set_getElem_self c.isLt).symm
    rw [h]
    exact finishCheck_decided fun _ => ⟨rfl, rfl, rfl⟩
  · have h : takeLevelSample c s = (s.modCheck c fun k => { k with samples := 1, last := some v },
        some { verdict := judgeRecord s (limitIndex s c) v, detail := 1, a := v }) := by
      unfold takeLevelSample
      rw [hv]
    rw [h]
    exact finishCheck_decided fun _ => ⟨rfl, rfl, rfl⟩

/-- R109: a sample advances the count of a WINDOW check and moves its extremes; a missing one decides it. -/
theorem finishWindowSample : WindowSampled c s.checks[c] s (finishCheck c (takeWindowSample c s)) := by
  refine ⟨fun hnone => ?_, fun v hv => ?_⟩
  · have h : takeWindowSample c s
        = (s.modCheck c fun k => k, some { verdict := .noData, detail := s.checks[c].samples }) := by
      unfold takeWindowSample
      rw [hnone]
      exact congrArg (fun l => ({ s with checks := l }, some _)) (Vector.set_getElem_self c.isLt).symm
    rw [h]
    exact finishCheck_decided fun _ => ⟨rfl, rfl, rfl⟩
  · unfold takeWindowSample
    rw [hv]
    refine ⟨congrArg (fun k => s.checks.set c k) ?_, rfl, ⟨rfl, rfl⟩, rfl, rfl⟩
    generalize s.checks[c] = k
    obtain ⟨state, arming, session, trigger, phase, samples, minimum, maximum, last, base, signature, fed, due, query,
      held⟩ := k
    cases minimum <;> cases maximum <;> rfl

/-- R110, R111: a sample of a PROFILE decides it, or it goes on and nothing is posted. -/
theorem finishProfileSampled : ProfileSampled c s.checks[c] s (finishCheck c (takeProfileSample c s)) := by
  obtain ⟨hdecides, hgoes⟩ := finishProfileSample s c
  refine ⟨hdecides, hgoes, fun v hv => ?_⟩
  obtain ⟨hsample, hlow, hhigh, hmore⟩ := hv
  have hnone : profileOutcome s c v = none :=
    (if_neg (Int.not_lt.2 hlow)).trans ((if_neg (Int.not_lt.2 hhigh)).trans (if_neg (Nat.not_le.2 hmore)))
  rw [takeProfileSample_some hsample, hnone]
  exact ⟨rfl, rfl⟩

/-- R114, R131: the GET joins the link queue, or is held where the queue is full. -/
theorem startQuery_asks : (startQuery c s).checks = s.checks.set c
      { s.checks[c] with
        state := .querying
        phase := checkClock s c
        query := if s.link.queue.length < 16 then .issued else .held }
    ∧ (startQuery c s).link =
      { s.link with
        queue := if s.link.queue.length < 16 then s.link.queue ++ [queryRequest s c] else s.link.queue } := by
  have hrequest : queryRequest (s.modCheck c fun k => { k with state := .querying, phase := checkClock s c }) c
      = queryRequest s c := by
    unfold queryRequest
    rw [modCheck_get, if_pos rfl]
    rfl
  have hfree : (linkFree (s.modCheck c fun k => { k with state := .querying, phase := checkClock s c }) = true)
      = (s.link.queue.length < 16) := decide_eq_true_eq
  unfold startQuery offerQuery
  simp only [hfree]
  by_cases h : s.link.queue.length < 16
  · rw [if_pos h, if_pos h, if_pos h, hrequest]
    refine ⟨?_, rfl⟩
    rw [modCheck_checks]
    simp [joinQueue]
  · rw [if_neg h, if_neg h, if_neg h, modCheck_modCheck]
    exact ⟨rfl, rfl⟩

end

/-! ### The step that ends a settle delay (R108 to R111, R113, R114) -/

/-- The check is SAMPLING and its phase starts. -/
def samplingBegun (c : CheckId) (s : State) : State :=
  s.modCheck c fun k => { k with state := .sampling, phase := checkClock s c }

theorem samplingBegun_check (c : CheckId) (s : State) : (samplingBegun c s).checks[c]
    = { s.checks[c] with state := .sampling, phase := checkClock s c } := (modCheck_get ..).trans (if_pos rfl)

section
variable {s : State} {c : CheckId}

theorem endDelay_level (h : checkKind s c = some .level) : endDelay c s = takeLevelSample c s := by
  unfold endDelay; rw [h]
theorem endDelay_window (h : checkKind s c = some .window) : endDelay c s = takeWindowSample c (samplingBegun c s) := by
  unfold endDelay; rw [h]; rfl
theorem endDelay_profile (h : checkKind s c = some .profile) :
    endDelay c s = takeProfileSample c (samplingBegun c s) := by
  unfold endDelay; rw [h]; rfl
theorem endDelay_signature (h : checkKind s c = some .signature) : endDelay c s = (samplingBegun c s, none) := by
  unfold endDelay; rw [h]; rfl
theorem endDelay_query (h : checkKind s c = some .query) : endDelay c s = (startQuery c s, none) := by
  unfold endDelay; rw [h]

/-- What the end of the settle delay makes of check c of state s, its record then being x. -/
structure DelayEnded (c : CheckId) (s : State) (x : Check) (u : State) : Prop where
  level : checkKind s c = some .level → LevelSampled c s u
  window : checkKind s c = some .window →
    WindowSampled c { x with state := .sampling, phase := checkClock s c } s u
  profile : checkKind s c = some .profile →
    ProfileSampled c { x with state := .sampling, phase := checkClock s c } s u
  signature : checkKind s c = some .signature →
    u.checks = s.checks.set c { x with state := .sampling, phase := checkClock s c }
  query : checkKind s c = some .query →
    u.checks = s.checks.set c
        { x with
          state := .querying
          phase := checkClock s c
          query := if s.link.queue.length < 16 then .issued else .held }
      ∧ u.link =
        { s.link with
          queue := if s.link.queue.length < 16 then s.link.queue ++ [queryRequest s c] else s.link.queue }

theorem finishCheck_none (c : CheckId) (s : State) : finishCheck c (s, none) = s := rfl

theorem finishDelay (s : State) (c : CheckId) : DelayEnded c s s.checks[c] (finishCheck c (endDelay c s)) := by
  refine ⟨fun h => ?_, fun h => ?_, fun h => ?_, fun h => ?_, fun h => ?_⟩
  · rw [endDelay_level h]
    exact finishLevelSample s c
  · rw [endDelay_window h, ← samplingBegun_check]
    exact windowSampled_of_modCheck (f := fun k => { k with state := .sampling, phase := checkClock s c })
      (fun _ => ⟨rfl, rfl, rfl⟩) (finishWindowSample (samplingBegun c s) c)
  · rw [endDelay_profile h, ← samplingBegun_check]
    exact profileSampled_of_modCheck (f := fun k => { k with state := .sampling, phase := checkClock s c })
      (fun _ => ⟨rfl, rfl, rfl⟩) (finishProfileSampled (samplingBegun c s) c)
  · rw [endDelay_signature h, finishCheck_none]
    rfl
  · rw [endDelay_query h, finishCheck_none]
    exact startQuery_asks s c
end

/-! ### What a check that is finished leaves -/

theorem finishCheck_nodes (c : CheckId) (x : State × Option Decision) : (finishCheck c x).nodes = x.1.nodes := by
  obtain ⟨s, d⟩ := x
  cases d with
  | none => rfl
  | some d => exact decideCheck_nodes c d s

/-- Every block but the check and link side is as it was, and the nodes are. -/
def KeepsBesides (s u : State) : Prop :=
  u.nodes = s.nodes ∧ u.path = s.path ∧ u.mem = s.mem ∧ SamePlant s u ∧ SameStimulus s u

theorem keepsBesides_of {s u : State} (hplant : u.plant = s.plant) (hnodes : u.nodes = s.nodes) : KeepsBesides s u := by
  have hbus := bus_of_plant hplant
  exact ⟨hnodes, path_of_bus hbus, congrArg (·.2.1) hbus, samePlant_of_plant hplant,
    sameStimulus_of_bench (bench_of_plant hplant)⟩

theorem finishCheck_besides {c : CheckId} {s : State} {x : State × Option Decision} (hplant : x.1.plant = s.plant)
    (hnodes : x.1.nodes = s.nodes) : KeepsBesides s (finishCheck c x) :=
  keepsBesides_of ((finishCheck_plant c x).trans hplant) ((finishCheck_nodes c x).trans hnodes)

theorem takeWindowSample_nodes (c : CheckId) (s : State) : (takeWindowSample c s).1.nodes = s.nodes := by
  unfold takeWindowSample
  split <;> rfl

theorem takeProfileSample_nodes (c : CheckId) (s : State) : (takeProfileSample c s).1.nodes = s.nodes := by
  unfold takeProfileSample
  dsimp only
  repeat' split
  all_goals rfl

/-- Settles O47: the end of the delay is the step of the kind; the samples that fall due are those of one sample each. -/
theorem delaysEndAndDueSamplesAreTaken : Obligations.DelaysEndAndDueSamplesAreTaken := by
  refine ⟨fun s c h => ?_, fun s c => ⟨fun h => ?_, fun h => ?_, fun h => ?_⟩⟩
  · obtain ⟨hlevel, hwindow, hprofile, hsignature, hquery⟩ := finishDelay s c
    exact ⟨_, takenIf_true h _ _, hlevel, hwindow, hprofile, hsignature, hquery,
      finishCheck_besides (endDelay_plant c s) (Prod.mk.inj (endDelay_nodes_prompts c s)).1⟩
  · obtain ⟨hnodes, -, -, hplant, hstimulus⟩ :=
      finishCheck_besides (c := c) (takeWindowSample_plant c s) (takeWindowSample_nodes c s)
    exact ⟨_, takenIf_true h _ _, finishWindowSample s c, hnodes, hplant, hstimulus⟩
  · obtain ⟨hnodes, -, -, hplant, hstimulus⟩ :=
      finishCheck_besides (c := c) (takeProfileSample_plant c s) (takeProfileSample_nodes c s)
    exact ⟨_, takenIf_true h _ _, finishProfileSampled s c, hnodes, hplant, hstimulus⟩
  · obtain ⟨hnodes, -, -, hplant, hstimulus⟩ :=
      finishCheck_besides (c := c) (takeProfileSample_plant c s) (takeProfileSample_nodes c s)
    exact ⟨_, takenIf_true h _ _, finishProfileSampled s c, hnodes, hplant, hstimulus⟩

end Sys2Proof.Machine
end

section
/-! CERTIFICATE. The statement on the start of a triggered check (R104, R108 to R115, R146). -/
namespace Sys2Proof.Machine

open Stated

/-! ### A settle delay that begins, and may end at once (R104) -/

/-- The check is DELAYING and its phase starts. -/
def delayBegun (c : CheckId) (s : State) : State :=
  s.modCheck c fun k => { k with state := .delaying, phase := checkClock s c }

section
variable {s : State} {c : CheckId}

theorem startDelay_waits (h : settleDelay s c ≠ 0) : startDelay c s = (delayBegun c s, none) := if_neg h

theorem startDelay_ends (h : settleDelay s c = 0) : startDelay c s = endDelay c (delayBegun c s) := if_pos h

theorem queryRequest_modCheck {f : Check → Check}
    (hf : ∀ k : Check, (f k).arming = k.arming ∧ (f k).session = k.session) :
    queryRequest (s.modCheck c f) c = queryRequest s c := by
  obtain ⟨harming, hsession⟩ := hf s.checks[c]
  unfold queryRequest
  rw [modCheck_get, if_pos rfl]
  dsimp only
  rw [harming, hsession]
  rfl

/-- What stands in the record before the settle delay ends is told by the step alone. -/
theorem delayEnded_of_modCheck {f : Check → Check} {x : Check} {u : State}
    (hf : ∀ k : Check, (f k).arming = k.arming ∧ (f k).session = k.session ∧ (f k).trigger = k.trigger)
    (h : DelayEnded c (s.modCheck c f) x u) : DelayEnded c s x u := by
  obtain ⟨hlevel, hwindow, hprofile, hsignature, hquery⟩ := h
  refine ⟨fun hk => levelSampled_of_modCheck hf (hlevel hk), fun hk => windowSampled_of_modCheck hf (hwindow hk),
    fun hk => profileSampled_of_modCheck hf (hprofile hk), fun hk => ?_, fun hk => ?_⟩
  · have hchecks := hsignature hk
    rw [modCheck_checks, Vector.set_set] at hchecks
    exact hchecks
  · obtain ⟨hchecks, hlink⟩ := hquery hk
    rw [modCheck_checks, Vector.set_set] at hchecks
    rw [queryRequest_modCheck fun k => ⟨(hf k).1, (hf k).2.1⟩] at hlink
    exact ⟨hchecks, hlink⟩

theorem finishStartDelay (h : settleDelay s c = 0) :
    DelayEnded c s (delayBegun c s).checks[c] (finishCheck c (startDelay c s)) := by
  rw [startDelay_ends h]
  exact delayEnded_of_modCheck (f := fun k => { k with state := .delaying, phase := checkClock s c })
    (fun _ => ⟨rfl, rfl, rfl⟩) (finishDelay (delayBegun c s) c)
end

/-! ### The start of a check by its kind (R104, R110, R112, R113, R115) -/

/-- R104: the trigger time is recorded. -/
def triggerRecorded (c : CheckId) (s : State) : State :=
  s.modCheck c fun k => { k with trigger := some (checkClock s c) }

theorem triggerRecorded_check (c : CheckId) (s : State) : (triggerRecorded c s).checks[c]
    = { s.checks[c] with trigger := some (checkClock s c) } := (modCheck_get ..).trans (if_pos rfl)

theorem triggerRecorded_set (c : CheckId) (s : State) (k : Check) :
    (triggerRecorded c s).checks.set c k = s.checks.set c k := by
  unfold triggerRecorded
  rw [modCheck_checks, Vector.set_set]

/-- R113: the signature starts from its seed. -/
def signatureSeeded (c : CheckId) (s : State) : State :=
  s.modCheck c fun k => { k with signature := signatureSeed (signatureWidth s c), fed := 0 }

/-- R115: the check waits for its prompt, at the tail of the list of its nest. -/
def promptJoined (c : CheckId) (s : State) : State :=
  joinWaiting c (s.modCheck c fun k => { k with state := .promptWait, phase := checkClock s c })

section
variable {s : State} {c : CheckId}

/-- R104: the kind is read from the record, which no trigger changes. -/
theorem kindRecorded {k : Option CheckKind} (h : checkKind s c = k) :
    checkKind (s.modCheck c fun k => { k with trigger := some (checkClock s c) }) c = k := h

theorem startCheck_level (h : checkKind s c = some .level) : startCheck c s = startDelay c (triggerRecorded c s) := by
  unfold startCheck; dsimp only; rw [kindRecorded h]; rfl
theorem startCheck_window (h : checkKind s c = some .window) : startCheck c s = startDelay c (triggerRecorded c s) := by
  unfold startCheck; dsimp only; rw [kindRecorded h]; rfl
theorem startCheck_query (h : checkKind s c = some .query) : startCheck c s = startDelay c (triggerRecorded c s) := by
  unfold startCheck; dsimp only; rw [kindRecorded h]; rfl
theorem startCheck_unmarked (h : checkKind s c = some .profile) (hm : markedProfile s c = false) :
    startCheck c s = startDelay c (triggerRecorded c s) := by
  unfold startCheck; dsimp only; rw [kindRecorded h]; exact if_neg (Bool.eq_false_iff.1 hm)
theorem startCheck_marked (h : checkKind s c = some .profile) (hm : markedProfile s c = true) :
    startCheck c s = (samplingBegun c (triggerRecorded c s), none) := by
  unfold startCheck; dsimp only; rw [kindRecorded h]; exact if_pos hm
theorem startCheck_signature (h : checkKind s c = some .signature) :
    startCheck c s = startDelay c (signatureSeeded c (triggerRecorded c s)) := by
  unfold startCheck; dsimp only; rw [kindRecorded h]; rfl
theorem startCheck_charge (h : checkKind s c = some .charge) : startCheck c s = startCharge c (triggerRecorded c s) := by
  unfold startCheck; dsimp only; rw [kindRecorded h]; rfl
theorem startCheck_operator (h : checkKind s c = some .operator) :
    startCheck c s = (promptJoined c (triggerRecorded c s), none) := by
  unfold startCheck; dsimp only; rw [kindRecorded h]; rfl

theorem startCheck_delays
    (h : checkKind s c = some .level ∨ checkKind s c = some .window ∨ checkKind s c = some .query
      ∨ checkKind s c = some .profile ∧ markedProfile s c = false) :
    startCheck c s = startDelay c (triggerRecorded c s) := by
  rcases h with h | h | h | ⟨h, hm⟩
  · exact startCheck_level h
  · exact startCheck_window h
  · exact startCheck_query h
  · exact startCheck_unmarked h hm

/-- R104: but for an OPERATOR check, a start is one step, and the decision that falls in it is carried out. -/
theorem beginCheck_finishes (h : checkKind s c ≠ some .operator) :
    beginCheck decideCheck c s = finishCheck c (startCheck c s) := by
  have hkind : checkKind (startCheck c s).1 c = checkKind s c := checkKind_congr (startCheck_path c s) c
  unfold beginCheck finishCheck
  generalize startCheck c s = r at hkind ⊢
  obtain ⟨t, d⟩ := r
  cases d with
  | none => exact if_neg (by rw [hkind]; exact h)
  | some d => rfl

/-- R146: the head of the list that an OPERATOR check has joined is taken. -/
theorem beginCheck_operator (h : checkKind s c = some .operator) :
    beginCheck decideCheck c s = takeHeads decideCheck (checkNest s c) (promptJoined c (triggerRecorded c s)) := by
  unfold beginCheck
  rw [startCheck_operator h]
  exact if_pos h

/-- R104: a delay that begins with the start of the check. -/
theorem begins_delaying (h : startCheck c s = startDelay c (triggerRecorded c s))
    (hkind : checkKind s c ≠ some .operator) (hdelay : settleDelay s c ≠ 0) : (beginCheck decideCheck c s).checks =
      s.checks.set c
        { s.checks[c] with trigger := some (checkClock s c), state := .delaying, phase := checkClock s c } := by
  rw [beginCheck_finishes hkind, h, startDelay_waits (s := triggerRecorded c s) hdelay, ← triggerRecorded_set]
  unfold delayBegun
  rw [finishCheck_none, modCheck_checks, triggerRecorded_check]
  rfl

theorem delayBegun_recorded_check (c : CheckId) (s : State) : (delayBegun c (triggerRecorded c s)).checks[c]
    = { s.checks[c] with trigger := some (checkClock s c), state := .delaying, phase := checkClock s c } := by
  unfold delayBegun
  rw [modCheck_get, if_pos rfl, triggerRecorded_check]
  rfl

/-- R104: a start whose delay is 0 takes the step that ends the delay. -/
theorem begins_ended (h : startCheck c s = startDelay c (triggerRecorded c s)) (hkind : checkKind s c ≠ some .operator)
    (hdelay : settleDelay s c = 0) : DelayEnded c (triggerRecorded c s)
      { s.checks[c] with trigger := some (checkClock s c), state := .delaying, phase := checkClock s c }
      (beginCheck decideCheck c s) := by
  rw [beginCheck_finishes hkind, h, ← delayBegun_recorded_check]
  exact finishStartDelay (s := triggerRecorded c s) hdelay

end

/-! ### CHARGE and SIGNATURE (R112, R113) -/

section
variable {s : State} {c : CheckId}

theorem signatureSeeded_check (c : CheckId) (s : State) : (signatureSeeded c s).checks[c]
    = { s.checks[c] with signature := signatureSeed (signatureWidth s c), fed := 0 } :=
  (modCheck_get ..).trans (if_pos rfl)

theorem begins_signature (hkind : checkKind s c = some .signature) : (beginCheck decideCheck c s).checks = s.checks.set c
      { s.checks[c] with
        trigger := some (checkClock s c)
        state := if settleDelay s c = 0 then .sampling else .delaying
        phase := checkClock s c
        signature := signatureSeed (signatureWidth s c)
        fed := 0 } := by
  rw [beginCheck_finishes (by rw [hkind]; exact nofun), startCheck_signature hkind]
  by_cases hdelay : settleDelay s c = 0
  · have hend : endDelay c (delayBegun c (signatureSeeded c (triggerRecorded c s)))
        = (samplingBegun c (delayBegun c (signatureSeeded c (triggerRecorded c s))), none) := endDelay_signature hkind
    rw [startDelay_ends (s := signatureSeeded c (triggerRecorded c s)) hdelay, hend, finishCheck_none, if_pos hdelay]
    unfold samplingBegun delayBegun signatureSeeded triggerRecorded
    simp only [modCheck_modCheck]
    rfl
  · rw [startDelay_waits (s := signatureSeeded c (triggerRecorded c s)) hdelay, finishCheck_none, if_neg hdelay]
    unfold delayBegun signatureSeeded triggerRecorded
    simp only [modCheck_modCheck]
    rfl

theorem startCharge_on {j : Fin 3} (h : sourceRail s c = some j)
    (hon : s.rails[railOf (checkNest s c) j].state = .on ∨ s.rails[railOf (checkNest s c) j].state = .limiting) :
    startCharge c s = (s.modCheck c fun k =>
      { k with
        state := .sampling
        base := s.rails[railOf (checkNest s c) j].charge
        phase := checkClock s c }, none) := by
  unfold startCharge
  rw [h]
  exact if_pos hon

theorem startCharge_off {j : Fin 3} (h : sourceRail s c = some j)
    (hoff : ¬ (s.rails[railOf (checkNest s c) j].state = .on ∨ s.rails[railOf (checkNest s c) j].state = .limiting)) :
    startCharge c s = (s, some { verdict := .sourceFault, detail := detailRailNotOn }) := by
  unfold startCharge
  rw [h]
  exact if_neg hoff

theorem begins_charge_on {j : Fin 3} (hkind : checkKind s c = some .charge) (h : sourceRail s c = some j)
    (hon : s.rails[railOf (checkNest s c) j].state = .on ∨ s.rails[railOf (checkNest s c) j].state = .limiting) :
    (beginCheck decideCheck c s).checks = s.checks.set c
      { s.checks[c] with
        trigger := some (checkClock s c)
        state := .sampling
        base := s.rails[railOf (checkNest s c) j].charge
        phase := checkClock s c } := by
  rw [beginCheck_finishes (by rw [hkind]; exact nofun), startCheck_charge hkind,
    startCharge_on (s := triggerRecorded c s) h hon, finishCheck_none]
  unfold triggerRecorded
  rw [modCheck_modCheck]
  rfl

theorem begins_charge_off {j : Fin 3} (hkind : checkKind s c = some .charge) (h : sourceRail s c = some j)
    (hoff : ¬ (s.rails[railOf (checkNest s c) j].state = .on ∨ s.rails[railOf (checkNest s c) j].state = .limiting)) :
    Decided c { verdict := .sourceFault, detail := detailRailNotOn } (triggerRecorded c s)
      (beginCheck decideCheck c s) := by
  rw [beginCheck_finishes (by rw [hkind]; exact nofun), startCheck_charge hkind,
    startCharge_off (s := triggerRecorded c s) h hoff, finishCheck_some]
  exact decideCheck_stands c _ (triggerRecorded c s)

end

/-! ### OPERATOR (R115, R146, R147) -/

section
variable (c : CheckId) (s : State)

/-- R115: what a triggered OPERATOR check puts into the list. -/
def armingOf : Arming := ⟨c, s.checks[c].arming, s.checks[c].session⟩

/-- R115: the record of a triggered OPERATOR check. -/
def promptRecord : Check :=
  { s.checks[c] with trigger := some (checkClock s c), state := .promptWait, phase := checkClock s c }

theorem promptJoined_checks :
    (promptJoined c (triggerRecorded c s)).checks = s.checks.set c (promptRecord c s) := by
  unfold promptJoined joinWaiting triggerRecorded
  rw [modCheck_modCheck]
  rfl

theorem promptJoined_prompts : (promptJoined c (triggerRecorded c s)).prompts = s.prompts.set (checkNest s c)
    { s.prompts[checkNest s c] with waiting := s.prompts[checkNest s c].waiting ++ [armingOf c s] } := by
  unfold promptJoined joinWaiting triggerRecorded
  rw [modCheck_modCheck, modCheck_get, if_pos rfl]
  rfl

theorem promptJoined_check : (promptJoined c (triggerRecorded c s)).checks[c] = promptRecord c s := by
  rw [promptJoined_checks]; simp

theorem promptJoined_prompt : (promptJoined c (triggerRecorded c s)).prompts[checkNest s c] =
    { s.prompts[checkNest s c] with waiting := s.prompts[checkNest s c].waiting ++ [armingOf c s] } := by
  rw [promptJoined_prompts]; simp

theorem promptJoined_asks : Asks (armingOf c s) (promptJoined c (triggerRecorded c s)) := by
  unfold Asks
  change ((promptJoined c (triggerRecorded c s)).checks[c].state = .promptWait
      ∨ (promptJoined c (triggerRecorded c s)).checks[c].state = .prompting)
    ∧ (promptJoined c (triggerRecorded c s)).checks[c].arming = _
    ∧ (promptJoined c (triggerRecorded c s)).checks[c].session = _
  rw [promptJoined_check]
  exact ⟨.inl rfl, rfl, rfl⟩

theorem promptJoined_verdict (d : Decision) :
    verdictOf (promptJoined c (triggerRecorded c s)) c d = verdictOf (triggerRecorded c s) c d :=
  verdictOf_modCheck (s := triggerRecorded c s) (f := fun k => { k with state := .promptWait, phase := checkClock s c })
    (fun _ => ⟨rfl, rfl, rfl⟩) d

end

theorem takeHeads_of_unfree {decide : CheckId → Decision → State → State} {n : NestId} {s : State}
    (h : s.prompts[n].state ≠ .free) : takeHeads decide n s = s := by
  unfold takeHeads
  cases s.prompts[n].waiting.length with
  | zero => rfl
  | succ k => unfold takeHeadsFuel; rw [takeHead_of_unfree h]

/-- R146: a prompt taken from the head of a list moves its check and offers its LOAD. -/
theorem openPrompt_opens (n : NestId) (a : Arming) (d : NodeId) (s : State) :
    OffersStep n .load
      { s.prompts[n] with
        state := .loading
        sequence := nextSequence s.prompts[n].sequence
        check := some a
        text := promptText s a.check
        answers := answerSet s a.check
        panel := d
        withdrawn := false }
      (s.modCheck a.check fun k => k.taken a) (openPrompt n a d s) :=
  offerStep_offers n .load
    (fun p =>
      { p with
        state := .loading
        sequence := nextSequence p.sequence
        check := some a
        text := promptText s a.check
        answers := answerSet s a.check
        panel := d
        withdrawn := false }) (s.modCheck a.check fun k => k.taken a)

section
variable {s : State} {c : CheckId} (hkind : checkKind s c = some .operator)
include hkind

theorem begins_waiting (h : s.prompts[checkNest s c].state ≠ .free) :
    beginCheck decideCheck c s = promptJoined c (triggerRecorded c s) := by
  rw [beginCheck_operator hkind]
  exact takeHeads_of_unfree (by rw [promptJoined_prompt]; exact h)

theorem begins_prompting {d : NodeId} (hfree : s.prompts[checkNest s c].state = .free)
    (hwaiting : s.prompts[checkNest s c].waiting = []) (hready : readyPanel s (checkNest s c) = some d) :
    beginCheck decideCheck c s = openPrompt (checkNest s c) (armingOf c s) d
      (dequeue (checkNest s c) [] (promptJoined c (triggerRecorded c s))) := by
  rw [beginCheck_operator hkind]
  refine takeHeads_of_ready ?_ ?_ ?_
  · rw [promptJoined_prompt]; exact hfree
  · rw [promptJoined_prompt]
    dsimp only
    rw [hwaiting, List.nil_append]
  · exact hready

theorem begins_unready (hfree : s.prompts[checkNest s c].state = .free)
    (hwaiting : s.prompts[checkNest s c].waiting = []) (hready : readyPanel s (checkNest s c) = none) :
    Decided c { verdict := .sourceFault, detail := detailPanelNotReady } (triggerRecorded c s)
        (beginCheck decideCheck c s)
      ∧ (beginCheck decideCheck c s).prompts[checkNest s c].state = .free
      ∧ (beginCheck decideCheck c s).prompts[checkNest s c].sequence = s.prompts[checkNest s c].sequence := by
  have hnone : readyPanel (promptJoined c (triggerRecorded c s)) (checkNest s c) = none := hready
  have hpassed := passedBy_keptByChain (s := promptJoined c (triggerRecorded c s)) (.inr hnone)
  obtain ⟨⟨-, hstands⟩, -⟩ := hpassed.takeHeads (fun he ht => hpassed.decideCheck he ht) (checkNest s c) (.refl ..)
  have hdecides := takeHeads_decides (s := promptJoined c (triggerRecorded c s)) (n := checkNest s c)
    (x := armingOf c s) (rest := []) (by rw [promptJoined_prompt]; exact hfree)
    (by rw [promptJoined_prompt]; dsimp only; rw [hwaiting, List.nil_append]) hnone (promptJoined_asks c s)
  rw [promptJoined_prompt] at hstands
  rw [beginCheck_operator hkind]
  refine ⟨?_, ?_, ?_⟩
  · change VerdictStands c (verdictOf (triggerRecorded c s) c _) _
    rw [← promptJoined_verdict]
    exact hdecides
  · rw [hstands]; exact hfree
  · rw [hstands]
end

theorem armed_of_timeTriggered {s : State} {c : CheckId} (h : timeTriggered s c = true) :
    s.checks[c].state = .armed := by
  unfold timeTriggered at h
  exact beq_iff_eq.1 (Bool.and_eq_true_iff.1 h).1

theorem exec_timeTrigger {s : State} {c : CheckId} (h : timeTriggered s c = true) :
    exec (.timeTrigger c) s = .next (settle (beginCheck decideCheck c s)) := by
  have htrigger : triggerCheck c s = beginCheck decideCheck c s := if_pos (armed_of_timeTriggered h)
  rw [← htrigger]
  exact takenIf_true h _ _

theorem beginCheck_besides {s : State} {c : CheckId} (h : s.checks[c].state = .armed) :
    KeepsBesides s (beginCheck decideCheck c s) := by
  have htrigger : triggerCheck c s = beginCheck decideCheck c s := if_pos h
  rw [← htrigger]
  exact keepsBesides_of (triggerCheck_plant c s) (triggerCheck_nodes s c)

/-- Settles O46: the trigger time is recorded, and the kind says what starts. -/
theorem triggeredChecksStartByTheirKind : Obligations.TriggeredChecksStartByTheirKind := by
  intro s c htimed
  dsimp only
  have hended (h : startCheck c s = startDelay c (triggerRecorded c s)) (hkind : checkKind s c ≠ some .operator)
      (hdelay : settleDelay s c = 0) := begins_ended h hkind hdelay
  refine ⟨_, exec_timeTrigger htimed, fun hkinds hdelay => ?_, fun hkind hdelay => ?_, fun hkind hdelay => ?_,
    fun hkind hdelay => ?_, fun hkind hdelay => ?_, fun hkind hdelay => ?_, fun hkind hmarked hdelay => ?_,
    fun hkind hmarked => ?_, fun j hkind hsource => ?_, fun hkind hunfree => ?_,
    fun d hkind hfree hwaiting hpanel hservice hnode => ?_, fun hkind hfree hwaiting hnone => ?_,
    beginCheck_besides (armed_of_timeTriggered htimed)⟩
  · refine begins_delaying (startCheck_delays hkinds) ?_ hdelay
    rcases hkinds with h | h | h | ⟨h, -⟩ <;> rw [h] <;> exact nofun
  · rw [begins_signature hkind, if_neg hdelay]
    rfl
  · rw [begins_signature hkind, if_pos hdelay]
    rfl
  · obtain ⟨hchecks, hlink⟩ := (hended (startCheck_query hkind) (by rw [hkind]; exact nofun) hdelay).query hkind
    have hrequest : queryRequest (triggerRecorded c s) c = queryRequest s c :=
      queryRequest_modCheck (f := fun k => { k with trigger := some (checkClock s c) }) fun _ => ⟨rfl, rfl⟩
    rw [triggerRecorded_set] at hchecks
    rw [hrequest] at hlink
    exact ⟨hchecks, hlink⟩
  · exact (hended (startCheck_level hkind) (by rw [hkind]; exact nofun) hdelay).level hkind
  · exact (hended (startCheck_window hkind) (by rw [hkind]; exact nofun) hdelay).window hkind
  · exact (hended (startCheck_unmarked hkind hmarked) (by rw [hkind]; exact nofun) hdelay).profile hkind
  · rw [beginCheck_finishes (by rw [hkind]; exact nofun), startCheck_marked hkind hmarked, finishCheck_none]
    unfold samplingBegun triggerRecorded
    rw [modCheck_modCheck]
    rfl
  · split
    · next hon => exact begins_charge_on hkind hsource hon
    · next hoff => exact begins_charge_off hkind hsource hoff
  · rw [begins_waiting hkind hunfree]
    exact ⟨promptJoined_checks c s, promptJoined_prompts c s, rfl⟩
  · have hopened := begins_prompting hkind hfree hwaiting (readyPanel_some hpanel hservice hnode)
    obtain ⟨hprompts, hlink, hchecks, -⟩ := openPrompt_opens (checkNest s c) (armingOf c s) d
      (dequeue (checkNest s c) [] (promptJoined c (triggerRecorded c s)))
    have htaken : (promptRecord c s).taken (armingOf c s) = { promptRecord c s with state := .prompting } :=
      if_pos ⟨rfl, rfl, rfl⟩
    have hprompt : (dequeue (checkNest s c) [] (promptJoined c (triggerRecorded c s))).prompts[checkNest s c]
        = s.prompts[checkNest s c] := by
      unfold dequeue
      rw [modPrompt_self, promptJoined_prompt, ← hwaiting]
    have hlist : (dequeue (checkNest s c) [] (promptJoined c (triggerRecorded c s))).prompts
        = s.prompts.set (checkNest s c) s.prompts[checkNest s c] := by
      rw [← hprompt]
      unfold dequeue
      rw [modPrompt_self, modPrompt_prompts, promptJoined_prompts, Vector.set_set]
    rw [hopened]
    refine ⟨hchecks.trans ?_, hprompts.trans ?_, hlink.trans ?_⟩
    · change (promptJoined c (triggerRecorded c s)).checks.set c
        ((promptJoined c (triggerRecorded c s)).checks[c].taken (armingOf c s)) = _
      rw [promptJoined_check, htaken, promptJoined_checks, Vector.set_set]
      rfl
    · rw [modCheck_prompts, hprompt, hlist, Vector.set_set]
      rfl
    · rw [hprompt]
      rfl
  · exact begins_unready hkind hfree hwaiting (readyPanel_none hnone)

end Sys2Proof.Machine
end

section
/-! CERTIFICATE. The statements on the arming and the cancelling of checks (R99 to R103). -/
namespace Sys2Proof.Machine

open Stated

/-! ### The arming number and session of a check (R101) -/

/-- The arming number and the session of every check. -/
def State.armings (s : State) : Vector (BitVec 8 × BitVec 16) 64 := s.checks.map fun k => (k.arming, k.session)

theorem armings_get (s : State) (c : CheckId) : s.armings[c] = (s.checks[c].arming, s.checks[c].session) := by
  simp [State.armings]

theorem modCheck_armings {f : Check → Check} (c : CheckId) (s : State)
    (hf : ∀ k : Check, (f k).arming = k.arming ∧ (f k).session = k.session := by exact fun _ => ⟨rfl, rfl⟩) :
    (s.modCheck c f).armings = s.armings := by
  obtain ⟨harming, hsession⟩ := hf s.checks[c]
  unfold State.armings
  rw [modCheck_checks, Vector.map_set, harming, hsession]
  exact (congrArg (Vector.set _ _ · _) (armings_get s c).symm).trans (Vector.set_getElem_self c.isLt)

theorem takeVerdict_armings {s t : State} (h : takeVerdict s = some t) : t.armings = s.armings := by
  unfold takeVerdict at h
  split at h
  · cases h
  · split at h
    · cases h
    · split at h
      · cases h; exact modCheck_armings (f := fun k => { k with state := .idle, held := none }) _ s
      · cases h

theorem recordDecision_armings (c : CheckId) (d : Decision) (s : State) :
    (recordDecision c d s).armings = s.armings := by
  refine takeVerdicts_induct (P := fun t => t.armings = s.armings) (fun hs ht => (takeVerdict_armings ht).trans hs) _ ?_
  exact modCheck_armings (f := fun k =>
    { k with
      state := .decided
      due := none
      query := if k.query = .held then .none else k.query
      held := some _ }) c s

theorem offerQuery_armings (c : CheckId) (s : State) : (offerQuery c s).armings = s.armings := by
  unfold offerQuery
  split
  · exact modCheck_armings c (joinQueue (queryRequest s c) s)
  · exact modCheck_armings c s

theorem takeProfileSample_armings (c : CheckId) (s : State) : (takeProfileSample c s).1.armings = s.armings := by
  cases h : sample s c with
  | none => rw [takeProfileSample_none h]; exact modCheck_armings c s
  | some v => rw [takeProfileSample_some h]; exact modCheck_armings c s

theorem takeWindowSample_armings (c : CheckId) (s : State) : (takeWindowSample c s).1.armings = s.armings := by
  unfold takeWindowSample
  split
  · rfl
  · exact modCheck_armings c s

theorem takeLevelSample_armings (c : CheckId) (s : State) : (takeLevelSample c s).1.armings = s.armings := by
  unfold takeLevelSample
  split
  · rfl
  · exact modCheck_armings c s

theorem samplingBegun_armings (c : CheckId) (s : State) : (samplingBegun c s).armings = s.armings :=
  modCheck_armings c s

theorem endDelay_armings (c : CheckId) (s : State) : (endDelay c s).1.armings = s.armings := by
  unfold endDelay
  dsimp only
  split
  · exact takeLevelSample_armings c s
  · exact (takeWindowSample_armings c (samplingBegun c s)).trans (samplingBegun_armings c s)
  · exact (takeProfileSample_armings c (samplingBegun c s)).trans (samplingBegun_armings c s)
  · exact samplingBegun_armings c s
  · exact (offerQuery_armings ..).trans (modCheck_armings c s)
  · rfl
  · rfl
  · rfl

theorem startDelay_armings (c : CheckId) (s : State) : (startDelay c s).1.armings = s.armings := by
  have hbegun : (delayBegun c s).armings = s.armings := modCheck_armings c s
  by_cases h : settleDelay s c = 0
  · rw [startDelay_ends h]; exact (endDelay_armings ..).trans hbegun
  · rw [startDelay_waits h]; exact hbegun

theorem startCharge_armings (c : CheckId) (s : State) : (startCharge c s).1.armings = s.armings := by
  unfold startCharge
  split
  · rfl
  · dsimp only
    split
    · exact modCheck_armings c s
    · rfl

theorem startCheck_armings (c : CheckId) (s : State) : (startCheck c s).1.armings = s.armings := by
  have hrecorded : (triggerRecorded c s).armings = s.armings := modCheck_armings c s
  have hdelayed : (startDelay c (triggerRecorded c s)).1.armings = s.armings :=
    (startDelay_armings ..).trans hrecorded
  cases hkind : checkKind s c with
  | none => unfold startCheck; dsimp only; rw [kindRecorded hkind]; exact hrecorded
  | some k =>
    cases k with
    | level => rw [startCheck_level hkind]; exact hdelayed
    | window => rw [startCheck_window hkind]; exact hdelayed
    | query => rw [startCheck_query hkind]; exact hdelayed
    | profile =>
      cases hm : markedProfile s c with
      | false => rw [startCheck_unmarked hkind hm]; exact hdelayed
      | true => rw [startCheck_marked hkind hm]; exact (samplingBegun_armings ..).trans hrecorded
    | charge => rw [startCheck_charge hkind]; exact (startCharge_armings ..).trans hrecorded
    | signature =>
      have hseeded : (signatureSeeded c (triggerRecorded c s)).armings = (triggerRecorded c s).armings :=
        modCheck_armings c _
      rw [startCheck_signature hkind]
      exact (startDelay_armings ..).trans (hseeded.trans hrecorded)
    | operator =>
      have hjoined : (promptJoined c (triggerRecorded c s)).armings = (triggerRecorded c s).armings :=
        modCheck_armings (f := fun k => { k with state := .promptWait, phase := checkClock s c }) c
          (triggerRecorded c s)
      rw [startCheck_operator hkind]
      exact hjoined.trans hrecorded

theorem openPrompt_armings (n : NestId) (a : Arming) (d : NodeId) (s : State) :
    (openPrompt n a d s).armings = s.armings := by
  have htaken : (s.modCheck a.check fun k => k.taken a).armings = s.armings :=
    modCheck_armings a.check s fun k => by unfold Check.taken; split <;> exact ⟨rfl, rfl⟩
  rw [← htaken]
  unfold State.armings
  rw [openPrompt_checks]
  rfl

/-- R101: only an arming changes an arming number or a session. -/
theorem armings_keptByDecisions (g : Vector (BitVec 8 × BitVec 16) 64) :
    KeptByDecisions (fun _ => True) fun s => s.armings = g where
  record _ h := (recordDecision_armings ..).trans h
  start _ h := (startCheck_armings ..).trans h
  waiting h := h
  opened h := (openPrompt_armings ..).trans h
  movable _ _ := trivial

theorem triggerCheck_armings (c : CheckId) (s : State) : (triggerCheck c s).armings = s.armings :=
  (armings_keptByDecisions s.armings).chain.triggerCheck trivial rfl

theorem triggerAtArming_armings (c : CheckId) (s : State) : (triggerAtArming c s).armings = s.armings := by
  unfold triggerAtArming
  split
  · exact triggerCheck_armings c s
  · rfl

/-! ### The tests of an arming (R100) -/

theorem sliceOrdered_iff (s : State) (c : CheckId) : sliceOrdered s c = false ↔ hasLimits s c = true
    ∧ ¬ ∀ i < limitCount s c, limitLow s (limitIndex s c + i) ≤ limitHigh s (limitIndex s c + i) := by
  unfold sliceOrdered
  rw [Bool.or_eq_false_iff, Bool.not_eq_false', ← Bool.not_eq_true]
  simp only [List.all_eq_true, List.mem_range, decide_eq_true_eq]

theorem armRefusal_eq (s : State) (c : CheckId) : armRefusal s c =
    if s.checks[c].state ≠ .idle then some .busy
    else if s.nests[checkNest s c].state ≠ .opened then some .notOpen
    else if entryInRange s c = false then some .badRange
    else if hasLimits s c = true
        ∧ ¬ (∀ i < limitCount s c, limitLow s (limitIndex s c + i) ≤ limitHigh s (limitIndex s c + i)) then
      some .badLimit
    else if checkKind s c = some .operator ∧ panelNode s (checkNest s c) = none then some .noPanel
    else none := by
  unfold armRefusal
  simp only [Bool.not_eq_true', sliceOrdered_iff]

/-- R164: the tests do not look at the action word. -/
theorem armRefusal_written (s : State) (a : HostAccess) :
    armRefusal (writeAction a (clearHost s)) = armRefusal s := rfl

/-- R100 test 3: a check that may be armed has a kind. -/
theorem kind_of_armable {s : State} {c : CheckId} (h : armRefusal s c = none) : checkKind s c ≠ none := by
  intro hnone
  have hrange : entryInRange s c = false := by unfold entryInRange; rw [hnone]
  rw [armRefusal_eq, if_pos hrange] at h
  split at h
  · cases h
  · split at h <;> cases h

/-! ### One check is armed (R101) -/

/-- R101: the record of a check that is armed in a session. -/
def Check.armedIn (k : Check) (session : BitVec 16) : Check :=
  { k with
    state := .armed
    arming := k.arming + 1
    session := session
    trigger := none
    samples := 0
    fed := 0
    minimum := none
    maximum := none
    last := none
    due := none
    query := .none }

theorem armCheck_eq (c : CheckId) (s : State) :
    armCheck c s = s.modCheck c fun k => k.armedIn s.nests[checkNest s c].session := rfl

theorem armCheck_check (c : CheckId) (s : State) (e : CheckId) : (armCheck c s).checks[e] =
    if e = c then s.checks[c].armedIn s.nests[checkNest s c].session else s.checks[e] := by
  rw [armCheck_eq, modCheck_get]

theorem triggerAtArming_of {c : CheckId} {s : State} (h : checkTrigger s c = some .now ∨ timeReached s c = true) :
    triggerAtArming c s = triggerCheck c s := if_pos h

theorem triggerAtArming_nodes (c : CheckId) (s : State) : (triggerAtArming c s).nodes = s.nodes := by
  unfold triggerAtArming
  split
  · exact triggerCheck_nodes s c
  · rfl

theorem triggerAtArming_path (c : CheckId) (s : State) : (triggerAtArming c s).path = s.path :=
  path_of_bus (bus_of_plant (triggerAtArming_plant c s))

/-- R104: a check triggered while ARMED has started. -/
theorem triggerCheck_startedAt {s : State} {c : CheckId} (hkind : checkKind s c ≠ none)
    (harmed : s.checks[c].state = .armed) : (triggerCheck c s).checks[c].startedAt (checkClock s c) := by
  have htrigger : triggerCheck c s = beginCheck decideCheck c s := if_pos harmed
  rw [htrigger]
  exact beginCheck_startedAt hkind 64

/-- R104: a trigger leaves no check of a kind ARMED. -/
theorem triggerCheck_unarmed {s : State} {c : CheckId} (hkind : checkKind s c ≠ none) :
    (triggerCheck c s).checks[c].state ≠ .armed := by
  by_cases harmed : s.checks[c].state = .armed
  · exact (triggerCheck_startedAt hkind harmed).1
  · intro h
    exact harmed (triggerCheck_armsNone c s c h)

/-- R101: check c of state s has been armed. -/
structure ArmedBy (c : CheckId) (s u : State) : Prop where
  waits : checkTrigger s c ≠ some .now → timeReached s c = false →
    u.checks = s.checks.set c (s.checks[c].armedIn s.nests[checkNest s c].session) ∧ u.unposted = s.unposted
      ∧ u.link = s.link ∧ u.prompts = s.prompts ∧ NothingPosted s u
  starts : checkTrigger s c = some .now ∨ timeReached s c = true →
    u.checks[c].arming = s.checks[c].arming + 1 ∧ u.checks[c].session = s.nests[checkNest s c].session
      ∧ u.checks[c].trigger = some (checkClock s c) ∧ u.checks[c].state ≠ .armed
  nodes : u.nodes = s.nodes
  plant : SamePlant s u
  stimulus : SameStimulus s u

theorem actCheckArm_refused {s : State} {c : CheckId} {e : Reason} (h : armRefusal s c = some e) (opd : Nat) :
    actCheckArm c.val opd s = .error e := by
  unfold actCheckArm
  rw [dif_pos c.isLt, h]

theorem armed_armedBy {s : State} {c : CheckId} (hkind : checkKind s c ≠ none) :
    ArmedBy c s (triggerAtArming c (armCheck c s)) := by
  have hplant : (triggerAtArming c (armCheck c s)).plant = s.plant := triggerAtArming_plant c (armCheck c s)
  have hcheck : (armCheck c s).checks[c] = s.checks[c].armedIn s.nests[checkNest s c].session :=
    (armCheck_check c s c).trans (if_pos rfl)
  refine ⟨fun hnow htime => ?_, fun htriggered => ?_, triggerAtArming_nodes c _, samePlant_of_plant hplant,
    sameStimulus_of_bench (bench_of_plant hplant)⟩
  · have hidle : triggerAtArming c (armCheck c s) = armCheck c s :=
      if_neg fun h => h.elim hnow (Bool.eq_false_iff.1 htime)
    rw [hidle]
    exact ⟨rfl, rfl, rfl, rfl, rfl, rfl⟩
  · have harmings := (armings_get (triggerAtArming c (armCheck c s)) c).symm
    rw [triggerAtArming_armings, armings_get, hcheck, Prod.mk.injEq] at harmings
    have hstarted : (triggerAtArming c (armCheck c s)).checks[c].startedAt (checkClock s c) := by
      rw [triggerAtArming_of (s := armCheck c s) htriggered]
      exact triggerCheck_startedAt (s := armCheck c s) hkind (by rw [hcheck]; rfl)
    exact ⟨harmings.1, harmings.2, hstarted.2, hstarted.1⟩

theorem actCheckArm_accepted {s : State} {c : CheckId} (h : armRefusal s c = none) (opd : Nat) :
    ∃ u, actCheckArm c.val opd s = .ok u ∧ ArmedBy c s u := by
  refine ⟨triggerAtArming c (armCheck c s), ?_, armed_armedBy (kind_of_armable h)⟩
  unfold actCheckArm
  rw [dif_pos c.isLt, h]

/-- Settles O44: the refusals are those of the tests in order; an armed check is triggered in the taking where its trigger
says so. -/
theorem armingTestsInOrderAndArms : Obligations.ArmingTestsInOrderAndArms := by
  intro s k a c hcommand
  have hrefusal : armRefusal (writeAction a (clearHost s)) c = _ :=
    (congrFun (armRefusal_written s a) c).trans (armRefusal_eq s c)
  refine answers_of_refusal rfl actCheckArm_bus hcommand
    (fun e he => actCheckArm_refused (hrefusal.trans he) _) fun hnone => ?_
  obtain ⟨u, hact, hwaits, hstarts, hnodes, hplant, hstimulus⟩ :=
    actCheckArm_accepted (hrefusal.trans hnone) (wordOperand a.data)
  exact ⟨u, hact, hwaits, hstarts, hnodes, hplant, hstimulus⟩

/-! ### A run of checks is armed (R102) -/

theorem mem_runChecks {first count : Nat} {e : CheckId} :
    e ∈ runChecks first count ↔ first ≤ e.val ∧ e.val < first + count := by
  unfold runChecks
  rw [List.mem_filter, Bool.and_eq_true, decide_eq_true_eq, decide_eq_true_eq]
  exact and_iff_right (mem_allChecks e)

theorem nodup_runChecks (first count : Nat) : (runChecks first count).Nodup := (List.nodup_finRange 64).filter _

/-- The session of the nest of each check. -/
def State.sessionOf (s : State) (c : CheckId) : BitVec 16 := s.nests[checkNest s c].session

theorem armChecks_check {l : List CheckId} (hl : l.Nodup) (s : State) (e : CheckId) : (s.forEach l armCheck).checks[e] =
    if e ∈ l then s.checks[e].armedIn (s.sessionOf e) else s.checks[e] :=
  forEach_table_under (t := fun s (c : CheckId) => s.checks[c]) (u := armCheck) (p := State.sessionOf)
    (f := fun g c k => k.armedIn (g c)) (fun _ _ => rfl) (fun c s e => armCheck_check c s e) l hl s e

theorem armChecks_plant (l : List CheckId) (s : State) : (s.forEach l armCheck).plant = s.plant :=
  forEach_keeps State.plant _ armCheck_plant l s

theorem triggerChecks_plant (l : List CheckId) (s : State) : (s.forEach l triggerAtArming).plant = s.plant :=
  forEach_keeps State.plant _ triggerAtArming_plant l s

/-- R101: the triggers of a run change no arming number. -/
theorem triggerChecks_armings (l : List CheckId) (s : State) : (s.forEach l triggerAtArming).armings = s.armings :=
  forEach_keeps State.armings _ triggerAtArming_armings l s

/-- R101, R102: the turn of a NOW check ends its ARMED state, and no other turn arms it again. -/
theorem triggerChecks_unarmed {l : List CheckId} {e : CheckId} (he : e ∈ l) {s : State}
    (hnow : checkTrigger s e = some .now) (hkind : checkKind s e ≠ none) :
    (s.forEach l triggerAtArming).checks[e].state ≠ .armed := by
  refine forEach_reaches (P := fun t => t.path = s.path) (Q := fun t => t.checks[e].state ≠ .armed)
    (fun c t ht => (triggerAtArming_path c t).trans ht) (fun c t _ hq => ?_) (fun t ht => ?_) he rfl
  · unfold triggerAtArming
    split
    · exact fun h => hq (triggerCheck_armsNone c t e h)
    · exact hq
  · rw [triggerAtArming_of (.inl ((checkTrigger_congr ht e).trans hnow))]
    exact triggerCheck_unarmed (by rw [checkKind_congr ht]; exact hkind)

/-- R102: the checks of a run have been armed together. -/
structure RunArmed (l : List CheckId) (s u : State) : Prop where
  armed : ∀ e ∈ l, u.checks[e].arming = s.checks[e].arming + 1 ∧ u.checks[e].session = s.sessionOf e
    ∧ (checkTrigger s e = some .now → u.checks[e].state ≠ .armed)
  others : ∀ e ∉ l, u.checks[e].arming = s.checks[e].arming ∧ u.checks[e].session = s.checks[e].session
  nodes : u.nodes = s.nodes
  plant : SamePlant s u
  stimulus : SameStimulus s u

theorem runArmed {l : List CheckId} (hl : l.Nodup) {s : State} (hkind : ∀ e ∈ l, checkKind s e ≠ none) :
    RunArmed l s ((s.forEach l armCheck).forEach l triggerAtArming) := by
  have hplant : ((s.forEach l armCheck).forEach l triggerAtArming).plant = s.plant :=
    (triggerChecks_plant l _).trans (armChecks_plant l s)
  have hpath : (s.forEach l armCheck).path = s.path := path_of_bus (bus_of_plant (armChecks_plant l s))
  have harmings (e : CheckId) : (((s.forEach l armCheck).forEach l triggerAtArming).checks[e].arming,
      ((s.forEach l armCheck).forEach l triggerAtArming).checks[e].session)
        = ((s.forEach l armCheck).checks[e].arming, (s.forEach l armCheck).checks[e].session) := by
    rw [← armings_get, triggerChecks_armings, armings_get]
  refine ⟨fun e he => ?_, fun e he => ?_, ?_, samePlant_of_plant hplant, sameStimulus_of_bench (bench_of_plant hplant)⟩
  · obtain ⟨harming, hsession⟩ := Prod.mk.inj (harmings e)
    rw [armChecks_check hl, if_pos he] at harming hsession
    exact ⟨harming, hsession, fun hnow => triggerChecks_unarmed he ((checkTrigger_congr hpath e).trans hnow)
      (by rw [checkKind_congr hpath]; exact hkind e he)⟩
  · obtain ⟨harming, hsession⟩ := Prod.mk.inj (harmings e)
    rw [armChecks_check hl, if_neg he] at harming hsession
    exact ⟨harming, hsession⟩
  · exact (forEach_keeps State.nodes _ triggerAtArming_nodes l _).trans
      (forEach_keeps State.nodes armCheck (fun _ _ => rfl) l s)

/-- R102: what CHECK_ARM_RUN answers. -/
def runRefusal (s : State) (first count : Nat) : Option Reason :=
  if count = 0 ∨ 64 < count ∨ 64 < first + count then some .badRange
  else (runChecks first count).findSome? (armRefusal s)

section
variable {s : State} {c : CheckId} {count : Nat}

theorem actCheckArmRun_refused {e : Reason} (h : runRefusal s c.val count = some e) :
    actCheckArmRun c.val count s = .error e := by
  unfold runRefusal at h
  unfold actCheckArmRun
  rw [if_neg (Nat.not_le.2 c.isLt)]
  split at h
  · next hrange => cases h; exact if_pos hrange
  · next hrange => rw [if_neg hrange, h]

theorem actCheckArmRun_accepted (h : runRefusal s c.val count = none) :
    ∃ u, actCheckArmRun c.val count s = .ok u ∧ RunArmed (runChecks c.val count) s u := by
  unfold runRefusal at h
  unfold actCheckArmRun
  rw [if_neg (Nat.not_le.2 c.isLt)]
  split at h
  · cases h
  · next hrange =>
    rw [if_neg hrange, h]
    exact ⟨_, rfl, runArmed (nodup_runChecks ..) fun e he => kind_of_armable (List.findSome?_eq_none_iff.1 h e he)⟩
end

/-! ### A decided check asks no query (R103, R114) -/

theorem takeVerdict_query {s t : State} (h : takeVerdict s = some t) (c : CheckId) :
    t.checks[c].query = s.checks[c].query := by
  unfold takeVerdict at h
  split at h
  · cases h
  · next e rest _ =>
    split at h
    · cases h
    · split at h
      · cases h
        refine (congrArg Check.query (modCheck_get e (fun k => { k with state := .idle, held := none }) s c)).trans ?_
        split
        · next he => rw [he]
        · rfl
      · cases h

theorem recordDecision_query (c : CheckId) (d : Decision) (s : State) :
    (recordDecision c d s).checks[c].query ≠ .held := by
  refine takeVerdicts_induct (P := fun t => t.checks[c].query ≠ .held)
    (fun hs ht => by rw [takeVerdict_query ht]; exact hs) _ ?_
  rw [setUnposted_checks, modCheck_get, if_pos rfl]
  dsimp only
  split
  · exact nofun
  · next h => exact h

theorem recordDecision_query_other {c e : CheckId} (hne : e ≠ c) (d : Decision) (s : State) :
    (recordDecision e d s).checks[c].query = s.checks[c].query := by
  refine takeVerdicts_induct (P := fun t => t.checks[c].query = s.checks[c].query)
    (fun hs ht => (takeVerdict_query ht c).trans hs) _ ?_
  rw [setUnposted_checks, modCheck_get, if_neg hne.symm]

/-- The verdict v of check c stands, and no query of c is held. -/
structure QuerySettled (c : CheckId) (v : Verdict) (t : State) : Prop where
  stands : VerdictStands c v t
  query : t.checks[c].query ≠ .held

section
variable {c : CheckId} {v : Verdict} {s t : State}

theorem QuerySettled.of_sameCheck {u : State} (h : QuerySettled c v t) (hc : SameCheck c t u) : QuerySettled c v u :=
  ⟨verdictStands_of_eq h.stands hc.1 hc.2.1 hc.2.2, by rw [hc.1]; exact h.query⟩

theorem querySettled_keptByChain (c : CheckId) (v : Verdict) : KeptByChain (· ≠ c) (QuerySettled c v) where
  record hne h := ⟨verdictStands_recordDecision h.stands hne, by rw [recordDecision_query_other hne]; exact h.query⟩
  start hne _ h := h.of_sameCheck (startCheck_sameCheck hne _)
  passed _ _ h := h.of_sameCheck ⟨rfl, rfl, rfl⟩
  opened {n a rest d t} _ _ h :=
    h.of_sameCheck
      ⟨openPrompt_check (by rcases h.stands.settled with g | g <;> rw [g] <;> decide) n a d, openPrompt_unposted ..,
        congrArg Post.fifo (openPrompt_post ..)⟩
  asked {a t} h hasked := by
    rintro rfl
    rcases h.stands.settled with g | g <;> rw [g] at hasked <;> simp at hasked
  follows _ h hw := ne_of_waitsAfter h.stands hw

theorem querySettled_takeDependant (h : QuerySettled c v t) (f : Nat) (d : Decision) (a : CheckId) :
    QuerySettled c v (takeDependant f c d a t) := by
  unfold takeDependant
  split
  · exact h
  · next p hw =>
    have hne := ne_of_waitsAfter h.stands hw
    split
    · exact (querySettled_keptByChain c v).decideFuel f hne h
    · exact (querySettled_keptByChain c v).beginCheck
        (fun he ht => (querySettled_keptByChain c v).decideFuel f he ht) hne ((waitsAfter_iff ..).1 hw).1 h

theorem decideCheck_querySettled (c : CheckId) (d : Decision) (s : State) :
    QuerySettled c (verdictOf s c d) (decideCheck c d s) := by
  rw [decideCheck_eq]
  exact forEach_induct (QuerySettled c (verdictOf s c d)) _ (fun a t h => querySettled_takeDependant h 63 d a) _ _
    ⟨recordDecision_stands c d s, recordDecision_query c d s⟩

theorem querySettled_freeContext {n : NestId} (h : QuerySettled c v t) : QuerySettled c v (freeContext n t) := by
  have hquery : (freed n t).checks[c].query ≠ .held := by rw [(freed_checks n t).1]; exact h.query
  exact (querySettled_keptByChain c v).takeHeads
    (fun he ht => (querySettled_keptByChain c v).decideCheck he ht) n ⟨verdictStands_freed h.stands, hquery⟩

/-- R152: a withdrawal leaves the nodes. -/
theorem withdrawPrompt_nodes (n : NestId) (s : State) : (withdrawPrompt n s).nodes = s.nodes := by
  have hclearing : (enterClearing n s).nodes = s.nodes := congrArg (·.2.2.2.1) (enterClearing_besidePrompts n s)
  unfold withdrawPrompt
  split
  · exact freeContext_nodes
  · exact hclearing
  · rfl
  · rfl
  · exact hclearing
  · rfl
  · rfl

theorem querySettled_withdrawPrompt {n : NestId} (h : QuerySettled c v t) : QuerySettled c v (withdrawPrompt n t) := by
  have hbeside := enterClearing_besidePrompts n t
  simp only [State.besidePrompts, Prod.mk.injEq] at hbeside
  obtain ⟨-, hchecks, hunposted, -, hpost⟩ := hbeside
  have hclearing : QuerySettled c v (enterClearing n t) :=
    h.of_sameCheck ⟨by rw [hchecks], hunposted, by rw [hpost]⟩
  unfold withdrawPrompt
  split
  · exact querySettled_freeContext h
  · exact hclearing
  · exact h.of_sameCheck ⟨rfl, rfl, rfl⟩
  · exact h.of_sameCheck ⟨rfl, rfl, rfl⟩
  · exact hclearing
  · exact h
  · exact h
end

/-! ### The withdrawal of a prompt (R152) -/

theorem withdrawPrompt_marks {n : NestId} {s : State} (hstate : s.prompts[n].state = .loading ∨ s.prompts[n].state = .showing)
    (hstep : ∀ k, s.prompts[n].step ≠ some (k, true)) :
    withdrawPrompt n s = s.modPrompt n fun p => { p with withdrawn := true } := by
  unfold withdrawPrompt
  split
  · next k _ h => exact absurd h (hstep k)
  · next k _ h => exact absurd h (hstep k)
  · rfl
  · rfl
  · next h => rcases hstate with g | g <;> exact nomatch h.symm.trans g
  · next h => rcases hstate with g | g <;> exact nomatch h.symm.trans g
  · next h => rcases hstate with g | g <;> exact nomatch h.symm.trans g

theorem withdrawPrompt_frees {n : NestId} {s : State} {k : PromptStep} (hstate : s.prompts[n].state = .loading)
    (hstep : s.prompts[n].step = some (k, true)) : withdrawPrompt n s = freeContext n s := by
  unfold withdrawPrompt
  rw [hstate, hstep]

theorem withdrawPrompt_clears {n : NestId} {s : State} (h : s.prompts[n].state = .shown
    ∨ s.prompts[n].state = .showing ∧ ∃ k, s.prompts[n].step = some (k, true)) :
    withdrawPrompt n s = enterClearing n s := by
  unfold withdrawPrompt
  rcases h with h | ⟨h, k, hstep⟩
  · rw [h]
  · rw [h, hstep]

theorem withdrawPrompt_rests {n : NestId} {s : State} (h : s.prompts[n].state = .clearing) : withdrawPrompt n s = s := by
  unfold withdrawPrompt
  rw [h]

/-- R152: what a withdrawal makes of the context, case by case. -/
theorem withdrawPrompt_context (n : NestId) (s : State) : Withdrawn s.prompts[n] (withdrawPrompt n s).prompts[n] := by
  refine ⟨fun h => ?_, fun h hstep => ?_, fun h hstep => ?_, fun h => ?_⟩
  · rw [withdrawPrompt_clears (.inl h)]; exact enterClearing_clearing n s
  · rw [withdrawPrompt_clears (.inr ⟨h, hstep⟩)]; exact enterClearing_clearing n s
  · rw [withdrawPrompt_marks h hstep, modPrompt_self]; exact ⟨rfl, rfl, rfl, rfl, rfl⟩
  · rw [withdrawPrompt_rests h]; exact ⟨h, rfl, rfl, rfl⟩

/-- A withdrawal does not look at the waiting list. -/
theorem withdrawn_of_waiting {p x q : Prompt} {l : List Arming} (hp : p = { x with waiting := l }) (h : Withdrawn p q) :
    Withdrawn x q := by
  subst hp
  exact h

/-! ### CHECK_CANCEL (R103) -/

/-- R103: what CHECK_CANCEL decides of check c. -/
def cancelled (c : CheckId) (s : State) : Decision := { verdict := .cancelled, detail := s.checks[c].state.code }

/-- R103: check c of state s has been cancelled. -/
structure Cancelled (c : CheckId) (s u : State) : Prop where
  settled : QuerySettled c (verdictOf s c (cancelled c s)) u
  waiting : s.checks[c].state = .promptWait → ∀ x ∈ u.prompts[checkNest s c].waiting, x.check ≠ c
  withdrawn : s.checks[c].state = .prompting → Withdrawn s.prompts[checkNest s c] u.prompts[checkNest s c]
  freed : ∀ x, s.checks[c].state = .prompting → s.prompts[checkNest s c].state = .loading →
    s.prompts[checkNest s c].step = some (x, true) →
    ∃ v : State, v.prompts[checkNest s c]
        = { s.prompts[checkNest s c] with waiting := v.prompts[checkNest s c].waiting }
      ∧ Freed (checkNest s c) v u
  nodes : u.nodes = s.nodes
  kept : Kept s u

theorem cancelPrompt_waiting (c : CheckId) (s : State) : cancelPrompt c .promptWait s
    = s.modPrompt (checkNest s c) fun p => { p with waiting := p.waiting.filter fun a => a.check != c } := rfl

theorem cancelPrompt_prompting (c : CheckId) (s : State) :
    cancelPrompt c .prompting s = withdrawPrompt (checkNest s c) s := rfl

theorem cancelPrompt_settled {c : CheckId} {v : Verdict} {t : State} (h : QuerySettled c v t) (left : CheckState) :
    QuerySettled c v (cancelPrompt c left t) := by
  cases left with
  | promptWait => exact h.of_sameCheck ⟨rfl, rfl, rfl⟩
  | prompting => exact querySettled_withdrawPrompt h
  | idle | armed | delaying | sampling | querying | decided => exact h

theorem cancelPrompt_nodes (c : CheckId) (left : CheckState) (s : State) : (cancelPrompt c left s).nodes = s.nodes := by
  cases left with
  | prompting => exact withdrawPrompt_nodes ..
  | promptWait | idle | armed | delaying | sampling | querying | decided => rfl

/-- The context of a prompt that is cancelled has stood through the decision of its check. -/
theorem decided_context {c : CheckId} {s : State} (d : Decision) (h : s.prompts[checkNest s c].state ≠ .free) :
    (decideCheck c d s).prompts[checkNest s c] = { s.prompts[checkNest s c] with
      waiting := (decideCheck c d s).prompts[checkNest s c].waiting } :=
  (decideCheck_passedBy (.inl h) c d).1.2

theorem cancelled_of (c : CheckId) (s : State) :
    Cancelled c s (cancelPrompt c s.checks[c].state (decideCheck c (cancelled c s) s)) := by
  have hnest : checkNest (decideCheck c (cancelled c s) s) c = checkNest s c :=
    checkNest_congr (path_of_bus (decideCheck_bus ..)) c
  have hprompting (h : s.checks[c].state = .prompting) :
      cancelPrompt c s.checks[c].state (decideCheck c (cancelled c s) s)
        = withdrawPrompt (checkNest s c) (decideCheck c (cancelled c s) s) := by
    rw [h, cancelPrompt_prompting, hnest]
  refine ⟨cancelPrompt_settled (decideCheck_querySettled c (cancelled c s) s) _, fun h x hx => ?_, fun h => ?_,
    fun k h hloading hstep => ?_, (cancelPrompt_nodes ..).trans (decideCheck_nodes ..),
    (kept_of_plant (decideCheck_plant ..)).trans (cancelPrompt_kept ..)⟩
  · rw [h, cancelPrompt_waiting, hnest, modPrompt_self] at hx
    generalize decideCheck c (cancelled c s) s = t at hx
    have hmem : x ∈ t.prompts[checkNest s c].waiting.filter fun a => a.check != c := hx
    exact bne_iff_ne.1 (List.mem_filter.1 hmem).2
  · rw [hprompting h]
    by_cases hfree : s.prompts[checkNest s c].state = .free
    · refine ⟨fun g => ?_, fun g => ?_, fun g => ?_, fun g => ?_⟩
      · exact nomatch hfree.symm.trans g
      · exact nomatch hfree.symm.trans g
      · rcases g with g | g <;> exact nomatch hfree.symm.trans g
      · exact nomatch hfree.symm.trans g
    · have hcontext := withdrawPrompt_context (checkNest s c) (decideCheck c (cancelled c s) s)
      exact withdrawn_of_waiting (decided_context (cancelled c s) hfree) hcontext
  · have hcontext := decided_context (c := c) (s := s) (cancelled c s) (by rw [hloading]; exact nofun)
    refine ⟨_, hcontext, ?_⟩
    rw [hprompting h, withdrawPrompt_frees (by rw [hcontext]; exact hloading) (by rw [hcontext]; exact hstep)]
    exact freeContext_freed ..

theorem undecided_iff (x : CheckState) : x.undecided = false ↔ x = .idle ∨ x = .decided := by cases x <;> decide

section
variable {s : State} {c : CheckId}

theorem actCheckCancel_refused (h : s.checks[c].state = .idle ∨ s.checks[c].state = .decided) (opd : Nat) :
    actCheckCancel c.val opd s = .error .wrongState := by
  unfold actCheckCancel
  rw [dif_pos c.isLt]
  exact if_neg (by rw [(undecided_iff _).2 h]; exact Bool.false_ne_true)

theorem actCheckCancel_accepted (h : ¬ (s.checks[c].state = .idle ∨ s.checks[c].state = .decided)) (opd : Nat) :
    ∃ u, actCheckCancel c.val opd s = .ok u ∧ Cancelled c s u := by
  refine ⟨_, ?_, cancelled_of c s⟩
  unfold actCheckCancel
  rw [dif_pos c.isLt]
  exact if_pos (Bool.of_not_eq_false fun g => h ((undecided_iff _).1 g))
end

/-- Settles O45: a run is armed whole, and then triggered; a cancelled check is decided, and its prompt withdrawn. -/
theorem runsArmTogetherAndCancelsDecide : Obligations.RunsArmTogetherAndCancelsDecide := by
  intro s k a c
  refine ⟨fun hcommand => ?_, fun hcommand => ?_⟩
  · have hrefusal : runRefusal (writeAction a (clearHost s)) c.val (wordOperand a.data)
        = runRefusal s c.val (wordOperand a.data) := by
      unfold runRefusal
      rw [armRefusal_written]
    refine answers_of_refusal rfl actCheckArmRun_bus hcommand
      (fun e he => actCheckArmRun_refused (hrefusal.trans he)) fun hnone => ?_
    obtain ⟨u, hact, harmed, hothers, hnodes, hplant, hstimulus⟩ :=
      actCheckArmRun_accepted (hrefusal.trans hnone)
    exact ⟨u, hact, fun e hlow hhigh => harmed e (mem_runChecks.2 ⟨hlow, hhigh⟩),
      fun e he => hothers e fun hmem => by have hrange := mem_runChecks.1 hmem; omega, hnodes, hplant, hstimulus⟩
  · refine answers_of_refusal rfl actCheckCancel_bus hcommand (fun e he => ?_) fun hnone => ?_
    · split at he
      · next h => cases he; exact actCheckCancel_refused (s := writeAction a (clearHost s)) h _
      · cases he
    · split at hnone
      · cases hnone
      · next h =>
        obtain ⟨u, hact, ⟨hstands, hquery⟩, hwaiting, hwithdrawn, hfreed, hnodes, hbench, hdrains⟩ :=
          actCheckCancel_accepted (s := writeAction a (clearHost s)) h (wordOperand a.data)
        refine ⟨u, hact, hstands, hquery, hwaiting, fun hp hshown => ((hwithdrawn hp).1 hshown).1, hwithdrawn,
          fun x hp hloading hstep => ?_, hnodes, hdrains, sameStimulus_of_bench (s := writeAction a (clearHost s)) (t := u) hbench⟩
        obtain ⟨v, hcontext, hv⟩ := hfreed x hp hloading hstep
        exact ⟨v, u, hcontext, hv, offerResult_sameBlocks ..⟩

end Sys2Proof.Machine
end

section
/-! CERTIFICATE. The statements on what the post FIFO takes (R119, R139, R172) and on the pause of the link (R136). -/
namespace Sys2Proof.Machine

open Stated

/-! ### The waiting verdict (R119) -/

section
variable {s : State} {c : CheckId} {rest : List CheckId} {v : Verdict}

theorem takeVerdict_eq (hwaits : s.unposted = c :: rest) (hheld : s.checks[c].held = some v) : takeVerdict s =
    if s.checks[c].state = .decided ∧ fifoFree s = true ∧ 1 ≤ verdictRoom s then
      some { s with
        post := { s.post with
          fifo := s.post.fifo ++ [.verdict s.post.verdictReserve v.words]
          verdictReserve := s.post.verdictReserve + 1 }
        checks := s.checks.set c { s.checks[c] with state := .idle, held := none }
        unposted := rest }
    else none := by
  unfold takeVerdict
  rw [hwaits]
  dsimp only
  rw [hheld]
  rfl

theorem fifoFree_iff (s : State) : fifoFree s = true ↔ s.post.fifo.length < 32 := decide_eq_true_iff

end

/-! ### The waiting block item (R139) -/

section
variable {s : State} {b : BlockItem} {t : Transaction} {ring : BitVec 4} {buffer : Word} {tag : BitVec 16}

/-- R139, R172: the waiting block enters the post FIFO, its transaction completes and the host is answered. -/
theorem takeBlock_eq (hblock : s.link.block = some b) (hflight : s.link.flight = some t)
    (hroom : s.post.fifo.length < 32) (hkind : t.request.kind = .getBlock)
    (hhost : t.request.requester = .host ring buffer tag) : takeBlock s =
      some (landed (postEvent (evLinkReply (replyNest s t.request.node.val) t.request.node.val 5 ring tag
        (if t.flushed then .flushed else .ok) 0) ((pushBlock b s).modLink fun l => { l with block := none }))) := by
  have hunpolled : ¬ (t.request.kind = .poll ∧ LinkResult.ok = .ok) := fun hp => nomatch hkind.symm.trans hp.1
  have hdata (w : Word) : (if t.flushed then 0 else replyData t.request.kind .ok w) = 0 := by
    rw [hkind]
    exact ite_self 0
  have hcode : t.request.kind.code = 5 := by rw [hkind]; rfl
  unfold takeBlock
  rw [hblock, hflight]
  dsimp only
  rw [if_pos ((fifoFree_iff s).2 hroom), finishTransaction_unpolled hunpolled, answerFlight_host hhost,
    clearPending_other (by rw [hhost]; nofun)]
  unfold hostReply
  rw [hdata, hcode]
  rfl
end

/-- Settles O49: both commands are the test of what waits, and with room the item enters the FIFO. -/
theorem fifoTakesWhatWaitsForIt : Obligations.FifoTakesWhatWaitsForIt := by
  refine ⟨fun s c rest v hwaits hheld => ?_, fun s b t ring buffer tag hblock hflight hroom hkind hhost => ?_⟩
  · change execVerdictTaken s = _
    unfold execVerdictTaken
    rw [takeVerdict_eq hwaits hheld]
    simp only [fifoFree_iff]
    split <;> rfl
  · obtain ⟨hposted, hlink, hnodes, hchecks, hprompts, hplant, hstimulus⟩ := landed_postEvent
      (evLinkReply (replyNest s t.request.node.val) t.request.node.val 5 ring tag
        (if t.flushed then .flushed else .ok) 0) ((pushBlock b s).modLink fun l => { l with block := none })
    refine ⟨_, ?_, _, rfl, hposted, hlink, hnodes, hchecks, hprompts, hplant, hstimulus⟩
    change execBlockItemTaken s = _
    rw [execBlockItemTaken_eq, takeBlock_eq hblock hflight hroom hkind hhost]
    rfl

/-! ### The pause flag (R136) -/

/-- R136: s has taken a pause flag of this value in u, and a change of it is offered. -/
structure PauseSet (pause : Bool) (s u : State) : Prop where
  link : u.link = { s.link with paused := pause }
  offered : s.link.paused ≠ pause → u.post.paused = pause ∧ (Place.summary, ([] : List Word)) ∈ u.post.places
  nodes : u.nodes = s.nodes
  checks : u.checks = s.checks
  prompts : u.prompts = s.prompts
  unposted : u.unposted = s.unposted
  plant : SamePlant s u
  stimulus : SameStimulus s u
  posted : NothingPosted s u

theorem setPause_set (pause : Bool) (s : State) : PauseSet pause s (setPause pause s) := by
  unfold setPause
  split
  · rename_i hsame
    exact ⟨by rw [← hsame], fun hne => absurd hsame hne, rfl, rfl, rfl, rfl, ⟨rfl, rfl, rfl, rfl⟩,
      ⟨rfl, rfl, rfl, rfl, rfl, rfl, rfl⟩, rfl, rfl⟩
  · exact ⟨rfl, fun _ => ⟨rfl, mem_upsertPlace ..⟩, rfl, rfl, rfl, rfl, ⟨rfl, rfl, rfl, rfl⟩,
      ⟨rfl, rfl, rfl, rfl, rfl, rfl, rfl⟩, rfl, rfl⟩

/-- R165: the result of the action offers its own place and nothing of the pause. -/
theorem pauseSet_offerResult {pause : Bool} {k : SlotId} {a : HostAccess} {s u : State}
    (h : PauseSet pause (writeAction a (clearHost s)) u) : PauseSet pause s (offerResult k a.data none u) :=
  ⟨h.link, fun hne => (h.offered hne).imp_right fun hmem => (mem_upsertPlace_of_ne (by simp) _ _ _).2 hmem, h.nodes,
    h.checks, h.prompts, h.unposted, h.plant, h.stimulus, h.posted⟩

/-- Settles O51: neither command has a test, and both set the flag. -/
theorem pauseAndResumeSetTheFlag : Obligations.PauseAndResumeSetTheFlag := by
  intro pause s k a hgrant
  obtain ⟨u, hact, hlink, hoffered, hnodes, hchecks, hprompts, hunposted, hplant, hstimulus, hposted⟩ :
      ∃ u, Except.ok (ε := Reason) (setPause pause (writeAction a (clearHost s))) = .ok u
        ∧ PauseSet pause s (offerResult k a.data none u) :=
    ⟨_, rfl, pauseSet_offerResult (setPause_set pause _)⟩
  have hnever (e : Reason) (he : none = some e) {P : Prop} : P := nomatch he
  cases pause with
  | true =>
    exact answers_of_refusal rfl actLinkPause_bus ⟨hgrant, rfl⟩ (fun e he => hnever e he) fun _ =>
      ⟨u, hact, hlink, hoffered, hnodes, hchecks, hprompts, hunposted, hplant, hstimulus, hposted⟩
  | false =>
    exact answers_of_refusal rfl actLinkResume_bus ⟨hgrant, rfl⟩ (fun e he => hnever e he) fun _ =>
      ⟨u, hact, hlink, hoffered, hnodes, hchecks, hprompts, hunposted, hplant, hstimulus, hposted⟩

end Sys2Proof.Machine
end

section
/-! SUPPORT. The hand-on of a change of a node (R129): the interlock of the nests that name it (R15, R16) and the panel
that is lost (R154). -/
namespace Sys2Proof.Machine

open Stated

/-! ### What an evaluation of the interlock leaves -/

/-- What no evaluation of an interlock changes, beside nodes and records. -/
def State.besideInterlock (s : State) := (s.supplies, s.inputs, s.capture)

theorem interlockTrip_besideInterlock (n : NestId) (d : NodeId) (s : State) :
    (interlockTrip n d s).besideInterlock = s.besideInterlock := by
  have hbeside := (forceOff_onward n .interlock true s).beside
  simp only [State.besideRails, Prod.mk.injEq] at hbeside
  obtain ⟨-, -, hsupplies, hinputs, hcapture⟩ := hbeside
  rw [interlockTrip_eq, postEvent_eq]
  exact congrArg₂ Prod.mk hsupplies (congrArg₂ Prod.mk hinputs hcapture)

theorem interlockRestored_besideInterlock (n : NestId) (d : NodeId) (s : State) :
    (interlockRestored n d s).besideInterlock = s.besideInterlock := by
  rw [interlockRestored_eq, postEvent_eq]
  rfl

theorem evaluateFor_besideInterlock (d : NodeId) (n : NestId) (s : State) :
    (evaluateFor d n s).besideInterlock = s.besideInterlock := by
  unfold evaluateFor
  split
  · rename_i hnamed
    have hset : (setInterlock n (interlockOf s n) s).besideInterlock = s.besideInterlock := rfl
    rw [evaluateInterlock_cases hnamed _ rfl]
    split
    · rfl
    · split
      · exact hset
      · split
        · exact (interlockTrip_besideInterlock ..).trans hset
        · split
          · exact (interlockRestored_besideInterlock ..).trans hset
          · exact hset
  · rfl

theorem evaluateNode_besideInterlock (d : NodeId) (s : State) :
    (evaluateNode d s).besideInterlock = s.besideInterlock :=
  forEach_keeps State.besideInterlock _ (fun n s => evaluateFor_besideInterlock d n s) _ s

/-- R15: an evaluation moves no nest from its state. -/
theorem evaluateInterlock_state {n : NestId} {d : NodeId} {s : State} (hd : interlockNode s n = some d) :
    (evaluateInterlock n s).nests[n].state = s.nests[n].state := by
  have hset : (setInterlock n (interlockOf s n) s).nests[n].state = s.nests[n].state := by rw [setInterlock_nest]
  rw [evaluateInterlock_cases hd _ rfl]
  split
  · rfl
  · split
    · exact hset
    · split
      · rw [offerNest_nest]; simp only [interlockTrip_nests]; rw [setTrip_nest]; exact hset
      · split
        · rw [offerNest_nest]; simp only [interlockRestored_nests]; rw [setTrip_nest]; exact hset
        · exact hset

/-- R15: a nest that does not name the node is left with its rails. -/
theorem evaluateNode_unnamed {n : NestId} {d : NodeId} {s : State} (h : interlockNode s n ≠ some d) :
    Beside n s (evaluateNode d s) := by
  have hturn {t : State} (ht : t.path = s.path) : evaluateFor d n t = t := if_neg ((interlockNode_congr ht n).symm ▸ h)
  have hpair : evaluateNode d s = evaluateFor d 1 (evaluateFor d 0 s) := rfl
  rw [hpair]
  rcases nest_cases n with rfl | rfl
  · rw [hturn rfl]
    exact evaluateFor_beside d (by decide) s
  · have hother := evaluateFor_beside d (m := 0) (n := 1) (by decide) s
    rw [hturn hother.path]
    exact hother

/-! ### The interlock of a nest whose drain ends (R14) -/

theorem interlockOf_congr {s t : State} (hnodes : t.nodes = s.nodes) (hpath : t.path = s.path) (n : NestId) :
    interlockOf t n = interlockOf s n := by
  unfold interlockOf interlockNode nodeKind nestWord nodeWord cfg
  rw [hnodes, hpath]

/-- R15: the status of nest n stands, or it is evaluated anew. -/
def InterlockStands (n : NestId) (s t : State) : Prop :=
  t.nests[n].interlock = s.nests[n].interlock ∨ t.nests[n].interlock = interlockOf s n

theorem leaveHeld_interlock (n : NestId) (s : State) : InterlockStands n s (leaveHeld n s) := by
  unfold leaveHeld
  split
  · right
    obtain ⟨places, -, h⟩ := enterWaiting_eq n s
    simp only [h, Fin.getElem_fin, Vector.getElem_set_self]
    rfl
  · left
    rw [offerNest_nest, modNest_get, if_pos rfl]

/-- R13: the session has ended and the inputs of the nest are closed. -/
def sessionEnded (n : NestId) (s : State) : State := closeInputs n (postEvent (evSessionClose n s.nests[n].cause) s)

theorem drainEnd_eq (n : NestId) (s : State) : drainEnd n s =
    if (sessionEnded n s).nests[n].seat then
      offerNest n ((sessionEnded n s).modNest n fun x => { x with state := .held })
    else leaveHeld n (sessionEnded n s) := rfl

theorem sessionEnded_nests (n : NestId) (s : State) : (sessionEnded n s).nests = s.nests := by
  unfold sessionEnded; simp

theorem sessionEnded_interlockOf (n j : NestId) (s : State) : interlockOf (sessionEnded n s) j = interlockOf s j := by
  obtain ⟨-, -, hnodes, -⟩ :=
    sameChecks_of_ledger (closeInputs_ledger n (postEvent (evSessionClose n s.nests[n].cause) s))
  have hposted := postEvent_continued (evSessionClose n s.nests[n].cause) s
  refine interlockOf_congr (hnodes.trans hposted.nodes) ((path_of_bus ?_).trans hposted.path) j
  exact closeInputs_bus ..

theorem drainEnd_interlock (n : NestId) (s : State) : InterlockStands n s (drainEnd n s) := by
  have hnests := sessionEnded_nests n s
  rw [drainEnd_eq]
  split
  · left
    rw [offerNest_nest, modNest_get, if_pos rfl]
    simp only [hnests]
  · have hstands := leaveHeld_interlock n (sessionEnded n s)
    unfold InterlockStands at *
    rw [sessionEnded_interlockOf, hnests] at hstands
    exact hstands

theorem testDrain_interlock (n j : NestId) (s : State) : InterlockStands j s (testDrain n s) := by
  unfold testDrain
  split
  · by_cases h : n = j
    · subst h; exact drainEnd_interlock n s
    · exact .inl (congrArg Nest.interlock (nestKept_of_ofNest (drainEnd_ofNest h s)).1)
  · exact .inl rfl

/-- R151: an entry into FREE changes the interlock of a nest only where its drain ends. -/
theorem freeContext_interlock (n j : NestId) (s : State) : InterlockStands j s (freeContext n s) := by
  have hnests : (freeContext n s).nests = (freed n s).nests :=
    (samePlant_of_plant (takeHeads_plant decideCheck_plant n (freed n s))).1
  have hstands := testDrain_interlock n j (s.modPrompt n Prompt.free)
  unfold InterlockStands at *
  rw [hnests]
  exact hstands

/-! ### The loss of a panel (R154) -/

/-- The decision that the loss of a panel returns. -/
def panelLostDecision : Decision := { verdict := .sourceFault, detail := detailPanelLost }

/-- R154: the timer of the context stops. -/
def timerStopped (n : NestId) (s : State) : State := s.modPrompt n fun p => { p with timer := none }

section
variable {n : NestId} {d : NodeId} {s : State}

theorem panelLost_of_lost (hshown : s.prompts[n].state = .shown) (hpanel : panelNode s n = some d)
    (hnode : s.nodes[d].state ≠ .inService) :
    panelLost n d s = freeContext n (returnOutcome n panelLostDecision (timerStopped n s)) := by
  unfold panelLost; exact if_pos ⟨hshown, hpanel, hnode⟩

theorem panelLost_of_elsewhere (h : panelNode s n = some d → s.prompts[n].state ≠ .shown) : panelLost n d s = s := by
  unfold panelLost; exact if_neg fun hlost => h hlost.2.1 hlost.1

theorem panelLost_of_inService (h : s.nodes[d].state = .inService) : panelLost n d s = s := by
  unfold panelLost; exact if_neg fun hlost => hlost.2.2 h

theorem panelLost_cases (n : NestId) (d : NodeId) (s : State) : panelLost n d s = s
    ∨ panelLost n d s = freeContext n (returnOutcome n panelLostDecision (timerStopped n s)) := by
  unfold panelLost
  split
  · exact .inr rfl
  · exact .inl rfl

theorem freeContext_grows (n : NestId) (s : State) : s.post.Grows (freeContext n s).post :=
  (grows_keptByDecisions s.post).takeHeads (fun _ h => h.trans (decideCheck_grows ..)) n
    (testDrain_grows n (s.modPrompt n Prompt.free))

theorem panelLost_grows (n : NestId) (d : NodeId) (s : State) : s.post.Grows (panelLost n d s).post := by
  rcases panelLost_cases n d s with h | h <;> rw [h]
  · exact .refl _
  · exact (returnOutcome_grows n (timerStopped n s) panelLostDecision).trans (freeContext_grows n _)

theorem panelLost_nodes (n : NestId) (d : NodeId) (s : State) : (panelLost n d s).nodes = s.nodes := by
  rcases panelLost_cases n d s with h | h <;> rw [h]
  exact freeContext_nodes.trans (returnOutcome_nodes ..)

theorem panelLost_interlock (n j : NestId) (d : NodeId) (s : State) : InterlockStands j s (panelLost n d s) := by
  rcases panelLost_cases n d s with h | h <;> rw [h]
  · exact .inl rfl
  · have hplant := returnOutcome_plant n panelLostDecision (timerStopped n s)
    have hnodes := returnOutcome_nodes n panelLostDecision (timerStopped n s)
    have hstands := freeContext_interlock n j (returnOutcome n panelLostDecision (timerStopped n s))
    unfold InterlockStands at *
    rw [interlockOf_congr hnodes (path_of_bus (bus_of_plant hplant)), (samePlant_of_plant hplant).1] at hstands
    exact hstands

/-! ### The context of a panel that is not ready -/

/-- R146, R151: a context whose panel is not ready stays FREE as it enters FREE. -/
theorem freeContext_unready (h : readyPanel s n = none) :
    (freeContext n s).prompts[n] = { s.prompts[n].free with waiting := (freeContext n s).prompts[n].waiting } := by
  have hnone : readyPanel (freed n s) n = none := (freed_readyPanel n s).trans h
  obtain ⟨⟨-, hstands⟩, -⟩ := (passedBy_keptByChain (.inr hnone)).takeHeads
    (fun he ht => (passedBy_keptByChain (.inr hnone)).decideCheck he ht) n (.refl n (freed n s))
  rw [freed_context] at hstands
  exact hstands

theorem timerStopped_passedBy {m : NestId} (hm : m ≠ n) : PassedBy m s (timerStopped n s) := by
  refine ⟨⟨rfl, ?_⟩, rfl⟩
  unfold timerStopped
  rw [modPrompt_get, if_neg hm]

theorem PassedBy.trans {m : NestId} {s t u : State} (h : PassedBy m s t) (g : PassedBy m t u) : PassedBy m s u :=
  ⟨h.1.trans g.1, g.2.trans h.2⟩

theorem PassedBy.readyPanel {m : NestId} {s t : State} (h : PassedBy m s t) : readyPanel t m = readyPanel s m :=
  readyPanel_congr h.1.1 h.2 m

theorem PassedBy.state {m : NestId} {s t : State} (h : PassedBy m s t) :
    t.prompts[m].state = s.prompts[m].state := by
  obtain ⟨⟨-, hcontext⟩, -⟩ := h
  rw [hcontext]

theorem returnOutcome_passedBy {m : NestId} (h : readyPanel s m = none) (n : NestId) (d : Decision) :
    PassedBy m s (returnOutcome n d s) := by
  unfold returnOutcome
  split
  · exact .refl m s
  · unfold promptOutcome admitOutcome
    split
    · exact decideCheck_passedBy (.inr h) ..
    · exact .refl m s

theorem freed_passedBy {m : NestId} (hm : m ≠ n) : PassedBy m s (freed n s) := by
  obtain ⟨-, -, hnodes, -, hprompts⟩ := testDrain_sameChecks n (s.modPrompt n Prompt.free)
  have hcontext : (freed n s).prompts[m] = s.prompts[m] := by
    unfold freed
    simp only [hprompts]
    rw [modPrompt_get, if_neg hm]
  refine ⟨⟨hnodes, ?_⟩, path_of_bus (freed_kept n s).bus⟩
  rw [hcontext]

theorem freeContext_passedBy {m : NestId} (hm : m ≠ n) (h : readyPanel s m = none) :
    PassedBy m s (freeContext n s) := by
  have hfreed := freed_passedBy (s := s) hm
  have hchain := passedBy_keptByChain (n := m) (s := freed n s) (.inr (hfreed.readyPanel.trans h))
  exact hfreed.trans (hchain.takeHeads (fun he ht => hchain.decideCheck he ht) n (.refl m _))

theorem panelLost_passedBy {m : NestId} (hm : m ≠ n) (h : readyPanel s m = none) :
    PassedBy m s (panelLost n d s) := by
  rcases panelLost_cases n d s with hlost | hlost <;> rw [hlost]
  · exact .refl m s
  · have hstopped := timerStopped_passedBy (s := s) hm
    have hreturned := returnOutcome_passedBy (hstopped.readyPanel.trans h) n panelLostDecision
    exact (hstopped.trans hreturned).trans
      (freeContext_passedBy hm ((hstopped.trans hreturned).readyPanel.trans h))

theorem readyPanel_unserved {n : NestId} {d : NodeId} {s : State} (hpanel : panelNode s n = some d)
    (hnode : s.nodes[d].state ≠ .inService) : readyPanel s n = none :=
  readyPanel_none fun e he => by
    cases hpanel.symm.trans he
    exact .inl hnode

/-- R154: the prompt that the lost panel shows is decided PANEL_LOST, and its context is FREE. -/
theorem panelLost_decides {x : Arming} (hshown : s.prompts[n].state = .shown) (hpanel : panelNode s n = some d)
    (hnode : s.nodes[d].state ≠ .inService) (hcheck : s.prompts[n].check = some x) (hasks : Asks x s) :
    let u := panelLost n d s
    Decided x.check { verdict := .sourceFault, detail := detailPanelLost, a := s.prompts[n].sequence.toNat } s u
      ∧ u.prompts[n].state = .free ∧ u.prompts[n].check = none ∧ u.prompts[n].timer = none := by
  have hstopped : (timerStopped n s).prompts[n] = { s.prompts[n] with timer := none } := modPrompt_self ..
  have hcheck' : (timerStopped n s).prompts[n].check = some x := by rw [hstopped]; exact hcheck
  have hstate : (timerStopped n s).prompts[n].state ≠ .free := by rw [hstopped]; exact fun h => nomatch hshown.symm.trans h
  have hsequence : (timerStopped n s).prompts[n].sequence = s.prompts[n].sequence := by rw [hstopped]
  have hreturn := returnOutcome_of_asks (s := timerStopped n s) hcheck' hasks panelLostDecision
  rw [hsequence] at hreturn
  have hstands := decideCheck_stands x.check
    { panelLostDecision with a := s.prompts[n].sequence.toNat } (timerStopped n s)
  have hpassed := decideCheck_passedBy (.inl hstate) x.check { panelLostDecision with a := s.prompts[n].sequence.toNat }
  dsimp only
  rw [panelLost_of_lost hshown hpanel hnode, hreturn]
  generalize decideCheck x.check { panelLostDecision with a := s.prompts[n].sequence.toNat } (timerStopped n s) = v at *
  have hcontext := freeContext_unready (hpassed.readyPanel.trans (readyPanel_unserved (s := timerStopped n s) hpanel hnode))
  refine ⟨verdictStands_freeContext hstands, ?_, ?_, ?_⟩ <;> rw [hcontext] <;> rfl
end

/-! ### The hand-on (R129) -/

section
variable {d : NodeId} {s : State}

theorem handOn_eq (d : NodeId) (s : State) : handOn d s = panelLost 1 d (panelLost 0 d (evaluateNode d s)) := rfl

/-- The losses of the panel in both contexts. -/
theorem panelsLost_kept (d : NodeId) (s : State) : Kept s (panelLost 1 d (panelLost 0 d s)) :=
  (panelLost_kept 0 d s).trans (panelLost_kept 1 d _)

theorem panelsLost_grows (d : NodeId) (s : State) : s.post.Grows (panelLost 1 d (panelLost 0 d s)).post :=
  (panelLost_grows 0 d s).trans (panelLost_grows 1 d _)

/-- R15: while the node is out of service, nothing of a loss makes the interlock of a nest that names it satisfied. -/
theorem panelLost_unsatisfied {n j : NestId} (hunsatisfied : interlockOf s j = .unsatisfied)
    (hnest : s.nests[j].interlock = .unsatisfied) : interlockOf (panelLost n d s) j = .unsatisfied
      ∧ (panelLost n d s).nests[j].interlock = .unsatisfied :=
  ⟨(interlockOf_congr (panelLost_nodes n d s) (path_of_bus (panelLost_kept n d s).bus) j).trans hunsatisfied,
    (panelLost_interlock n j d s).elim (·.trans hnest) (·.trans hunsatisfied)⟩

theorem interlockOf_unserved {n : NestId} (hnamed : interlockNode s n = some d)
    (hnode : s.nodes[d].state ≠ .inService) : interlockOf s n = .unsatisfied := by
  unfold interlockOf
  rw [hnamed]
  exact if_neg fun h => hnode h.1

/-- R15, R16: what the hand-on makes of a nest that names the node. -/
theorem handOn_named {n : NestId} (hnode : s.nodes[d].state ≠ .inService) (hnamed : interlockNode s n = some d) :
    let u := handOn d s
    u.nests[n].interlock = .unsatisfied
      ∧ (s.nests[n].state ≠ .draining → ∀ j : Fin 8, u.inputs[inputOf n j] = s.inputs[inputOf n j])
      ∧ (s.nests[n].state = .opened → s.nests[n].interlock = .satisfied →
          u.nests[n] = { s.nests[n] with interlock := .unsatisfied, trip := true }
            ∧ (∀ j : Fin 3, u.rails[railOf n j] = forcedRail .interlock s.rails[railOf n j])
            ∧ Reported (evInterlockTrip n d (tripWay s.nodes[d]) (forcedKinds s n)) s u) := by
  obtain ⟨t, hbefore, hafter⟩ := evaluateNode_named hnamed
  have hevaluated := evaluateNode_continued d s
  have hnamed' : interlockNode t n = some d := (interlockNode_congr hbefore.path n).trans hnamed
  have hnode' : t.nodes[d].state ≠ .inService := by simp only [hbefore.nodes]; exact hnode
  have hunserved := interlockOf_unserved hnamed' hnode'
  have hinterlock : (evaluateNode d s).nests[n].interlock = .unsatisfied := by
    rw [hafter.nest, evaluateInterlock_interlock hnamed', hunserved]
  have hstate : (evaluateNode d s).nests[n].state = s.nests[n].state := by
    rw [hafter.nest, evaluateInterlock_state hnamed', hbefore.nest]
  have hagain : interlockOf (evaluateNode d s) n = .unsatisfied :=
    interlockOf_unserved ((interlockNode_congr hevaluated.path n).trans hnamed) (by simp only [hevaluated.nodes]; exact hnode)
  have hinputs : (evaluateNode d s).inputs = s.inputs := congrArg (fun p => p.2.1) (evaluateNode_besideInterlock d s)
  have hkept := (panelsLost_kept d (evaluateNode d s)).2 n
  have hgrows := panelsLost_grows d (evaluateNode d s)
  have hend := panelLost_unsatisfied (n := 0) (d := d) hagain hinterlock
  have hend := panelLost_unsatisfied (n := 1) (d := d) hend.1 hend.2
  have hstays (h : s.nests[n].state ≠ .draining) : NestKept n (evaluateNode d s) (handOn d s) :=
    hkept.resolve_right fun hended => h (hstate.symm.trans hended.1)
  refine ⟨hend.2, fun hdraining j => ?_, fun hopened hsatisfied => ?_⟩
  · obtain ⟨-, -, hstayed⟩ := hstays hdraining
    rw [hstayed j]
    simp only [hinputs]
  · obtain ⟨hnest, hrails, -⟩ := hstays (by rw [hopened]; decide)
    obtain ⟨htripped, hforced, hreported⟩ := evaluateInterlock_trips hnamed' (by rw [hbefore.nest]; exact hopened)
      (by rw [hbefore.nest]; exact hsatisfied) hunserved
    have hway : tripWay t.nodes[d] = tripWay s.nodes[d] := by rw [hbefore.nodes]
    rw [hway, forcedKinds_congr hbefore.rails] at hreported
    refine ⟨?_, fun j => ?_, ?_⟩
    · rw [hnest, hafter.nest, htripped, hbefore.nest]
    · rw [hrails, hafter.rails, hforced, hbefore.rails]
    · exact hbefore.toContinued.reported_since
        (((evaluateInterlock_continued hnamed').post.trans hafter.post).trans hgrows) (hreported _ (hafter.post.trans hgrows))

/-- R13, R15: the hand-on leaves a nest that does not name the node, but that its drain may end. -/
theorem handOn_unnamed {n : NestId} (h : interlockNode s n ≠ some d) :
    NestKept n s (handOn d s) ∨ DrainEnded n s (handOn d s) := by
  obtain ⟨hcontinued, hnest, hrails⟩ := evaluateNode_unnamed h
  have hinputs : (evaluateNode d s).inputs = s.inputs := congrArg (fun p => p.2.1) (evaluateNode_besideInterlock d s)
  have hkept := (panelsLost_kept d (evaluateNode d s)).2 n
  rw [← handOn_eq] at hkept
  generalize evaluateNode d s = v at *
  generalize handOn d s = u at *
  have hinputs (j : Fin 8) : v.inputs[inputOf n j] = s.inputs[inputOf n j] := by rw [hinputs]
  refine hkept.imp (fun hkept => ?_) fun hended => ?_
  · obtain ⟨knest, krails, kinputs⟩ := hkept
    exact ⟨knest.trans hnest, fun j => (krails j).trans (hrails j), fun j => (kinputs j).trans (hinputs j)⟩
  · have hrest := restState_congr hcontinued.path hrails
    unfold DrainEnded at *
    simp only [hnest, hrails, hinputs, hrest] at hended
    exact hended

/-- R154: the hand-on takes the panel from the one context that shows its prompt. -/
theorem handOn_panel {n : NestId} {x : Arming} (hnode : s.nodes[d].state ≠ .inService)
    (hshown : s.prompts[n].state = .shown) (hpanel : panelNode s n = some d)
    (hnone : ∀ j : NestId, interlockNode s j ≠ some d)
    (hother : ∀ j : NestId, j ≠ n → panelNode s j = some d → s.prompts[j].state ≠ .shown)
    (hcheck : s.prompts[n].check = some x) (hasks : Asks x s) :
    let u := handOn d s
    Decided x.check { verdict := .sourceFault, detail := detailPanelLost, a := s.prompts[n].sequence.toNat } s u
      ∧ u.prompts[n].state = .free ∧ u.prompts[n].check = none ∧ u.prompts[n].timer = none := by
  have hdecides := panelLost_decides hshown hpanel hnode hcheck hasks
  dsimp only
  rw [handOn_eq, evaluateNode_of_unnamed hnone]
  rcases nest_cases n with rfl | rfl
  · have helsewhere : panelLost 1 d (panelLost 0 d s) = panelLost 0 d s := by
      refine panelLost_of_elsewhere fun hpanel' => ?_
      have hpanel1 : panelNode s 1 = some d := by
        have hpath := path_of_bus (panelLost_kept 0 d s).bus
        unfold panelNode nestWord cfg at *
        rwa [hpath] at hpanel'
      rw [(panelLost_passedBy (m := 1) (by decide) (readyPanel_unserved hpanel1 hnode)).state]
      exact hother 1 (by decide) hpanel1
    rw [helsewhere]
    exact hdecides
  · rw [panelLost_of_elsewhere (n := 0) (hother 0 (by decide))]
    exact hdecides

/-- R129: the change of a node that is not in service is handed on. -/
theorem handOn_handedOn (hnode : s.nodes[d].state ≠ .inService) :
    HandedOn d (tripWay s.nodes[d]) s (handOn d s) :=
  ⟨fun _ hnamed => handOn_named hnode hnamed, fun _ h => handOn_unnamed h,
    fun _ _ hshown hpanel hnone hother hcheck hasks => handOn_panel hnode hshown hpanel hnone hother hcheck hasks⟩

/-- R129: a hand-on changes no node, no supply and no capture slot. -/
theorem handOn_nodes (d : NodeId) (s : State) : (handOn d s).nodes = s.nodes :=
  (panelLost_nodes ..).trans ((panelLost_nodes ..).trans (evaluateNode_continued d s).nodes)

theorem handOn_supplies_capture (d : NodeId) (s : State) :
    (handOn d s).supplies = s.supplies ∧ (handOn d s).capture = s.capture := by
  obtain ⟨hbench, -⟩ := panelsLost_kept d (evaluateNode d s)
  obtain ⟨hsupplies, -, -, -, -, -, hcapture⟩ := sameStimulus_of_bench hbench
  have hbeside := evaluateNode_besideInterlock d s
  simp only [State.besideInterlock, Prod.mk.injEq] at hbeside
  exact ⟨hsupplies.trans hbeside.1, hcapture.trans hbeside.2.2⟩
end

end Sys2Proof.Machine
end

section
/-! CERTIFICATE. The statements on the phases of a transaction (R124, R138) and on link errors (R124, R134, R135). -/
namespace Sys2Proof.Machine

open Stated

/-! ### The phases of a transaction -/

section
variable {s : State} {t : Transaction} {x : Phase}

theorem flightIn_of (hflight : s.link.flight = some t) (hphase : t.phase = x) : flightIn s x = some t := by
  unfold flightIn
  rw [hflight]
  exact Option.filter_some_pos (by simp [hphase])

end

/-- Settles O54: each command finds the transaction in its phase and moves it on. -/
theorem transactionsAdvanceThroughTheirPhases : Obligations.TransactionsAdvanceThroughTheirPhases := by
  refine ⟨fun s t ring buffer tag hgrant hflight hhost => ?_, fun s t hflight hphase => ?_,
    fun s t hflight hphase hwait => ?_⟩
  · change execBlockSourceRead s = _
    unfold execBlockSourceRead
    rw [takenIf_true (by rw [hgrant]; rfl)]
    unfold blockRead
    simp only [modPath_link, hflight, hhost]
    rfl
  · change execRequestFrameEnd s = _
    unfold execRequestFrameEnd
    rw [flightIn_of hflight hphase]
    rfl
  · change execReplyOpenerBegins s = _
    unfold execReplyOpenerBegins
    rw [flightIn_of hflight hphase]
    exact takenIf_true (decide_eq_true hwait) _ _

/-! ### The requester of a lost transaction (R140, R143) -/

section
variable {t : Transaction} {s : State} {r : LinkResult}

theorem replyData_failed (hr : r ≠ .ok) (k : LinkKind) (w : Word) : replyData k r w = 0 := by
  unfold replyData; exact if_neg fun h => hr h.1

theorem answerFlight_flushed (hflushed : t.flushed = true)
    (hhost : ∀ ring buffer tag, t.request.requester ≠ .host ring buffer tag) (w : Word) :
    answerFlight t r w s = s := by
  unfold answerFlight
  rw [if_pos hflushed]
  split
  · rename_i h; exact absurd h (hhost _ _ _)
  all_goals rfl

/-- R114: a query that is not answered OK decides its check. -/
theorem queryDecision_failed (hr : r ≠ .ok) (c : CheckId) (w : Word) :
    queryDecision s c r w = { verdict := .sourceFault, detail := 16 + r.code } := by
  unfold queryDecision; exact if_neg hr

/-- R140, R143: a result without words reaches the requester. -/
theorem answerFlight_answered (hr : r ≠ .ok) (w : Word) : FlightAnswered t r s (answerFlight t r w s) := by
  refine ⟨fun ring buffer tag hhost => ?_, fun hservice => answerFlight_service hservice r w,
    fun c arming session hcheck => ⟨fun hflushed => ?_, fun hflushed hstate harming hsession => ?_⟩,
    fun n sequence k text hprompt => ⟨fun hflushed => ?_, fun hflushed => ?_⟩⟩
  · have hdata : (if t.flushed then 0 else replyData t.request.kind r w) = 0 := by
      rw [replyData_failed hr]; exact ite_self 0
    rw [answerFlight_host hhost]
    unfold hostReply
    rw [hdata]
    exact ⟨posted_postEvent _ s, sameBlocks_postEvent s _⟩
  · exact answerFlight_flushed hflushed (fun _ _ _ h => by rw [hcheck] at h; cases h) w
  · have hdecides := queryResult_decides (r := r) (w := w) hstate harming hsession
    rw [queryDecision_failed hr] at hdecides
    rw [answerFlight_check hcheck hflushed]
    exact hdecides
  · exact answerFlight_flushed hflushed (fun _ _ _ h => by rw [hprompt] at h; cases h) w
  · rw [answerFlight_prompt hprompt, hflushed]
    exact stepResult_answered ..
end

/-! ### The loss of a node (R135) -/

/-- R135, R136: node d is out of service and counted. -/
def nodeOut (d : NodeId) (s : State) : State :=
  offerLinkSummary ((s.modNode d fun x =>
    { x with state := .outOfService, servicePending := false, pollHeld := false }).modLink fun l =>
      { l with outOfService := l.outOfService + 1 })

/-- R135: the NODE_LOST of the second error e. -/
def lostEvent (t : Transaction) (e : LinkError) (s : State) : Event :=
  evNodeLost (boundNest s t.request.node) t.request.node (addressCode s t.request.node) t.request
    t.request.registerField (t.firstError.getD e) e

/-- R135: the node is lost in this state. -/
def nodeDropped (t : Transaction) (e : LinkError) (s : State) : State :=
  postEvent (lostEvent t e s) (nodeOut t.request.node s)

theorem loseNode_eq (t : Transaction) (e : LinkError) (s : State) : loseNode t e s =
    landed (handOn t.request.node (answerFlight t .nodeLost 0 (nodeDropped t e s))) := rfl

theorem postEvent_outOfService (e : Event) (s : State) :
    (postEvent e s).post.outOfService = s.post.outOfService := by
  unfold postEvent; split <;> rfl

/-- R135: v is s with node d out of service. -/
structure NodeDropped (d : NodeId) (s v : State) : Prop where
  nodes : v.nodes = s.nodes.set d { s.nodes[d] with state := .outOfService, servicePending := false, pollHeld := false }
  link : v.link = { s.link with outOfService := s.link.outOfService + 1 }
  count : v.post.outOfService = s.link.outOfService + 1
  checks : v.checks = s.checks
  unposted : v.unposted = s.unposted
  prompts : v.prompts = s.prompts
  path : v.path = s.path
  mem : v.mem = s.mem
  plant : SamePlant s v
  stimulus : SameStimulus s v

theorem nodeOut_eq (d : NodeId) (s : State) : nodeOut d s = { s with
    nodes := s.nodes.set d { s.nodes[d] with state := .outOfService, servicePending := false, pollHeld := false }
    link := { s.link with outOfService := s.link.outOfService + 1 }
    post := (nodeOut d s).post } := rfl

theorem nodeOut_count (d : NodeId) (s : State) : (nodeOut d s).post.outOfService = s.link.outOfService + 1 := rfl

theorem nodeOut_drops (d : NodeId) (s : State) : NodeDropped d s (nodeOut d s) := by
  have hcount := nodeOut_count d s
  rw [nodeOut_eq]
  generalize (nodeOut d s).post = p at *
  exact ⟨rfl, rfl, hcount, rfl, rfl, rfl, rfl, rfl, ⟨rfl, rfl, rfl, rfl⟩, rfl, rfl, rfl, rfl, rfl, rfl, rfl⟩

theorem nodeDropped_postEvent {d : NodeId} {s v : State} (h : NodeDropped d s v) (e : Event) :
    NodeDropped d s (postEvent e v) := by
  have hcount := (postEvent_outOfService e v).trans h.count
  rw [postEvent_eq] at *
  exact ⟨h.nodes, h.link, hcount, h.checks, h.unposted, h.prompts, h.path, h.mem, h.plant, h.stimulus⟩

theorem nodeDropped_posted (t : Transaction) (e : LinkError) (s : State) :
    Posted (lostEvent t e s) s (nodeDropped t e s) :=
  posted_of_room (s' := nodeOut t.request.node s) (posted_postEvent (lostEvent t e s) _) rfl rfl rfl rfl rfl

/-- Settles O56: the first attempt is followed by the second, and the loss of the node is the posting, the answer and the
hand-on in turn. -/
theorem linkErrorsRetryAndThenLoseTheNode : Obligations.LinkErrorsRetryAndThenLoseTheNode := by
  intro s t c e hflight hcommand
  have hexec : exec c s = .next (settle (linkErrorTaken t e s)) := by
    rcases hcommand with ⟨rfl, hphase, hwait, rfl⟩ | ⟨r, rfl, hphase, hjudged⟩
    · change execNoReply s = _
      unfold execNoReply
      rw [flightIn_of hflight hphase]
      exact takenIf_true (decide_eq_true hwait) _ _
    · change execLinkError r s = _
      unfold execLinkError judged
      rw [flightIn_of hflight hphase]
      dsimp only
      rw [hjudged]
  refine ⟨fun hfirst => ?_, fun hsecond => ?_⟩
  · rw [hexec]
    unfold linkErrorTaken
    rw [hfirst]
    rfl
  · have hlost : linkErrorTaken t e s
        = landed (handOn t.request.node (answerFlight t .nodeLost 0 (nodeDropped t e s))) := by
      unfold linkErrorTaken
      rw [if_pos hsecond, loseNode_eq]
    obtain ⟨hnodes, hlink, hcount, hchecks, hunposted, hprompts, hpath, hmem, hplant, hstimulus⟩ :=
      nodeDropped_postEvent (nodeOut_drops t.request.node s) (lostEvent t e s)
    rw [← nodeDropped] at *
    have hnode : (answerFlight t .nodeLost 0 (nodeDropped t e s)).nodes[t.request.node].state = .outOfService := by
      simp only [answerFlight_nodes, hnodes]
      simp
    have hhanded := handOn_handedOn (d := t.request.node) (s := answerFlight t .nodeLost 0 (nodeDropped t e s))
      (by rw [hnode]; decide)
    have hway : tripWay (answerFlight t .nodeLost 0 (nodeDropped t e s)).nodes[t.request.node] = .outOfService := by
      unfold tripWay; rw [hnode]
    rw [hway] at hhanded
    refine ⟨nodeDropped t e s, hexec.trans (by rw [hlost]; rfl), ?_⟩
    have hanswered := answerFlight_answered (t := t) (s := nodeDropped t e s) (r := .nodeLost) (by decide) 0
    exact ⟨hnodes, hlink, hcount, nodeDropped_posted t e s, hchecks, hunposted, hprompts, hpath, hmem, hplant, hstimulus, hanswered,
      hhanded⟩

end Sys2Proof.Machine
end

section
/-! SUPPORT. What evaluations and decisions leave of the link (R129, R131, R136): its queue only grows, and the count of
nodes out of service stands. -/
namespace Sys2Proof.Machine

open Stated

/-! ### A link whose queue only grows -/

/-- Requests were only added to the queue, and the count of nodes out of service is as it was, also as offered. -/
structure LinkOnward (s t : State) : Prop where
  queue : ∀ q ∈ s.link.queue, q ∈ t.link.queue
  count : t.link.outOfService = s.link.outOfService
  offered : t.post.outOfService = s.post.outOfService

theorem linkOnward_of_eq {s t : State} (hlink : t.link = s.link)
    (hoffered : t.post.outOfService = s.post.outOfService) : LinkOnward s t :=
  ⟨fun q hq => by rw [hlink]; exact hq, by rw [hlink], hoffered⟩

theorem LinkOnward.refl (s : State) : LinkOnward s s := linkOnward_of_eq rfl rfl

theorem LinkOnward.trans {s t u : State} (h : LinkOnward s t) (g : LinkOnward t u) : LinkOnward s u :=
  ⟨fun q hq => g.queue q (h.queue q hq), g.count.trans h.count, g.offered.trans h.offered⟩

/-- What has changed nothing of the link comes before what goes on. -/
theorem LinkOnward.after {s t u : State} (h : LinkOnward t u) (hlink : t.link = s.link)
    (hoffered : t.post.outOfService = s.post.outOfService) : LinkOnward s u :=
  (linkOnward_of_eq hlink hoffered).trans h

theorem mem_enqueue (q x : Request) (l : List Request) : x ∈ enqueue q l ↔ x = q ∨ x ∈ l := by
  unfold enqueue
  split
  · simp only [List.mem_append, List.mem_cons, List.mem_filter]
    cases x.isServicePoll <;> simp [or_comm]
  · simp [or_comm]

theorem joinQueue_linkOnward (q : Request) (s : State) : LinkOnward s (joinQueue q s) :=
  ⟨fun x hx => (mem_enqueue q x _).2 (.inr hx), rfl, rfl⟩

theorem postEvent_linkOnward (e : Event) (s : State) : LinkOnward s (postEvent e s) := by
  refine linkOnward_of_eq ?_ (postEvent_outOfService e s)
  rw [postEvent_eq]

/-! ### Decisions -/

theorem takeVerdict_linkOnward {s t : State} (h : takeVerdict s = some t) : LinkOnward s t := by
  unfold takeVerdict at h
  split at h
  · cases h
  · split at h
    · cases h
    · split at h
      · cases h; exact linkOnward_of_eq rfl rfl
      · cases h

theorem recordDecision_linkOnward (c : CheckId) (d : Decision) (s : State) : LinkOnward s (recordDecision c d s) :=
  takeVerdicts_induct (P := LinkOnward s) (fun hs ht => hs.trans (takeVerdict_linkOnward ht)) _
    (linkOnward_of_eq rfl rfl)

theorem modCheck_linkOnward (c : CheckId) (f : Check → Check) (s : State) : LinkOnward s (s.modCheck c f) :=
  linkOnward_of_eq rfl rfl

theorem offerQuery_linkOnward (c : CheckId) (s : State) : LinkOnward s (offerQuery c s) := by
  unfold offerQuery
  split
  · exact (joinQueue_linkOnward (queryRequest s c) s).trans (modCheck_linkOnward ..)
  · exact modCheck_linkOnward ..

theorem endDelay_linkOnward (c : CheckId) (s : State) : LinkOnward s (endDelay c s).1 := by
  unfold endDelay
  dsimp only
  split
  · unfold takeLevelSample; split <;> exact linkOnward_of_eq rfl rfl
  · unfold takeWindowSample; split <;> exact linkOnward_of_eq rfl rfl
  · unfold takeProfileSample; dsimp only; repeat' split
    all_goals exact linkOnward_of_eq rfl rfl
  · exact linkOnward_of_eq rfl rfl
  · exact (modCheck_linkOnward ..).trans (offerQuery_linkOnward c _)
  all_goals exact .refl s

theorem startDelay_linkOnward (c : CheckId) (s : State) : LinkOnward s (startDelay c s).1 := by
  have hbegun : LinkOnward s (delayBegun c s) := modCheck_linkOnward ..
  by_cases h : settleDelay s c = 0
  · rw [startDelay_ends h]; exact hbegun.trans (endDelay_linkOnward ..)
  · rw [startDelay_waits h]; exact hbegun

theorem startCharge_linkOnward (c : CheckId) (s : State) : LinkOnward s (startCharge c s).1 := by
  unfold startCharge
  split
  · exact .refl s
  · dsimp only
    split
    · exact linkOnward_of_eq rfl rfl
    · exact .refl s

theorem startCheck_linkOnward (c : CheckId) (s : State) : LinkOnward s (startCheck c s).1 := by
  have hrecorded : LinkOnward s (triggerRecorded c s) := modCheck_linkOnward ..
  have hdelayed := hrecorded.trans (startDelay_linkOnward c _)
  cases hkind : checkKind s c with
  | none => unfold startCheck; dsimp only; rw [kindRecorded hkind]; exact hrecorded
  | some k =>
    cases k with
    | level => rw [startCheck_level hkind]; exact hdelayed
    | window => rw [startCheck_window hkind]; exact hdelayed
    | query => rw [startCheck_query hkind]; exact hdelayed
    | profile =>
      cases hm : markedProfile s c with
      | false => rw [startCheck_unmarked hkind hm]; exact hdelayed
      | true => rw [startCheck_marked hkind hm]; exact hrecorded.trans (linkOnward_of_eq rfl rfl)
    | charge => rw [startCheck_charge hkind]; exact hrecorded.trans (startCharge_linkOnward ..)
    | signature =>
      have hseeded : LinkOnward (triggerRecorded c s) (signatureSeeded c (triggerRecorded c s)) :=
        modCheck_linkOnward ..
      rw [startCheck_signature hkind]
      exact hrecorded.trans (hseeded.trans (startDelay_linkOnward ..))
    | operator => rw [startCheck_operator hkind]; exact linkOnward_of_eq rfl rfl

theorem offerStep_linkOnward (n : NestId) (k : PromptStep) (s : State) : LinkOnward s (offerStep n k s) := by
  unfold offerStep
  split
  · exact (joinQueue_linkOnward (contextRequest s n k) s).trans (linkOnward_of_eq rfl rfl)
  · exact linkOnward_of_eq rfl rfl

theorem openPrompt_linkOnward (n : NestId) (a : Arming) (d : NodeId) (s : State) :
    LinkOnward s (openPrompt n a d s) := by
  unfold openPrompt
  exact (offerStep_linkOnward ..).after rfl rfl

theorem linkOnward_keptByDecisions (s : State) : KeptByDecisions (fun _ => True) (LinkOnward s) where
  record _ h := h.trans (recordDecision_linkOnward ..)
  start _ h := h.trans (startCheck_linkOnward ..)
  waiting h := h.trans (linkOnward_of_eq rfl rfl)
  opened h := h.trans (openPrompt_linkOnward ..)
  movable _ _ := trivial

theorem decideCheck_linkOnward (c : CheckId) (d : Decision) (s : State) : LinkOnward s (decideCheck c d s) :=
  (linkOnward_keptByDecisions s).decideCheck trivial (.refl s)

/-! ### Force-offs and evaluations -/

theorem haltTrack_linkOnward (c : TrackCause) (t : TrackId) (s : State) : LinkOnward s (haltTrack c t s) := by
  have hbeside := haltTrack_besideTracks c t s
  simp only [State.besideTracks, Prod.mk.injEq] at hbeside
  obtain ⟨-, -, -, -, -, -, -, -, -, hlink, -⟩ := hbeside
  refine linkOnward_of_eq hlink ?_
  rw [haltTrack_eq]
  dsimp only
  generalize hu : (released t s).modTrack t (fun x => x.halted c) = u
  have hpost : u.post = s.post := by rw [← hu, modTrack_post]; exact post_of_claims (released_besideClaims t s)
  rw [← hpost]
  exact postEvent_outOfService _ u

theorem railLost_linkOnward (r : RailId) (s : State) : LinkOnward s (railLost r s) := by
  have hhalted : LinkOnward s (haltForRail r s) :=
    forEach_induct (LinkOnward s) _ (fun t u h => by
      split
      · exact h.trans (haltTrack_linkOnward ..)
      · exact h) _ _ (.refl s)
  refine hhalted.trans (forEach_induct (LinkOnward (haltForRail r s)) _ (fun c u h => ?_) _ _ (.refl _))
  dsimp only
  split
  · exact h.trans (decideCheck_linkOnward ..)
  · exact h

theorem forceOff_linkOnward (n : NestId) (c : RailCause) (handOff : Bool) (s : State) :
    LinkOnward s (forceOff n c handOff s) := by
  rw [forceOff_eq]
  refine forEach_induct (LinkOnward s) _ (fun k u h => ?_) _ _ (.refl s)
  unfold forceRail
  dsimp only
  have hposted (e : Event) (f : Rail → Rail) (r : RailId) : LinkOnward u (postEvent e (u.modRail r f)) :=
    (postEvent_linkOnward e (u.modRail r f)).after rfl rfl
  split
  · exact h.trans ((hposted ..).trans (railLost_linkOnward ..))
  · exact h.trans (hposted ..)

theorem interlockTrip_linkOnward (n : NestId) (d : NodeId) (s : State) : LinkOnward s (interlockTrip n d s) := by
  rw [interlockTrip_eq]
  exact (forceOff_linkOnward n .interlock true s).trans
    ((postEvent_linkOnward _ (tripped n s)).after rfl rfl)

theorem interlockRestored_linkOnward (n : NestId) (d : NodeId) (s : State) :
    LinkOnward s (interlockRestored n d s) := by
  rw [interlockRestored_eq]
  exact (postEvent_linkOnward _ (setTrip n false s)).after rfl rfl

theorem offerNest_linkOnward (n : NestId) (s : State) : LinkOnward s (offerNest n s) := linkOnward_of_eq rfl rfl

theorem evaluateFor_linkOnward (d : NodeId) (n : NestId) (s : State) : LinkOnward s (evaluateFor d n s) := by
  unfold evaluateFor
  split
  · rename_i hnamed
    have hset : LinkOnward s (setInterlock n (interlockOf s n) s) := linkOnward_of_eq rfl rfl
    rw [evaluateInterlock_cases hnamed _ rfl]
    split
    · exact .refl s
    · split
      · exact hset.trans (offerNest_linkOnward ..)
      · split
        · exact (hset.trans (interlockTrip_linkOnward ..)).trans (offerNest_linkOnward ..)
        · split
          · exact (hset.trans (interlockRestored_linkOnward ..)).trans (offerNest_linkOnward ..)
          · exact hset.trans (offerNest_linkOnward ..)
  · exact .refl s

theorem evaluateNode_linkOnward (d : NodeId) (s : State) : LinkOnward s (evaluateNode d s) := by
  rw [evaluateNode_eq]
  exact forEach_induct (LinkOnward s) _ (fun n t h => h.trans (evaluateFor_linkOnward d n t)) _ _ (.refl s)

/-! ### Losses of a panel -/

theorem returnOutcome_linkOnward (n : NestId) (d : Decision) (s : State) : LinkOnward s (returnOutcome n d s) := by
  unfold returnOutcome
  split
  · exact .refl s
  · unfold promptOutcome admitOutcome
    split
    · exact decideCheck_linkOnward ..
    · exact .refl s

theorem closeInputs_outOfService (n : NestId) (s : State) :
    (closeInputs n s).post.outOfService = s.post.outOfService := by
  have hstopped : (s.forEach (List.finRange 8) fun j s => s.modInput (inputOf n j) Input.stop).post.outOfService
      = s.post.outOfService :=
    forEach_keeps (fun s => s.post.outOfService) (fun j s => s.modInput (inputOf n j) Input.stop) (fun _ _ => rfl) _ s
  have hoffered (s : State) : (offerInputs n s).post.outOfService = s.post.outOfService :=
    forEach_keeps (fun s => s.post.outOfService) (fun j s => offerInput (inputOf n j) s) (fun _ _ => rfl) _ s
  unfold closeInputs
  dsimp only
  split
  · exact hstopped
  · exact (hoffered _).trans hstopped

theorem drainEnd_outOfService (n : NestId) (s : State) : (drainEnd n s).post.outOfService = s.post.outOfService := by
  have hended : (sessionEnded n s).post.outOfService = s.post.outOfService :=
    (closeInputs_outOfService ..).trans (postEvent_outOfService ..)
  rw [drainEnd_eq]
  split
  · exact hended
  · unfold leaveHeld
    split
    · obtain ⟨places, -, h⟩ := enterWaiting_eq n (sessionEnded n s)
      rw [h]
      exact hended
    · exact hended

theorem freed_linkOnward (n : NestId) (s : State) : LinkOnward s (freed n s) := by
  obtain ⟨-, -, -, hlink, -⟩ := testDrain_sameChecks n (s.modPrompt n Prompt.free)
  refine linkOnward_of_eq hlink ?_
  unfold freed testDrain
  split
  · exact drainEnd_outOfService ..
  · rfl

theorem freeContext_linkOnward (n : NestId) (s : State) : LinkOnward s (freeContext n s) :=
  (linkOnward_keptByDecisions s).takeHeads (fun _ h => h.trans (decideCheck_linkOnward ..)) n (freed_linkOnward n s)

theorem panelLost_linkOnward (n : NestId) (d : NodeId) (s : State) : LinkOnward s (panelLost n d s) := by
  rcases panelLost_cases n d s with h | h <;> rw [h]
  · exact .refl s
  · exact ((returnOutcome_linkOnward n panelLostDecision (timerStopped n s)).trans
      (freeContext_linkOnward n _)).after rfl rfl

theorem handOn_linkOnward (d : NodeId) (s : State) : LinkOnward s (handOn d s) :=
  (evaluateNode_linkOnward d s).trans ((panelLost_linkOnward 0 d _).trans (panelLost_linkOnward 1 d _))

end Sys2Proof.Machine
end

section
/-! CERTIFICATE. The statement on the node actions (R126, R127, R128). -/
namespace Sys2Proof.Machine

open Stated

/-- The owner of an action on a node that exists takes it. -/
theorem onNode_val (act : NodeId → State → Except Reason State) (d : NodeId) (s : State) :
    onNode act d.val s = act d s := by
  unfold onNode; exact dif_pos d.isLt

/-! ### A node that comes into service (R126, R128) -/

/-- R126, R131: the record of a node that comes into service; its poll is held where the queue is full. -/
def servedNode (s : State) (d : NodeId) : Node :=
  { s.nodes[d] with
    state := .inService
    status := none
    servicePending := true
    pollHeld := if s.link.queue.length < 16 then s.nodes[d].pollHeld else true }

section
variable {d : NodeId} {s : State}

/-- R15: a node in service whose status is unknown satisfies no interlock. -/
theorem interlockOf_unknown {n : NestId} (hnamed : interlockNode s n = some d) (hstatus : s.nodes[d].status = none) :
    interlockOf s n = .unsatisfied := by
  have hopen : ¬ statusClosed s.nodes[d].status = true := by rw [hstatus]; decide
  unfold interlockOf
  rw [hnamed]
  exact if_neg fun h => hopen h.2.2

/-- R154: a hand-on of a node in service takes no panel. -/
theorem handOn_of_inService (h : s.nodes[d].state = .inService) : handOn d s = evaluateNode d s := by
  have hnodes := (evaluateNode_continued d s).nodes
  have hserves : (evaluateNode d s).nodes[d].state = .inService := by simp only [hnodes]; exact h
  rw [handOn_eq, panelLost_of_inService (n := 0) hserves, panelLost_of_inService (n := 1) hserves]

/-- R126, R128: node d has come into service in u, with k nodes out of service. -/
structure NodeServed (d : NodeId) (k : Nat) (s u : State) : Prop where
  nodes : u.nodes = s.nodes.set d (servedNode s d)
  polls : s.link.queue.length < 16 → servicePoll d ∈ u.link.queue
  count : u.link.outOfService = k
  named : ∀ n : NestId, interlockNode s n = some d → u.nests[n].interlock = .unsatisfied
  unnamed : ∀ n : NestId, interlockNode s n ≠ some d → u.nests[n] = s.nests[n]
  supplies : u.supplies = s.supplies
  inputs : u.inputs = s.inputs
  capture : u.capture = s.capture

/-- R126, R128: node d is in service with an unknown status and service pending; its poll is not yet offered. -/
def serviceBegun (d : NodeId) (s : State) : State :=
  s.modNode d fun x => { x with state := .inService, status := none, servicePending := true }

theorem bringIntoService_joins (hroom : s.link.queue.length < 16) :
    bringIntoService d s = joinQueue (servicePoll d) (serviceBegun d s) :=
  offerPoll_joins (s := serviceBegun d s) d hroom

theorem bringIntoService_holds (hfull : 16 ≤ s.link.queue.length) :
    bringIntoService d s = s.modNode d fun x =>
      { x with state := .inService, status := none, servicePending := true, pollHeld := true } :=
  (offerPoll_holds (s := serviceBegun d s) d hfull).trans (modNode_modNode ..)

theorem bringIntoService_nodes (d : NodeId) (s : State) :
    (bringIntoService d s).nodes = s.nodes.set d (servedNode s d) := by
  unfold servedNode
  by_cases hroom : s.link.queue.length < 16
  · rw [bringIntoService_joins hroom, if_pos hroom]
    rfl
  · rw [bringIntoService_holds (Nat.not_lt.1 hroom), if_neg hroom]
    rfl

theorem bringIntoService_polls (hroom : s.link.queue.length < 16) :
    servicePoll d ∈ (bringIntoService d s).link.queue := by
  rw [bringIntoService_joins hroom]
  exact (mem_enqueue ..).2 (.inl rfl)

theorem offerPoll_eq (d : NodeId) (s : State) : ∃ nodes queue,
    offerPoll d s = { s with nodes := nodes, link := { s.link with queue := queue } } := by
  unfold offerPoll
  split
  · exact ⟨_, _, rfl⟩
  · exact ⟨_, s.link.queue, rfl⟩

/-- Bringing a node into service changes the nodes and the queue. -/
theorem bringIntoService_eq (d : NodeId) (s : State) : ∃ nodes queue,
    bringIntoService d s = { s with nodes := nodes, link := { s.link with queue := queue } } := by
  obtain ⟨nodes, queue, h⟩ := offerPoll_eq d (serviceBegun d s)
  exact ⟨nodes, queue, h⟩

/-- R15, R129: what is handed on of a node that has come into service in z. -/
theorem nodeServed_handOn {k : Nat} {z : State} (hnodes : z.nodes = s.nodes.set d (servedNode s d))
    (hpolls : s.link.queue.length < 16 → servicePoll d ∈ z.link.queue) (hcount : z.link.outOfService = k)
    (hplant : z.plant = s.plant) : NodeServed d k s (handOn d z) := by
  have hnode : z.nodes[d] = servedNode s d := by rw [hnodes]; simp
  have hpath : z.path = s.path := path_of_bus (bus_of_plant hplant)
  obtain ⟨hnests, hsupplies, -, hinputs⟩ := samePlant_of_plant hplant
  obtain ⟨-, -, -, -, -, -, hcapture⟩ := sameStimulus_of_bench (bench_of_plant hplant)
  have hserves : z.nodes[d].state = .inService := by rw [hnode]; rfl
  have honward := evaluateNode_linkOnward d z
  have hbeside := evaluateNode_besideInterlock d z
  simp only [State.besideInterlock, Prod.mk.injEq] at hbeside
  obtain ⟨esupplies, einputs, ecapture⟩ := hbeside
  rw [handOn_of_inService hserves]
  refine ⟨(evaluateNode_continued d z).nodes.trans hnodes, fun hroom => honward.queue _ (hpolls hroom),
    honward.count.trans hcount, fun n hnamed => ?_, fun n hunnamed => ?_, esupplies.trans hsupplies,
    einputs.trans hinputs, ecapture.trans hcapture⟩
  · obtain ⟨t, hbefore, hafter⟩ := evaluateNode_named ((interlockNode_congr hpath n).trans hnamed)
    have hnamed' : interlockNode t n = some d :=
      (interlockNode_congr (hbefore.path.trans hpath) n).trans hnamed
    rw [hafter.nest, evaluateInterlock_interlock hnamed']
    refine interlockOf_unknown hnamed' ?_
    simp only [hbefore.nodes]
    rw [hnode]
    rfl
  · rw [(evaluateNode_unnamed (n := n) (by rw [interlockNode_congr hpath]; exact hunnamed)).nest, hnests]
end

/-! ### NODE_ENABLE and NODE_RESTORE -/

section
variable {d : NodeId} {s : State}

theorem duplicateCode_iff (s : State) (d : NodeId) : duplicateCode s d = true
    ↔ ∃ e : NodeId, e ≠ d ∧ s.nodes[e].state ≠ .disabled ∧ addressCode s e = addressCode s d := by
  unfold duplicateCode allNodes
  simp [and_assoc]

theorem nodeEnableRefusal_eq (s : State) (d : NodeId) : nodeEnableRefusal s d =
    if s.nodes[d].state ≠ .disabled then some .wrongState
    else if setBits (addressCode s d) ≠ 2 then some .badCode
    else if ∃ e : NodeId, e ≠ d ∧ s.nodes[e].state ≠ .disabled ∧ addressCode s e = addressCode s d then
      some .duplicateCode
    else if 3 < nodeKind s d ∨ 2 < nodeBinding s d then some .badRange
    else none := by
  unfold nodeEnableRefusal
  simp only [duplicateCode_iff]

/-- R164: the tests do not look at the action word. -/
theorem nodeEnableRefusal_written (s : State) (a : HostAccess) (d : NodeId) :
    nodeEnableRefusal (writeAction a (clearHost s)) d = nodeEnableRefusal s d := rfl

theorem actNodeEnable_refused {r : Reason} (h : nodeEnableRefusal s d = some r) (opd : Nat) :
    actNodeEnable d.val opd s = .error r := by
  unfold actNodeEnable; rw [onNode_val, h]

theorem actNodeEnable_accepted (h : nodeEnableRefusal s d = none) (opd : Nat) :
    ∃ u, actNodeEnable d.val opd s = .ok u ∧ NodeServed d s.link.outOfService s u := by
  obtain ⟨nodes, queue, heq⟩ := bringIntoService_eq d s
  refine ⟨handOn d (bringIntoService d s), ?_, nodeServed_handOn (bringIntoService_nodes d s)
    bringIntoService_polls (by rw [heq]) (by rw [heq]; rfl)⟩
  unfold actNodeEnable
  rw [onNode_val, h]

/-- R128, R136: one node fewer is out of service. -/
def uncounted (s : State) : State := s.modLink fun l => { l with outOfService := l.outOfService - 1 }

/-- R128, R136: the node comes into service and is no longer counted. -/
def restored (d : NodeId) (s : State) : State := offerLinkSummary (bringIntoService d (uncounted s))

theorem uncounted_count (s : State) : (uncounted s).link.outOfService = s.link.outOfService - 1 := rfl

theorem bringIntoService_count (d : NodeId) (s : State) :
    (bringIntoService d s).link.outOfService = s.link.outOfService ∧ (bringIntoService d s).plant = s.plant := by
  obtain ⟨nodes, queue, heq⟩ := bringIntoService_eq d s
  rw [heq]
  exact ⟨rfl, rfl⟩

theorem offerLinkSummary_offers (s : State) : (offerLinkSummary s).link.outOfService = s.link.outOfService
    ∧ (offerLinkSummary s).post.outOfService = s.link.outOfService := ⟨rfl, rfl⟩

theorem restored_served (d : NodeId) (s : State) : (restored d s).nodes = s.nodes.set d (servedNode s d)
    ∧ (s.link.queue.length < 16 → servicePoll d ∈ (restored d s).link.queue)
    ∧ (restored d s).link.outOfService = s.link.outOfService - 1
    ∧ (restored d s).post.outOfService = s.link.outOfService - 1
    ∧ (restored d s).plant = s.plant := by
  obtain ⟨hlink, hoffered⟩ := offerLinkSummary_offers (bringIntoService d (uncounted s))
  obtain ⟨hcount, hplant⟩ := bringIntoService_count d (uncounted s)
  rw [uncounted_count] at hcount
  unfold restored
  exact ⟨bringIntoService_nodes d (uncounted s), bringIntoService_polls (s := uncounted s), hlink.trans hcount,
    hoffered.trans hcount, (offerLinkSummary_plant _).trans (hplant.trans (modLink_plant ..))⟩

theorem actNodeRestore_refused (h : s.nodes[d].state ≠ .outOfService) (opd : Nat) :
    actNodeRestore d.val opd s = .error .wrongState := by
  unfold actNodeRestore; rw [onNode_val]; exact if_pos h

theorem actNodeRestore_accepted (h : ¬ s.nodes[d].state ≠ .outOfService) (opd : Nat) :
    ∃ u, actNodeRestore d.val opd s = .ok u ∧ NodeServed d (s.link.outOfService - 1) s u
      ∧ u.post.outOfService = s.link.outOfService - 1 := by
  obtain ⟨hnodes, hpolls, hcount, hoffered, hplant⟩ := restored_served d s
  refine ⟨handOn d (restored d s), ?_, nodeServed_handOn hnodes hpolls hcount hplant,
    (handOn_linkOnward d (restored d s)).offered.trans hoffered⟩
  unfold actNodeRestore
  rw [onNode_val, if_neg h]
  rfl
end

/-! ### NODE_DISABLE (R127) -/

section
variable {d : NodeId} {s : State}

/-- R127: the record of a node that is disabled. -/
def disabledNode (x : Node) : Node := { x with state := .disabled, servicePending := false, pollHeld := false }

/-- R127, R136: the node is disabled, and no longer counted if it was out of service. -/
def withdrawnNode (d : NodeId) (s : State) : State :=
  if s.nodes[d].state = .outOfService then
    offerLinkSummary ((s.modNode d disabledNode).modLink fun l => { l with outOfService := l.outOfService - 1 })
  else s.modNode d disabledNode

theorem disableNode_eq (d : NodeId) (s : State) : disableNode d s = handOn d (withdrawnNode d s) := by
  unfold disableNode withdrawnNode
  dsimp only
  split <;> rfl

/-- R127: node d is disabled in u, and the change has been handed on. -/
structure NodeDisabled (d : NodeId) (s u : State) : Prop where
  nodes : u.nodes = s.nodes.set d (disabledNode s.nodes[d])
  count : u.link.outOfService =
    if s.nodes[d].state = .outOfService then s.link.outOfService - 1 else s.link.outOfService
  handed : HandedOn d .disabled { s with nodes := u.nodes } u
  supplies : u.supplies = s.supplies
  capture : u.capture = s.capture

theorem withdrawnNode_eq (d : NodeId) (s : State) : ∃ k places paused outOfService, withdrawnNode d s =
    { s with
      nodes := s.nodes.set d (disabledNode s.nodes[d])
      link := { s.link with outOfService := k }
      post := { s.post with places := places, paused := paused, outOfService := outOfService } } := by
  unfold withdrawnNode
  split
  · exact ⟨_, _, _, _, rfl⟩
  · exact ⟨s.link.outOfService, s.post.places, s.post.paused, s.post.outOfService, rfl⟩

theorem withdrawnNode_count (d : NodeId) (s : State) : (withdrawnNode d s).link.outOfService =
    if s.nodes[d].state = .outOfService then s.link.outOfService - 1 else s.link.outOfService := by
  unfold withdrawnNode
  split <;> rfl

theorem disableNode_disabled (d : NodeId) (s : State) : NodeDisabled d s (disableNode d s) := by
  have hcount := withdrawnNode_count d s
  obtain ⟨k, places, paused, outOfService, heq⟩ := withdrawnNode_eq d s
  have hnode : (withdrawnNode d s).nodes[d].state = .disabled := by rw [heq]; simp [disabledNode]
  have hway : tripWay (withdrawnNode d s).nodes[d] = .disabled := by unfold tripWay; rw [hnode]
  have hhanded := handOn_handedOn (d := d) (s := withdrawnNode d s) (by rw [hnode]; decide)
  have hnodes := handOn_nodes d (withdrawnNode d s)
  have hkept := handOn_supplies_capture d (withdrawnNode d s)
  have honward := handOn_linkOnward d (withdrawnNode d s)
  rw [hway] at hhanded
  rw [disableNode_eq]
  generalize handOn d (withdrawnNode d s) = u at *
  obtain ⟨hsupplies, hcapture⟩ := hkept
  have hnodes' : u.nodes = s.nodes.set d (disabledNode s.nodes[d]) := by rw [hnodes, heq]
  refine ⟨hnodes', honward.count.trans hcount, ?_, hsupplies.trans (by rw [heq]), hcapture.trans (by rw [heq])⟩
  rw [hnodes']
  rw [heq] at hhanded
  exact hhanded

theorem actNodeDisable_busy (h : s.link.flight.any (fun t => t.request.node == d) = true) (opd : Nat) :
    actNodeDisable d.val opd s = .error .busy := by
  unfold actNodeDisable; rw [onNode_val]; exact if_pos h

theorem actNodeDisable_accepted (h : ¬ s.link.flight.any (fun t => t.request.node == d) = true) (opd : Nat) :
    ∃ u, actNodeDisable d.val opd s = .ok u ∧ (s.nodes[d].state = .disabled → u = s)
      ∧ (s.nodes[d].state ≠ .disabled → NodeDisabled d s u) := by
  have hact : actNodeDisable d.val opd s = if s.nodes[d].state = .disabled then .ok s else .ok (disableNode d s) := by
    unfold actNodeDisable; rw [onNode_val]; exact if_neg h
  by_cases hdisabled : s.nodes[d].state = .disabled
  · exact ⟨s, hact.trans (if_pos hdisabled), fun _ => rfl, fun hne => absurd hdisabled hne⟩
  · exact ⟨_, hact.trans (if_neg hdisabled), fun he => absurd he hdisabled, fun _ => disableNode_disabled d s⟩
end

/-- Settles O50: the refusals are the tests in order; what is accepted is the change of the node handed on. -/
theorem nodesAreEnabledRestoredAndDisabled : Obligations.NodesAreEnabledRestoredAndDisabled := by
  intro s k a d
  refine ⟨fun hcommand => ?_, fun hcommand => ?_, fun hcommand => ?_⟩
  · have hrefusal := (nodeEnableRefusal_written s a d).trans (nodeEnableRefusal_eq s d)
    refine answers_of_refusal rfl actNodeEnable_bus hcommand
      (fun e he => actNodeEnable_refused (s := writeAction a (clearHost s)) (hrefusal.trans he) _) fun hnone => ?_
    obtain ⟨u, hact, hnodes, hpolls, hcount, hnamed, hunnamed, hsupplies, hinputs, hcapture⟩ :=
      actNodeEnable_accepted (hrefusal.trans hnone) (wordOperand a.data)
    exact ⟨u, hact, hnodes, hpolls, hcount, hnamed, hunnamed, hsupplies, hinputs, hcapture⟩
  · refine answers_of_refusal rfl actNodeRestore_bus hcommand (fun e he => ?_) fun hnone => ?_
    · split at he
      · rename_i hstate; cases he; exact actNodeRestore_refused (s := writeAction a (clearHost s)) hstate _
      · cases he
    · have hstate : ¬ s.nodes[d].state ≠ .outOfService := fun h => by rw [if_pos h] at hnone; cases hnone
      obtain ⟨u, hact, ⟨hnodes, hpolls, hcount, hnamed, hunnamed, hsupplies, hinputs, hcapture⟩, hoffered⟩ :=
        actNodeRestore_accepted (s := writeAction a (clearHost s)) hstate (wordOperand a.data)
      exact ⟨u, hact, hnodes, hpolls, hcount, hoffered, hnamed, hunnamed, hsupplies, hinputs, hcapture⟩
  · refine answers_of_refusal rfl actNodeDisable_bus hcommand (fun e he => ?_) fun hnone => ?_
    · split at he
      · rename_i hbusy; cases he; exact actNodeDisable_busy (s := writeAction a (clearHost s)) hbusy _
      · cases he
    · have hidle : ¬ s.link.flight.any (fun t => t.request.node == d) = true :=
        fun h => by rw [if_pos h] at hnone; cases hnone
      obtain ⟨u, hact, hsame, hdisabled⟩ :=
        actNodeDisable_accepted (s := writeAction a (clearHost s)) hidle (wordOperand a.data)
      refine ⟨u, hact, fun hstate => ?_, fun hstate => ?_⟩
      · rw [hsame hstate]
        exact ⟨rfl, rfl, ⟨rfl, rfl, rfl, rfl⟩, ⟨rfl, rfl, rfl, rfl, rfl, rfl, rfl⟩, ⟨rfl, rfl, rfl, rfl, rfl⟩, rfl, rfl⟩
      · obtain ⟨hnodes, hcount, hhanded, hsupplies, hcapture⟩ := hdisabled hstate
        exact ⟨hnodes, hcount, hhanded, hsupplies, hcapture⟩

end Sys2Proof.Machine
end

section
/-! CERTIFICATE. The statement on the format of the link (R123, R124). -/
namespace Sys2Proof.Machine

open Stated

/-! ### Request frames (R123) -/

theorem bitsOf_length {n : Nat} (w : Nat) (v : BitVec n) : (bitsOf w v).length = w := by simp [bitsOf]

theorem bitsOf_get {n w i : Nat} (v : BitVec n) (h : i < w) : (bitsOf w v)[i]? = some (v.getLsbD (w - 1 - i)) := by
  simp [bitsOf, h]

/-- The opener pair, the address, the register and its parity. -/
def frameHead (address : BitVec 6) (q : Request) : List Bool :=
  bitsOf 8 (requestOpener q.kind) ++ bitsOf 6 address ++ bitsOf 8 q.registerField ++ [parityBit q.registerField]

theorem frameHead_length (address : BitVec 6) (q : Request) : (frameHead address q).length = 23 := by
  simp [frameHead, bitsOf_length]

theorem requestFrame_eq (address : BitVec 6) (q : Request) (words : List Word) :
    requestFrame address q words = frameHead address q ++ (words.map wordBits).flatten := rfl

theorem wordBits_length (w : Word) : (wordBits w).length = 37 := by simp [wordBits, bitsOf_length]

theorem wordsBits_length (words : List Word) : (words.map wordBits).flatten.length = 37 * words.length := by
  induction words with
  | nil => rfl
  | cons w words ih => simp [wordBits_length, ih, Nat.mul_add, Nat.add_comm]

/-- The bits of the word with number j stand from bit 37 j on. -/
theorem wordsBits_get {words : List Word} {i : Nat} (hi : i < 37) : ∀ {j : Nat} (h : j < words.length),
    (words.map wordBits).flatten[37 * j + i]? = (wordBits words[j])[i]? := by
  induction words with
  | nil => exact fun h => absurd h (Nat.not_lt_zero _)
  | cons w words ih =>
    intro j h
    rw [List.map_cons, List.flatten_cons]
    cases j with
    | zero => rw [Nat.mul_zero, Nat.zero_add, List.getElem?_append_left (by rw [wordBits_length]; exact hi)]; rfl
    | succ j =>
      have hpast : 37 * (j + 1) + i - (wordBits w).length = 37 * j + i := by rw [wordBits_length]; omega
      rw [List.getElem?_append_right (by rw [wordBits_length]; omega), hpast]
      exact ih (Nat.lt_of_succ_lt_succ h)

section
variable (address : BitVec 6) (q : Request) (words : List Word)

theorem requestFrame_head {i : Nat} (h : i < 23) : (requestFrame address q words)[i]? = (frameHead address q)[i]? := by
  rw [requestFrame_eq, List.getElem?_append_left (by rw [frameHead_length]; exact h)]

theorem requestFrame_word {i j : Nat} (hi : i < 37) (h : j < words.length) :
    (requestFrame address q words)[23 + 37 * j + i]? = (wordBits words[j])[i]? := by
  have hpast : 23 + 37 * j + i - (frameHead address q).length = 37 * j + i := by rw [frameHead_length]; omega
  rw [requestFrame_eq, List.getElem?_append_right (by rw [frameHead_length]; omega), hpast, wordsBits_get hi h]

theorem frameHead_opener {i : Nat} (h : i < 8) :
    (frameHead address q)[i]? = some ((requestOpener q.kind).getLsbD (7 - i)) := by
  unfold frameHead
  rw [List.append_assoc, List.append_assoc, List.getElem?_append_left (by rw [bitsOf_length]; exact h), bitsOf_get _ h]

theorem frameHead_address {i : Nat} (h : i < 6) : (frameHead address q)[8 + i]? = some (address.getLsbD (5 - i)) := by
  unfold frameHead
  rw [List.append_assoc, List.append_assoc, List.getElem?_append_right (by rw [bitsOf_length]; omega), bitsOf_length,
    Nat.add_sub_cancel_left, List.getElem?_append_left (by rw [bitsOf_length]; exact h), bitsOf_get _ h]

theorem frameHead_register {i : Nat} (h : i < 8) :
    (frameHead address q)[14 + i]? = some (q.registerField.getLsbD (7 - i)) := by
  have hlength : (bitsOf 8 (requestOpener q.kind) ++ bitsOf 6 address).length = 14 := by simp [bitsOf_length]
  unfold frameHead
  rw [List.append_assoc, List.getElem?_append_right (by rw [hlength]; omega), hlength, Nat.add_sub_cancel_left,
    List.getElem?_append_left (by rw [bitsOf_length]; exact h), bitsOf_get _ h]

theorem frameHead_parity : (frameHead address q)[22]? = some (parityBit q.registerField) := by
  have hlength : (bitsOf 8 (requestOpener q.kind) ++ bitsOf 6 address ++ bitsOf 8 q.registerField).length = 22 := by
    simp [bitsOf_length]
  unfold frameHead
  rw [List.getElem?_append_right (by rw [hlength]), hlength]
  rfl
end

theorem wordBits_data (w : Word) {i : Nat} (h : i < 32) : (wordBits w)[i]? = some (w.getLsbD (31 - i)) := by
  unfold wordBits
  rw [List.append_assoc, List.getElem?_append_left (by rw [bitsOf_length]; exact h), bitsOf_get _ h]

theorem wordBits_check (w : Word) {i : Nat} (h : i < 4) :
    (wordBits w)[32 + i]? = some ((nibbleCheck w).getLsbD (3 - i)) := by
  unfold wordBits
  rw [List.append_assoc, List.getElem?_append_right (by rw [bitsOf_length]; omega), bitsOf_length,
    Nat.add_sub_cancel_left, List.getElem?_append_left (by rw [bitsOf_length]; exact h), bitsOf_get _ h]

/-! ### Replies (R124) -/

section
variable {c : ReplyCode} {further : Bool} {got : List Word}

/-- R124: words with a good nibble check are taken one by one. -/
theorem judgeWords_good {before : List (Word × BitVec 4)} (hgood : ∀ b ∈ before, nibbleCheck b.1 = b.2) (n : Nat)
    (rest : List (Word × BitVec 4)) : judgeWords c further (before.length + n) got (before ++ rest)
      = judgeWords c further n (got ++ before.map Prod.fst) rest := by
  induction before generalizing got with
  | nil => simp
  | cons b before ih =>
    obtain ⟨w, k⟩ := b
    have hnibble : nibbleCheck w = k := hgood (w, k) List.mem_cons_self
    have hrest : ∀ b ∈ before, nibbleCheck b.1 = b.2 := fun b hb => hgood b (List.mem_cons_of_mem _ hb)
    rw [List.length_cons, Nat.succ_add, List.cons_append, judgeWords, if_pos hnibble, ih hrest]
    simp

/-- R124: all words of the reply have a good nibble check, and n are owed. -/
theorem judgeWords_all {words : List (Word × BitVec 4)} (hgood : ∀ b ∈ words, nibbleCheck b.1 = b.2) (n : Nat) :
    (words.length = n → further = false →
        judgeWords c further n got words = .answer c (got ++ words.map Prod.fst))
      ∧ (words.length < n → judgeWords c further n got words = .error .gap)
      ∧ (words.length = n → further = true → judgeWords c further n got words = .error .wordCount)
      ∧ (n < words.length → judgeWords c further n got words = .error .wordCount) := by
  have htaken (m : Nat) : judgeWords c further (words.length + m) got words
      = judgeWords c further m (got ++ words.map Prod.fst) [] := by
    simpa using judgeWords_good (c := c) (further := further) (got := got) hgood m []
  refine ⟨fun hn hfurther => ?_, fun hn => ?_, fun hn hfurther => ?_, fun hn => ?_⟩
  · subst hn hfurther
    exact htaken 0
  · obtain ⟨m, rfl⟩ : ∃ m, n = words.length + (m + 1) := ⟨n - words.length - 1, by omega⟩
    exact htaken (m + 1)
  · subst hn hfurther
    exact htaken 0
  · have hsplit : words = words.take n ++ words.drop n := (List.take_append_drop ..).symm
    have hlength : (words.take n).length = n := List.length_take_of_le (Nat.le_of_lt hn)
    have hmore : (words.drop n).isEmpty = false := by
      rw [List.isEmpty_eq_false_iff_exists_mem]
      exact ⟨_, List.getElem_mem (l := words.drop n) (n := 0) (by rw [List.length_drop]; omega)⟩
    have hgoes := judgeWords_good (c := c) (further := further) (got := got) (before := words.take n)
      (fun b hb => hgood b (List.mem_of_mem_take hb)) 0 (words.drop n)
    rw [hlength, ← hsplit, Nat.add_zero] at hgoes
    rw [hgoes]
    unfold judgeWords
    rw [hmore]
    simp

/-- R124: the first word with a bad nibble check ends the reply. -/
theorem judgeWords_bad {p : Word × BitVec 4} {before after : List (Word × BitVec 4)}
    (hgood : ∀ b ∈ before, nibbleCheck b.1 = b.2) (hbad : nibbleCheck p.1 ≠ p.2) {n : Nat} (hn : before.length < n) :
    judgeWords c further n got (before ++ p :: after) = .error .nibbleCheck := by
  obtain ⟨m, rfl⟩ : ∃ m, n = before.length + (m + 1) := ⟨n - before.length - 1, by omega⟩
  obtain ⟨w, k⟩ := p
  rw [judgeWords_good hgood, judgeWords]
  exact if_neg hbad
end

section
variable {address : BitVec 6} {kind : LinkKind} {r : LinkReply} {c : ReplyCode}

theorem judgeReply_answers (h : r.opener.map replyOpener = some (.answer c)) :
    judgeReply address kind r = judgeEcho address kind c r := by
  unfold judgeReply; rw [h]

theorem judgeEcho_gap (h : r.echo = none) : judgeEcho address kind c r = .error .gap := by
  unfold judgeEcho; rw [h]

theorem judgeEcho_mismatch {e : BitVec 6} (h : r.echo = some e) (hne : e ≠ address) :
    judgeEcho address kind c r = .error .addressMismatch := by
  unfold judgeEcho; rw [h]; exact if_pos hne

theorem judgeEcho_words (h : r.echo = some address) : judgeEcho address kind c r
    = judgeWords c r.further (if c = .ok then wordsOwed kind else 0) [] r.words := by
  unfold judgeEcho; rw [h]; exact if_neg (not_not.2 rfl)

theorem replyOpener_unassigned {o : BitVec 8} (hok : o ≠ 0xCA#8) (herror : o ≠ 0xC9#8) (hrefused : o ≠ 0xC6#8)
    (hgarbled : o ≠ 0xC5#8) : replyOpener o = .unassigned := by
  unfold replyOpener; rw [if_neg hok, if_neg herror, if_neg hrefused, if_neg hgarbled]

/-- R124: the three openers that answer. -/
theorem opener_answers (h : r.opener = some 0xCA#8 ∨ r.opener = some 0xC9#8 ∨ r.opener = some 0xC6#8) :
    ∃ c, r.opener.map replyOpener = some (.answer c) := by
  rcases h with h | h | h <;> rw [h]
  · exact ⟨.ok, rfl⟩
  · exact ⟨.nodeError, rfl⟩
  · exact ⟨.refused, rfl⟩

/-- R124: the openers of a refusal, which owes no word. -/
theorem opener_refuses (h : r.opener = some 0xC9#8 ∨ r.opener = some 0xC6#8) : ∃ c, c ≠ .ok
    ∧ r.opener.map replyOpener = some (.answer c) ∧ c = if r.opener = some 0xC9#8 then .nodeError else .refused := by
  rcases h with h | h <;> rw [h]
  · exact ⟨.nodeError, by decide, rfl, rfl⟩
  · exact ⟨.refused, by decide, rfl, rfl⟩
end

/-- Settles O55: the frame is cut at its fields, and the reply is judged field by field. -/
theorem framesAndRepliesFollowTheLinkFormat : Obligations.FramesAndRepliesFollowTheLinkFormat := by
  refine ⟨fun address q words => ⟨?_, fun i => ?_, fun i => ?_, fun i => ?_, ?_, fun j h i => ?_, fun j h i => ?_⟩,
    fun address kind r => ⟨fun h => ?_, fun h => ?_, fun o h hok herror hrefused hgarbled => ?_, fun h => ?_,
      fun h hecho hwords hfurther => ?_, fun h hecho => ?_⟩⟩
  · rw [requestFrame_eq, List.length_append, frameHead_length, wordsBits_length]
  · rw [requestFrame_head address q words (by omega), frameHead_opener address q i.isLt]
  · rw [requestFrame_head address q words (by omega), frameHead_address address q i.isLt]
  · rw [requestFrame_head address q words (by omega), frameHead_register address q i.isLt]
    rfl
  · rw [requestFrame_head address q words (by omega), frameHead_parity]
    rfl
  · rw [requestFrame_word address q words (by omega) h, wordBits_data _ i.isLt]
  · have hplace : 55 + 37 * j + i.val = 23 + 37 * j + (32 + i.val) := by omega
    rw [hplace, requestFrame_word address q words (by omega) h, wordBits_check _ i.isLt]
  · unfold judgeReply; rw [h]; rfl
  · unfold judgeReply; rw [h]; rfl
  · unfold judgeReply
    rw [h, Option.map_some, replyOpener_unassigned hok herror hrefused hgarbled]
  · obtain ⟨c, hc⟩ := opener_answers h
    rw [judgeReply_answers hc]
    exact ⟨judgeEcho_gap, fun e hecho hne => judgeEcho_mismatch hecho hne⟩
  · obtain ⟨c, hne, hc, hcode⟩ := opener_refuses h
    rw [← hcode, judgeReply_answers hc, judgeEcho_words hecho, if_neg hne, hwords, hfurther]
    rfl
  · have hc : r.opener.map replyOpener = some (.answer .ok) := by rw [h]; rfl
    rw [judgeReply_answers hc, judgeEcho_words hecho, if_pos rfl]
    refine ⟨fun hgood => judgeWords_all hgood _, fun p before after hwords hgood hbad hlength => ?_⟩
    rw [hwords]
    exact judgeWords_bad hgood hbad hlength

end Sys2Proof.Machine
end

section
/-! CERTIFICATE. The statement on held requests and on the request ring (R131, R137). -/
namespace Sys2Proof.Machine

open Stated

/-! ### The first of a table -/

/-- The first place of a table where p holds. -/
theorem find_finRange {n : Nat} {p : Fin n → Bool} {i : Fin n} (h : p i = true) (hfirst : ∀ j, j < i → p j = false) :
    (List.finRange n).find? p = some i := by
  refine List.find?_eq_some_iff_getElem.2 ⟨h, i.val, by simp, by simp, fun j hj => ?_⟩
  rw [List.getElem_finRange, hfirst _ hj]
  rfl

theorem allNests_eq : allNests = List.finRange 2 := rfl

section
variable {s : State}

/-! ### The requests that are held (R131) -/

theorem heldPoll_some {d : NodeId} (h : s.nodes[d].pollHeld = true)
    (hfirst : ∀ e : NodeId, e < d → s.nodes[e].pollHeld = false) : heldPoll s = some d :=
  find_finRange (p := fun d => s.nodes[d].pollHeld) h hfirst

theorem heldPoll_none (h : ∀ d : NodeId, s.nodes[d].pollHeld = false) : heldPoll s = none :=
  List.find?_eq_none.2 fun d _ => Bool.eq_false_iff.1 (h d)

/-- R131, R155: the context holds neither a RESTART clear nor a step. -/
def Prompt.HoldsNothing (p : Prompt) : Prop := p.restartClear = none ∧ ∀ x, p.step ≠ some (x, true)

/-- The test of a held prompt step. -/
def stepHeld (s : State) (n : NestId) : Bool :=
  s.prompts[n].restartClear.isSome || (match s.prompts[n].step with | some (_, h) => h | none => false)

theorem heldStep_eq (s : State) : heldStep s = allNests.find? (stepHeld s) := rfl

theorem stepHeld_eq_false {n : NestId} (h : s.prompts[n].HoldsNothing) : stepHeld s n = false := by
  obtain ⟨hclear, hstep⟩ := h
  unfold stepHeld
  rw [hclear]
  rcases hx : s.prompts[n].step with - | ⟨k, _ | _⟩
  · rfl
  · rfl
  · exact absurd hx (hstep k)

theorem stepHeld_of_clear {n : NestId} {x : NodeId × BitVec 8} (h : s.prompts[n].restartClear = some x) :
    stepHeld s n = true := by
  unfold stepHeld; rw [h]; rfl

theorem stepHeld_of_step {n : NestId} {k : PromptStep} (h : s.prompts[n].step = some (k, true)) :
    stepHeld s n = true := by
  unfold stepHeld; rw [h]; exact Bool.or_true _

theorem heldStep_some {n : NestId} (h : stepHeld s n = true)
    (hfirst : ∀ j : NestId, j < n → s.prompts[j].HoldsNothing) : heldStep s = some n := by
  rw [heldStep_eq, allNests_eq]
  exact find_finRange h fun j hj => stepHeld_eq_false (hfirst j hj)

theorem heldStep_none (h : ∀ n : NestId, s.prompts[n].HoldsNothing) : heldStep s = none := by
  rw [heldStep_eq]
  exact List.find?_eq_none.2 fun n _ => Bool.eq_false_iff.1 (stepHeld_eq_false (h n))

theorem heldQuery_some {c : CheckId} (h : s.checks[c].query = .held)
    (hfirst : ∀ e : CheckId, e < c → s.checks[e].query ≠ .held) : heldQuery s = some c :=
  find_finRange (p := fun c => s.checks[c].query == .held) (beq_iff_eq.2 h) fun e he => beq_eq_false_iff_ne.2 (hfirst e he)

theorem heldQuery_none (h : ∀ c : CheckId, s.checks[c].query ≠ .held) : heldQuery s = none :=
  List.find?_eq_none.2 fun c _ => by rw [beq_iff_eq]; exact h c

/-! ### The taking of one (R131) -/

theorem linkFree_iff (s : State) : linkFree s = true ↔ s.link.queue.length < 16 := decide_eq_true_iff

theorem takeHeld_full (h : 16 ≤ s.link.queue.length) : takeHeld s = none := by
  unfold takeHeld
  exact if_neg fun hfree => absurd ((linkFree_iff s).1 hfree) (Nat.not_lt.2 h)

theorem takeHeld_nothing (hpolls : ∀ d : NodeId, s.nodes[d].pollHeld = false)
    (hsteps : ∀ n : NestId, s.prompts[n].HoldsNothing) (hqueries : ∀ c : CheckId, s.checks[c].query ≠ .held) :
    takeHeld s = none := by
  unfold takeHeld
  rw [heldPoll_none hpolls, heldStep_none hsteps, heldQuery_none hqueries]
  exact ite_self _

theorem takeHeld_poll {d : NodeId} (hroom : s.link.queue.length < 16) (h : s.nodes[d].pollHeld = true)
    (hfirst : ∀ e : NodeId, e < d → s.nodes[e].pollHeld = false) :
    takeHeld s = some { s with
      link := { s.link with queue := enqueue (servicePoll d) s.link.queue }
      nodes := s.nodes.set d { s.nodes[d] with pollHeld := false } } := by
  unfold takeHeld
  rw [if_pos ((linkFree_iff s).2 hroom), heldPoll_some h hfirst]
  rfl

theorem takeHeld_step {n : NestId} (hroom : s.link.queue.length < 16)
    (hpolls : ∀ d : NodeId, s.nodes[d].pollHeld = false) (h : stepHeld s n = true)
    (hfirst : ∀ j : NestId, j < n → s.prompts[j].HoldsNothing) : takeHeld s = some (takeStep n s) := by
  unfold takeHeld
  rw [if_pos ((linkFree_iff s).2 hroom), heldPoll_none hpolls, heldStep_some h hfirst]

theorem takeStep_clear {n : NestId} {d : NodeId} {q : BitVec 8} (h : s.prompts[n].restartClear = some (d, q)) :
    takeStep n s = { s with
      link := { s.link with queue := s.link.queue ++ [stepRequest n d q 0 0 .clear] }
      prompts := s.prompts.set n { s.prompts[n] with restartClear := none } } := by
  unfold takeStep
  rw [h]
  rfl

theorem takeStep_step {n : NestId} {k : PromptStep} (hclear : s.prompts[n].restartClear = none)
    (h : s.prompts[n].step = some (k, true)) :
    takeStep n s = { s with
      link := { s.link with queue := s.link.queue ++ [contextRequest s n k] }
      prompts := s.prompts.set n { s.prompts[n] with step := some (k, false) } } := by
  have hqueue : enqueue (contextRequest s n k) s.link.queue = s.link.queue ++ [contextRequest s n k] :=
    enqueue_step n s.prompts[n] k s.link.queue
  unfold takeStep
  rw [hclear, h, ← hqueue]
  rfl

theorem takeHeld_query {c : CheckId} (hroom : s.link.queue.length < 16)
    (hpolls : ∀ d : NodeId, s.nodes[d].pollHeld = false) (hsteps : ∀ n : NestId, s.prompts[n].HoldsNothing)
    (h : s.checks[c].query = .held) (hfirst : ∀ e : CheckId, e < c → s.checks[e].query ≠ .held) :
    takeHeld s = some { s with
      link := { s.link with queue := s.link.queue ++ [queryRequest s c] }
      checks := s.checks.set c { s.checks[c] with query := .issued } } := by
  unfold takeHeld
  rw [if_pos ((linkFree_iff s).2 hroom), heldPoll_none hpolls, heldStep_none hsteps, heldQuery_some h hfirst]
  rfl

theorem exec_heldRequestTaken {t : State} (h : takeHeld s = some t) :
    exec .heldRequestTaken s = .next (settle t) := by
  change execHeldRequestTaken s = _
  rw [execHeldRequestTaken_eq, h]
  rfl
end

/-! ### The request ring (R137) -/

section
variable {s : State} {q : BitVec 4}

/-- R137: the buffer of a block request in words. -/
theorem blockPlaced_iff (s : State) (b : Word) : blockPlaced s b = true ↔ b.toNat % 4 = 0 ∧ b.toNat + 64 ≤ 16777216
    ∧ (b.toNat + 64 ≤ 16384 * s.path.base.toNat ∨ 16384 * s.path.base.toNat + 16384 ≤ b.toNat) := by
  unfold blockPlaced memorySize
  simp [and_assoc]

/-- R137: the buffer of the record is tested where its kind has one. -/
def RingPlaced (s : State) (q : BitVec 4) : Prop :=
  (ringKind s q = some .putBlock ∨ ringKind s q = some .getBlock) → blockPlaced s (ringWord s q 2) = true

theorem ringRequest_badRequest (h : ringKind s q = none ∨ 15 ≤ ringNode s q) :
    ringRequest s q = .error .badRequest := by
  unfold ringRequest
  rcases h with h | h
  · rw [h]
  · split
    · rfl
    · exact dif_neg (Nat.not_lt.2 h)

theorem ringRequest_badAddress {k : LinkKind} (hkind : ringKind s q = some k) (hnode : ringNode s q < 15)
    (h : ¬ RingPlaced s q) : ringRequest s q = .error .badAddress := by
  obtain ⟨hblock, hplaced⟩ := Classical.not_imp.1 h
  rw [hkind] at hblock
  unfold ringRequest
  rw [hkind]
  dsimp only
  rw [dif_pos hnode]
  exact if_pos ⟨hblock.imp (Option.some.inj ·) (Option.some.inj ·), by simpa using hplaced⟩

theorem ringRequest_ok {k : LinkKind} (hkind : ringKind s q = some k) (hnode : ringNode s q < 15)
    (h : RingPlaced s q) : ringRequest s q = .ok
      ⟨k, ⟨ringNode s q, hnode⟩, ringRegister s q, ringWord s q 1, .host q (ringWord s q 2) (ringTag s q)⟩ := by
  unfold RingPlaced at h
  rw [hkind] at h
  unfold ringRequest
  rw [hkind]
  dsimp only
  rw [dif_pos hnode]
  exact if_neg fun hbad => by
    have hplaced := h (hbad.1.imp (congrArg some) (congrArg some))
    rw [hplaced] at hbad
    simp at hbad

/-- R137: a record that is taken carries its fields. -/
theorem ringRequest_fields {x : Request} (h : ringRequest s q = .ok x) :
    x.requester = .host q (ringWord s q 2) (ringTag s q) ∧ ringKind s q = some x.kind ∧ x.node.val = ringNode s q
      ∧ x.register = ringRegister s q ∧ x.data = ringWord s q 1 := by
  cases hkind : ringKind s q with
  | none => rw [ringRequest_badRequest (.inl hkind)] at h; cases h
  | some k =>
    by_cases hnode : ringNode s q < 15
    · by_cases hplaced : RingPlaced s q
      · rw [ringRequest_ok hkind hnode hplaced] at h
        cases h
        exact ⟨rfl, rfl, rfl, rfl, rfl⟩
      · rw [ringRequest_badAddress hkind hnode hplaced] at h
        cases h
    · rw [ringRequest_badRequest (.inr (Nat.not_lt.1 hnode))] at h
      cases h

/-- R137: the state in which the record has joined the queue or has been answered. -/
def recordHandled (q : BitVec 4) (s : State) : State :=
  match ringRequest s q with
  | .ok x => joinQueue x s
  | .error r =>
    postEvent (evLinkReply (replyNest s (ringNode s q)) (ringNode s q) (fld (ringWord s q 0) 0 3) q (ringTag s q) r 0) s

/-- R137: the consumer has advanced past q. -/
def recordConsumed (q : BitVec 4) (s : State) : State :=
  offer .requestConsumer [pack [put 0 4 (q + 1).toNat]] (s.modLink fun l => { l with consumer := q + 1 })

theorem takeRecord_eq (hnew : s.link.consumer ≠ (requestProducer s).setWidth 4) (hroom : s.link.queue.length + 5 ≤ 16) :
    takeRecord s = some (recordConsumed s.link.consumer (recordHandled s.link.consumer s)) := by
  have hready : recordReady s = true := by
    unfold recordReady
    rw [Bool.and_eq_true, bne_iff_ne, decide_eq_true_iff]
    exact ⟨hnew, hroom⟩
  unfold takeRecord
  rw [if_pos hready]
  rfl

theorem recordHandled_ok {x : Request} (h : ringRequest s q = .ok x) :
    recordHandled q s = { s with link := { s.link with queue := s.link.queue ++ [x] } } := by
  obtain ⟨hhost, -⟩ := ringRequest_fields h
  have hqueue : enqueue x s.link.queue = s.link.queue ++ [x] := by
    unfold enqueue Request.isServicePoll
    rw [hhost]
    rfl
  unfold recordHandled
  rw [h, ← hqueue]
  rfl

theorem recordHandled_error {r : LinkResult} (h : ringRequest s q = .error r) : recordHandled q s =
    postEvent (evLinkReply (replyNest s (ringNode s q)) (ringNode s q) (fld (ringWord s q 0) 0 3) q (ringTag s q) r 0)
      s := by
  unfold recordHandled; rw [h]

/-- A record changes only the queue and what is posted. -/
theorem recordHandled_eq (q : BitVec 4) (s : State) : ∃ queue post,
    recordHandled q s = { s with link := { s.link with queue := queue }, post := post } := by
  cases h : ringRequest s q with
  | ok x => exact ⟨_, _, recordHandled_ok h⟩
  | error r => exact ⟨s.link.queue, _, (recordHandled_error h).trans (postEvent_eq _ s)⟩
end

/-- Settles O58: the first held request in the order of its kinds is taken, and the record at the consumer is handled. -/
theorem queueTakesHeldRequestsAndRecords : Obligations.QueueTakesHeldRequestsAndRecords := by
  refine ⟨fun s hroom => ⟨fun d h hfirst => ?_, fun hpolls n d q hfirst h => ?_, fun hpolls n k hfirst hclear h => ?_,
    fun hpolls hsteps c h hfirst => ?_⟩, fun s hnew hroom => ?_⟩
  · exact exec_heldRequestTaken (takeHeld_poll hroom h hfirst)
  · rw [exec_heldRequestTaken (takeHeld_step hroom hpolls (stepHeld_of_clear h) hfirst), takeStep_clear h]
  · rw [exec_heldRequestTaken (takeHeld_step hroom hpolls (stepHeld_of_step h) hfirst), takeStep_step hclear h]
  · exact exec_heldRequestTaken (takeHeld_query hroom hpolls hsteps h hfirst)
  · have hplaced := blockPlaced_iff s (ringWord s s.link.consumer 2)
    obtain ⟨queue, post, heq⟩ := recordHandled_eq s.link.consumer s
    refine ⟨recordConsumed s.link.consumer (recordHandled s.link.consumer s), ?_, rfl, mem_upsertPlace .., ⟨?_, ?_, ?_⟩,
      fun x hx => ?_, fun r hr => ?_, ?_⟩
    · change execRequestRecordTaken s = _
      rw [execRequestRecordTaken_eq, takeRecord_eq hnew hroom]
      rfl
    · exact ringRequest_badRequest
    · intro hkind hnode hblock hbad
      obtain ⟨k, hk⟩ := Option.ne_none_iff_exists'.1 hkind
      exact ringRequest_badAddress hk hnode fun hring => hbad (hplaced.1 (hring hblock))
    · intro hkind hnode hgood
      obtain ⟨k, hk⟩ := Option.ne_none_iff_exists'.1 hkind
      exact ⟨_, ringRequest_ok hk hnode fun hblock => hplaced.2 (hgood hblock)⟩
    · obtain ⟨hhost, hkind, hnode, hregister, hdata⟩ := ringRequest_fields hx
      rw [recordHandled_ok hx]
      exact ⟨rfl, hhost, hkind, hnode, hregister, hdata, rfl, rfl⟩
    · have hposted := posted_postEvent (evLinkReply (replyNest s (ringNode s s.link.consumer))
        (ringNode s s.link.consumer) (fld (ringWord s s.link.consumer 0) 0 3) s.link.consumer
        (ringTag s s.link.consumer) r 0) s
      rw [← recordHandled_error hr] at hposted
      refine ⟨?_, hposted⟩
      rw [recordHandled_error hr, postEvent_eq]
      rfl
    · rw [heq]
      exact ⟨rfl, rfl, rfl, ⟨rfl, rfl, rfl, rfl⟩, rfl, rfl, rfl, rfl, rfl, rfl, rfl⟩

end Sys2Proof.Machine
end

section
/-! CERTIFICATE. The statement on the start of a transaction (R131, R132, R138). -/
namespace Sys2Proof.Machine

open Stated

/-! ### What the held requests leave (R131) -/

/-- Plant and posting are as they were, the nodes but for their held polls and the checks but for their queries. -/
structure HeldTaken (s t : State) : Prop where
  plant : t.plant = s.plant
  post : t.post = s.post
  nodes : ∀ d : NodeId, t.nodes[d].state = s.nodes[d].state
  checks : ∀ c : CheckId, t.checks[c] = { s.checks[c] with query := t.checks[c].query }

theorem HeldTaken.refl (s : State) : HeldTaken s s := ⟨rfl, rfl, fun _ => rfl, fun _ => rfl⟩

theorem HeldTaken.trans {s t u : State} (h : HeldTaken s t) (g : HeldTaken t u) : HeldTaken s u where
  plant := g.plant.trans h.plant
  post := g.post.trans h.post
  nodes d := (g.nodes d).trans (h.nodes d)
  checks c := (g.checks c).trans (by rw [h.checks c])

theorem takeStep_taken (n : NestId) (s : State) : HeldTaken s (takeStep n s) := by
  unfold takeStep
  split <;> exact ⟨rfl, rfl, fun _ => rfl, fun _ => rfl⟩

theorem takeHeld_taken {s t : State} (h : takeHeld s = some t) : HeldTaken s t := by
  unfold takeHeld at h
  split at h
  · split at h <;> cases h
    · refine ⟨rfl, rfl, fun d => ?_, fun _ => rfl⟩
      rw [modNode_get]
      split
      · rename_i he; subst he; rfl
      · rfl
    · exact takeStep_taken ..
    · refine ⟨rfl, rfl, fun _ => rfl, fun c => ?_⟩
      rw [modCheck_get]
      split
      · rename_i he; subst he; rfl
      · rfl
  · cases h

theorem giveHeldFuel_taken (k : Nat) (s : State) : HeldTaken s (giveHeldFuel k s) := by
  induction k generalizing s with
  | zero => exact .refl s
  | succ k ih =>
    unfold giveHeldFuel
    split
    · exact .refl s
    · rename_i t ht; exact (takeHeld_taken ht).trans (ih t)

/-! ### The free places are given (R131) -/

section
variable {s t : State}

theorem giveHeld_none (h : takeHeld s = none) : giveHeld s = s := by
  unfold giveHeld Config.linkPlaces giveHeldFuel
  rw [h]

/-- One request fills the queue. -/
theorem giveHeld_one (h : takeHeld s = some t) (hfull : 16 ≤ t.link.queue.length) : giveHeld s = t := by
  unfold giveHeld Config.linkPlaces giveHeldFuel
  rw [h]
  dsimp only
  unfold giveHeldFuel
  rw [takeHeld_full hfull]

theorem enqueue_length (q : Request) (l : List Request) : (enqueue q l).length = l.length + 1 := by
  unfold enqueue
  split
  · have hparts := List.length_eq_length_filter_add (l := l) Request.isServicePoll
    rw [List.length_append, List.length_cons]
    omega
  · exact List.length_append

theorem append_full {l : List Request} (h : l.length = 15) (q : Request) : 16 ≤ (l ++ [q]).length := by
  rw [List.length_append, h]; exact Nat.le_refl _

/-- R131: what the free places of the queue have room for. -/
theorem giveHeld_given (s : State) : HeldGiven s (giveHeld s) := by
  refine ⟨fun ⟨hpolls, hsteps, hqueries⟩ => ?_, fun hfull => ?_, fun hroom => ⟨fun d h hfirst => ?_,
    fun hpolls n d q hfirst h => ?_, fun hpolls n k hfirst hclear h => ?_, fun hpolls hsteps c h hfirst => ?_⟩⟩
  · exact giveHeld_none (takeHeld_nothing hpolls hsteps hqueries)
  · exact giveHeld_none (takeHeld_full hfull)
  · refine giveHeld_one (takeHeld_poll (by omega) h hfirst) ?_
    dsimp only
    rw [enqueue_length, hroom]
  · rw [giveHeld_one (takeHeld_step (by omega) hpolls (stepHeld_of_clear h) hfirst), takeStep_clear h]
    rw [takeStep_clear h]
    exact append_full hroom _
  · rw [giveHeld_one (takeHeld_step (by omega) hpolls (stepHeld_of_step h) hfirst), takeStep_step hclear h]
    rw [takeStep_step hclear h]
    exact append_full hroom _
  · exact giveHeld_one (takeHeld_query (by omega) hpolls hsteps h hfirst) (append_full hroom _)
end

/-! ### The head of the queue (R132) -/

section
variable {s : State} {q : Request} {rest : List Request}

/-- R131: the place of the head has been given to held requests. -/
def headLeft (rest : List Request) (s : State) : State := giveHeld (s.modLink fun l => { l with queue := rest })

theorem headLeft_taken (rest : List Request) (s : State) :
    HeldTaken (s.modLink fun l => { l with queue := rest }) (headLeft rest s) := giveHeldFuel_taken ..

theorem startTransaction_eq (hqueue : s.link.queue = q :: rest) (hflight : s.link.flight = none)
    (hblock : s.link.block = none) (hpaused : s.link.paused = false) : startTransaction s =
      some (if (headLeft rest s).nodes[q.node].state = .inService then beginTransaction q (headLeft rest s)
        else clearPending q (answer q .notInService 0 (headLeft rest s))) := by
  have hidle : linkIdle s = true := by unfold linkIdle; rw [hflight, hblock, hpaused]; rfl
  unfold startTransaction
  rw [hqueue]
  dsimp only
  rw [if_pos hidle]
  change (if (headLeft rest s).nodes[q.node].state = .inService then _ else _) = _
  split <;> rfl

theorem exec_transactionStart {t : State} (h : startTransaction s = some t) :
    exec .transactionStart s = .next (settle t) := by
  change execTransactionStart s = _
  rw [execTransactionStart_eq, h]
  rfl

/-- R138: a request gathers its words from memory first. -/
theorem readsMemory_iff (q : Request) : q.readsMemory = true
    ↔ q.kind = .putBlock ∧ ∃ ring buffer tag, q.requester = .host ring buffer tag := by
  obtain ⟨kind, node, register, data, requester⟩ := q
  cases kind <;> cases requester <;> simp [Request.readsMemory]

theorem requestWords_congr {s t : State} (h : t.path = s.path) (q : Request) : requestWords t q = requestWords s q := by
  unfold requestWords promptWords cfg
  rw [h]

theorem addressCode_congr {s t : State} (h : t.path = s.path) (d : NodeId) : addressCode t d = addressCode s d := by
  unfold addressCode nodeWord cfg; rw [h]

theorem beginTransaction_reading (h : q.readsMemory = true) : beginTransaction q s =
    { s with link := { s.link with flight := some ⟨q, false, .reading, none, requestWords s q, [], 0, false⟩ } } := by
  unfold beginTransaction
  rw [h]
  rfl

theorem beginTransaction_sending (h : ¬ q.readsMemory = true) : beginTransaction q s =
    { s with link := { s.link with flight := some ⟨q, false, .sending, none, requestWords s q,
      requestFrame (addressCode s q.node) q (requestWords s q), 0, false⟩ } } := by
  unfold beginTransaction
  rw [Bool.eq_false_iff.2 h]
  rfl
end

/-! ### A head that is not in service (R132) -/

section
variable {q : Request} {s v : State}

theorem clearPending_kept (h : q.requester ≠ .service) : clearPending q s = s := by
  unfold clearPending Request.isServicePoll
  exact if_neg fun hs => h (eq_of_beq hs)

theorem verdictOf_heldTaken (h : HeldTaken s v) (c : CheckId) (d : Decision) : verdictOf v c d = verdictOf s c d := by
  have hpath := path_of_bus (bus_of_plant h.plant)
  have hnests := (samePlant_of_plant h.plant).1
  unfold verdictOf checkClock
  rw [h.checks c]
  simp only [checkNest_congr hpath c, hnests]

theorem notInService_host {ring : BitVec 4} {buffer : Word} {tag : BitVec 16}
    (hhost : q.requester = .host ring buffer tag) : clearPending q (answer q .notInService 0 v) =
      postEvent (evLinkReply (replyNest v q.node.val) q.node.val q.kind.code ring tag .notInService 0) v := by
  rw [clearPending_kept (by rw [hhost]; nofun)]
  unfold answer
  rw [hhost]
  dsimp only
  rw [replyData_failed (by decide)]

theorem notInService_service (hservice : q.requester = .service) : clearPending q (answer q .notInService 0 v) =
    { v with nodes := v.nodes.set q.node { v.nodes[q.node] with servicePending := false } } := by
  unfold clearPending Request.isServicePoll answer
  rw [hservice]
  rfl

theorem notInService_check {c : CheckId} {arming : BitVec 8} {session : BitVec 16}
    (hcheck : q.requester = .check c arming session) (h : HeldTaken s v) (hstate : s.checks[c].state = .querying)
    (harming : s.checks[c].arming = arming) (hsession : s.checks[c].session = session) :
    VerdictStands c (verdictOf s c { verdict := .sourceFault, detail := detailLink .notInService })
      (clearPending q (answer q .notInService 0 v)) := by
  have hkept := h.checks c
  have hstands := queryResult_decides (s := v) (k := c) (arming := arming)
    (session := session) (r := .notInService) (w := 0) (by rw [hkept]; exact hstate)
    (by rw [hkept]; exact harming) (by rw [hkept]; exact hsession)
  rw [queryDecision_failed (by decide), verdictOf_heldTaken h] at hstands
  rw [clearPending_kept (by rw [hcheck]; nofun)]
  unfold answer
  rw [hcheck]
  exact hstands

theorem notInService_prompt {n : NestId} {sequence : BitVec 8} {k : PromptStep} {text : Nat}
    (hprompt : q.requester = .prompt n sequence k text) :
    clearPending q (answer q .notInService 0 v) = stepResult n sequence k .notInService v := by
  rw [clearPending_kept (by rw [hprompt]; nofun)]
  unfold answer
  rw [hprompt]
end

/-- Settles O53: held requests are given the place of the head, and the head is started, or answered by its requester. -/
theorem headOfTheQueueStartsOrIsAnswered : Obligations.HeadOfTheQueueStartsOrIsAnswered := by
  intro s q rest hqueue hflight hblock hpaused
  have hstart := exec_transactionStart (startTransaction_eq hqueue hflight hblock hpaused)
  have hgiven := giveHeld_given (s.modLink fun l => { l with queue := rest })
  have htaken := headLeft_taken rest s
  have hheld : HeldTaken s (headLeft rest s) := ⟨htaken.plant, htaken.post, htaken.nodes, htaken.checks⟩
  rw [← headLeft] at hgiven
  generalize headLeft rest s = v at *
  have hbus := bus_of_plant hheld.plant
  have hpath : v.path = s.path := path_of_bus hbus
  have hwords := requestWords_congr hpath q
  refine ⟨v, hgiven, hheld.nodes, samePlant_of_plant hheld.plant, sameStimulus_of_bench (bench_of_plant hheld.plant),
    ⟨congrArg Post.fifo hheld.post, congrArg Post.lost hheld.post⟩, hpath, congrArg (fun b => b.2.1) hbus,
    fun hservice hreads => ?_, fun hservice hreads => ?_, fun hservice => ⟨_, hstart.trans (by
      rw [if_neg (by rw [hheld.nodes]; exact hservice)]), fun ring buffer tag hhost => ?_, notInService_service,
      fun c arming session hcheck hstate harming hsession => notInService_check hcheck hheld hstate harming hsession,
      fun n sequence k text hprompt => ?_⟩⟩
  · rw [hstart, if_pos (by rw [hheld.nodes]; exact hservice), beginTransaction_reading ((readsMemory_iff q).2 hreads),
      hwords]
    rfl
  · rw [hstart, if_pos (by rw [hheld.nodes]; exact hservice),
      beginTransaction_sending (mt (readsMemory_iff q).1 hreads), hwords, addressCode_congr hpath]
    rfl
  · rw [notInService_host hhost, replyNest_congr hpath]
    refine ⟨posted_postEvent _ v, ?_⟩
    rw [postEvent_eq]
    exact ⟨rfl, rfl, rfl⟩
  · rw [notInService_prompt hprompt]
    exact stepResult_answered ..

end Sys2Proof.Machine
end

section
/-! CERTIFICATE. The statement on the taking and the time-out of prompts (R146, R149). -/
namespace Sys2Proof.Machine

open Stated

section
variable {s : State} {n : NestId} {x : Arming} {rest : List Arming}

/-! ### The head of a waiting list (R146) -/

theorem exec_takePrompt {t : State} (h : takePrompt n s = some t) : exec (.takePrompt n) s = .next (settle t) := by
  change execTakePrompt n s = _
  rw [execTakePrompt_eq, h]
  rfl

theorem takePrompt_ready {d : NodeId} (hfree : s.prompts[n].state = .free) (hwaiting : s.prompts[n].waiting = x :: rest)
    (hpanel : panelNode s n = some d) (hservice : s.nodes[d].state = .inService) (hkind : nodeKind s d = 1) :
    takePrompt n s = some (openPrompt n x d (dequeue n rest s)) :=
  takeHead_of_ready hfree hwaiting (readyPanel_some hpanel hservice hkind)

theorem takePrompt_unready (hfree : s.prompts[n].state = .free) (hwaiting : s.prompts[n].waiting = x :: rest)
    (hready : readyPanel s n = none) (hasks : Asks x s) : takePrompt n s =
      some (decideCheck x.check { verdict := .sourceFault, detail := detailPanelNotReady } (dequeue n rest s)) :=
  (takeHead_of_unready hfree hwaiting hready).trans
    (congrArg some (admitOutcome_of_asks (s := dequeue n rest s) hasks _))

theorem dequeue_context (n : NestId) (rest : List Arming) (s : State) :
    (dequeue n rest s).prompts[n] = { s.prompts[n] with waiting := rest } := by
  unfold dequeue; rw [modPrompt_self]

/-- R146: what the taking of the head into the context leaves. -/
theorem openPrompt_taken (d : NodeId) :
    let u := openPrompt n x d (dequeue n rest s)
    let next := nextSequence s.prompts[n].sequence
    u.prompts = s.prompts.set n
        { s.prompts[n] with
          state := .loading
          sequence := next
          check := some x
          text := promptText s x.check
          answers := answerSet s x.check
          panel := d
          step := some (.load, decide (16 ≤ s.link.queue.length))
          withdrawn := false
          waiting := rest }
      ∧ u.checks = s.checks.set x.check (s.checks[x.check].taken x)
      ∧ u.link =
          { s.link with
            queue :=
              if s.link.queue.length < 16 then
                s.link.queue ++ [stepRequest n d next (answerSet s x.check) (promptText s x.check) .load]
              else s.link.queue }
      ∧ u.nodes = s.nodes ∧ u.post = s.post := by
  obtain ⟨hprompts, hlink, -, -, hnodes, -⟩ := openPrompt_opens n x d (dequeue n rest s)
  have hlist : (dequeue n rest s).prompts = s.prompts.set n { s.prompts[n] with waiting := rest } := modPrompt_prompts ..
  refine ⟨hprompts.trans ?_, openPrompt_checks .., hlink.trans ?_, hnodes, openPrompt_post ..⟩
  · rw [modCheck_prompts, dequeue_context, hlist, Vector.set_set]
    rfl
  · rw [dequeue_context]
    rfl

/-- R146: without a ready panel the context stays as it is but for its list. -/
theorem unready_decides (hready : readyPanel s n = none) (d : Decision) :
    let u := decideCheck x.check d (dequeue n rest s)
    Decided x.check d s u ∧ u.prompts[n].state = s.prompts[n].state ∧ u.prompts[n].sequence = s.prompts[n].sequence
      ∧ u.nodes = s.nodes ∧ SamePlant s u ∧ SameStimulus s u := by
  have hstands := decideCheck_stands x.check d (dequeue n rest s)
  have hready' : readyPanel (dequeue n rest s) n = none := hready
  obtain ⟨⟨hnodes, hcontext⟩, -⟩ := decideCheck_passedBy (.inr hready') x.check d
  have hplant := decideCheck_plant x.check d (dequeue n rest s)
  rw [dequeue_context] at hcontext
  generalize decideCheck x.check d (dequeue n rest s) = u at *
  refine ⟨hstands, ?_, ?_, hnodes, samePlant_of_plant hplant, sameStimulus_of_bench (bench_of_plant hplant)⟩ <;>
    rw [hcontext]

/-! ### The timer of a prompt (R149) -/

theorem promptExpired_of {t : Nat} (hshown : s.prompts[n].state = .shown) (hcheck : s.prompts[n].check = some x)
    (htimer : s.prompts[n].timer = some t) (h : 100000 * checkWindow s x.check ≤ t) : promptExpired s n = true := by
  unfold promptExpired
  dsimp only
  rw [hshown, hcheck, htimer]
  exact decide_eq_true h

theorem promptTimedOut_eq (n : NestId) (s : State) :
    promptTimedOut n s = enterClearing n (returnOutcome n { verdict := .timeout } (timerStopped n s)) := rfl

/-- R149: the check is decided TIMEOUT, and the panel is cleared. -/
theorem promptTimedOut_decides (hshown : s.prompts[n].state = .shown) (hcheck : s.prompts[n].check = some x)
    (hasks : Asks x s) :
    let u := promptTimedOut n s
    Decided x.check { verdict := .timeout, a := s.prompts[n].sequence.toNat } s u ∧ Clearing s.prompts[n] u.prompts[n]
      ∧ u.nodes = s.nodes ∧ SamePlant s u ∧ SameStimulus s u := by
  have hstopped : (timerStopped n s).prompts[n] = { s.prompts[n] with timer := none } := modPrompt_self ..
  have hcheck' : (timerStopped n s).prompts[n].check = some x := by rw [hstopped]; exact hcheck
  have hstate : (timerStopped n s).prompts[n].state ≠ .free := by
    rw [hstopped]; exact fun h => nomatch hshown.symm.trans h
  have hsequence : (timerStopped n s).prompts[n].sequence = s.prompts[n].sequence := by rw [hstopped]
  have hreturn := returnOutcome_of_asks (s := timerStopped n s) hcheck' hasks { verdict := .timeout }
  rw [hsequence] at hreturn
  have hstands := decideCheck_stands x.check { verdict := .timeout, a := s.prompts[n].sequence.toNat } (timerStopped n s)
  obtain ⟨⟨hnodes, hcontext⟩, -⟩ := decideCheck_passedBy (.inl hstate) x.check
    { verdict := .timeout, a := s.prompts[n].sequence.toNat }
  have hplant := decideCheck_plant x.check { verdict := .timeout, a := s.prompts[n].sequence.toNat } (timerStopped n s)
  rw [hstopped] at hcontext
  dsimp only
  rw [promptTimedOut_eq, hreturn]
  dsimp only
  generalize decideCheck x.check { verdict := .timeout, a := s.prompts[n].sequence.toNat } (timerStopped n s) = v at *
  have hclearing := enterClearing_clearing n v
  have hplant' := (enterClearing_plant n v).trans hplant
  rw [hcontext] at hclearing
  exact ⟨verdictStands_enterClearing hstands, hclearing, (enterClearing_nodes n v).trans hnodes,
    samePlant_of_plant hplant', sameStimulus_of_bench (bench_of_plant hplant')⟩
end

/-- Settles O59: a ready panel takes the head, another decides it; an expired timer decides the prompt shown. -/
theorem promptsAreTakenAndTimeOut : Obligations.PromptsAreTakenAndTimeOut := by
  refine ⟨fun s n x rest hfree hwaiting => ⟨fun d hpanel hservice hkind => ?_, fun hunready hstate harming hsession => ?_⟩,
    fun s n x t hshown hcheck htimer hexpired hstate harming hsession => ?_⟩
  · obtain ⟨hprompts, hchecks, hlink, hnodes, hpost⟩ := openPrompt_taken (s := s) (n := n) (x := x) (rest := rest) d
    have hplant := openPrompt_plant n x d (dequeue n rest s)
    exact ⟨_, exec_takePrompt (takePrompt_ready hfree hwaiting hpanel hservice hkind), hprompts, hchecks, hlink, hnodes,
      samePlant_of_plant hplant, sameStimulus_of_bench (bench_of_plant hplant),
      congrArg Post.fifo hpost, congrArg Post.lost hpost⟩
  · have hready := readyPanel_none hunready
    obtain ⟨hdecided, hcontext, hsequence, hnodes, hplant, hstimulus⟩ := unready_decides (x := x) (rest := rest) hready
      { verdict := .sourceFault, detail := detailPanelNotReady }
    exact ⟨_, exec_takePrompt (takePrompt_unready hfree hwaiting hready ⟨hstate, harming, hsession⟩), hdecided,
      hcontext.trans hfree, hsequence, hnodes, hplant, hstimulus⟩
  · obtain ⟨hdecided, ⟨hclearing, htimer', -, -, -, hstep⟩, hnodes, hplant, hstimulus⟩ :=
      promptTimedOut_decides hshown hcheck ⟨hstate, harming, hsession⟩
    exact ⟨_, takenIf_true (promptExpired_of hshown hcheck htimer hexpired) _ _, hdecided, hclearing, htimer', hstep,
      hnodes, hplant, hstimulus⟩

end Sys2Proof.Machine
end

section
/-! SUPPORT. RESTART of nests (R19), of tracks and outputs (R68) and of ports (R86). -/
namespace Sys2Proof.Machine

open Stated

/-! ### Nests (R19) -/

/-- What RESTART of a nest leaves: every block but nests, rails, inputs and posting. -/
def State.besideNests (s : State) :=
  (s.path, s.supplies, s.capture, s.tracks, s.outputs, s.ports, s.checks, s.unposted, s.nodes, s.link, s.prompts)

/-- R36: a force-off that is not handed on changes rails and posts. -/
theorem forceOff_besideNests (n : NestId) (c : RailCause) (s : State) :
    (forceOff n c false s).besideNests = s.besideNests := by
  rw [forceOff_eq]
  refine forEach_keeps State.besideNests _ (fun k s => ?_) _ s
  have hposted (r : RailId) : (postEvent (evRailForcedOff r c s.rails[r].state)
      (s.modRail r fun x => x.forcedTo c)).besideNests = s.besideNests := by
    rw [postEvent_eq]
    rfl
  exact hposted (railOf n k)

theorem closeInputs_besideNests (n : NestId) (s : State) : (closeInputs n s).besideNests = s.besideNests := by
  have hstopped : (s.forEach (List.finRange 8) fun j s => s.modInput (inputOf n j) Input.stop).besideNests
      = s.besideNests :=
    forEach_keeps State.besideNests (fun j s => s.modInput (inputOf n j) Input.stop) (fun _ _ => rfl) _ s
  have hoffered (s : State) : (offerInputs n s).besideNests = s.besideNests :=
    forEach_keeps State.besideNests (fun j s => offerInput (inputOf n j) s) (fun _ _ => rfl) _ s
  unfold closeInputs
  dsimp only
  split
  · exact hstopped
  · exact (hoffered _).trans hstopped

/-- R19: the rails of the nest are off and its trip is over. -/
def restartForced (n : NestId) (s : State) : State :=
  (forceOff n .restart false s).modNest n fun x => { x with cause := .restart, trip := false }

/-- R19: the session of the nest has ended. -/
def restartClosed (n : NestId) (s : State) : State :=
  closeInputs n (postEvent (evSessionClose n .restart) (restartForced n s))

theorem restartNest_eq (n : NestId) (s : State) : restartNest n s =
    if sessionRuns s n then
      offerNest n ((restartClosed n s).modNest n fun x => { x with state := .idle, snapTimer := none })
    else offerNest n s := rfl

theorem restartClosed_besideNests (n : NestId) (s : State) : (restartClosed n s).besideNests = s.besideNests := by
  have hforced : (restartForced n s).besideNests = s.besideNests := forceOff_besideNests n .restart s
  have hposted : (postEvent (evSessionClose n .restart) (restartForced n s)).besideNests
      = (restartForced n s).besideNests := by rw [postEvent_eq]; rfl
  exact (closeInputs_besideNests ..).trans (hposted.trans hforced)

theorem restartNest_besideNests (n : NestId) (s : State) : (restartNest n s).besideNests = s.besideNests := by
  rw [restartNest_eq]
  split
  · exact restartClosed_besideNests n s
  · rfl

/-- R19: the record of a nest after RESTART. -/
def Nest.restarted (x : Nest) : Nest :=
  if x.state = .opened ∨ x.state = .draining then
    { x with state := .idle, cause := .restart, trip := false, snapTimer := none }
  else x

theorem restartForced_nests (n : NestId) (s : State) : (restartForced n s).nests
    = s.nests.set n { s.nests[n] with cause := .restart, trip := false } := by
  have hnests := (forceOff_onward n .restart false s).nests
  unfold restartForced State.modNest
  simp only [hnests]

theorem restartClosed_nests (n : NestId) (s : State) : (restartClosed n s).nests = (restartForced n s).nests := by
  unfold restartClosed; simp

theorem restartNest_nest (n : NestId) (s : State) (j : NestId) :
    (restartNest n s).nests[j] = if j = n then s.nests[n].restarted else s.nests[j] := by
  have hnests := (restartClosed_nests n s).trans (restartForced_nests n s)
  have hrestarted : s.nests[n].restarted = if sessionRuns s n then
      { s.nests[n] with state := .idle, cause := .restart, trip := false, snapTimer := none } else s.nests[n] :=
    if_congr (sessionRuns_iff s n).symm rfl rfl
  rw [restartNest_eq, hrestarted]
  split
  · rw [offerNest_nest, modNest_get]
    simp only [hnests]
    split
    · simp
    · rename_i hj
      simp [Fin.val_ne_of_ne (Ne.symm hj)]
  · rw [offerNest_nest]
    split
    · rename_i hj; rw [hj]
    · rfl

theorem restartNest_rail (n : NestId) (s : State) (r : RailId) : (restartNest n s).rails[r] =
    if nestOfRail r = n ∧ (s.nests[n].state = .opened ∨ s.nests[n].state = .draining) then
      forcedRail .restart s.rails[r]
    else s.rails[r] := by
  have hclosed : (restartClosed n s).rails = (forceOff n .restart false s).rails := by
    unfold restartClosed
    rw [closeInputs_rails, postEvent_rails]
    rfl
  have hforced : (forceOff n .restart false s).rails[r] =
      if nestOfRail r = n then forcedRail .restart s.rails[r] else s.rails[r] := by
    split
    · rename_i hr
      rw [← railOf_kindOfRail r, hr]
      exact forceOff_rail ..
    · rename_i hr
      exact forceOff_otherRails n .restart false s r hr
  have hoffered (t : State) : (offerNest n t).rails = t.rails := rfl
  rw [restartNest_eq]
  by_cases hruns : sessionRuns s n = true
  · simp only [if_pos hruns, hoffered, modNest_rails, hclosed]
    rw [hforced]
    exact if_congr (and_iff_left ((sessionRuns_iff s n).1 hruns)).symm rfl rfl
  · rw [if_neg hruns, if_neg fun h => hruns ((sessionRuns_iff s n).2 h.2)]
    rfl

theorem restartNest_grows (n : NestId) (s : State) : s.post.Grows (restartNest n s).post := by
  have hforced : s.post.Grows (restartForced n s).post := (forceOff_onward n .restart false s).post
  have hclosed : (restartForced n s).post.Grows (restartClosed n s).post := by
    obtain ⟨hfifo, hlost⟩ := nothingPosted_of_ledger
      (closeInputs_ledger n (postEvent (evSessionClose n .restart) (restartForced n s)))
    exact (postEvent_grows _ _).trans (.of_eq hfifo hlost)
  rw [restartNest_eq]
  split
  · exact (hforced.trans hclosed).trans (.of_eq rfl rfl)
  · exact .of_eq rfl rfl

/-- R19: RESTART of both nests. -/
def nestsRestarted (s : State) : State := s.forEach allNests restartNest

theorem nestsRestarted_besideNests (s : State) : (nestsRestarted s).besideNests = s.besideNests :=
  forEach_keeps State.besideNests _ restartNest_besideNests _ s

theorem nestsRestarted_nest (s : State) (n : NestId) : (nestsRestarted s).nests[n] = s.nests[n].restarted := by
  have htable := forEach_table (t := fun s (n : NestId) => s.nests[n]) (u := restartNest)
    (f := fun _ x => x.restarted) restartNest_nest allNests (by decide) s n
  exact htable.trans (if_pos (mem_allNests n))

theorem nestsRestarted_rail (s : State) (r : RailId) : (nestsRestarted s).rails[r] =
    if s.nests[nestOfRail r].state = .opened ∨ s.nests[nestOfRail r].state = .draining then
      forcedRail .restart s.rails[r]
    else s.rails[r] := by
  have hpair : nestsRestarted s = restartNest 1 (restartNest 0 s) := rfl
  have hnest : (restartNest 0 s).nests[(1 : NestId)] = s.nests[(1 : NestId)] :=
    (restartNest_nest 0 s 1).trans (if_neg (by decide))
  obtain ⟨n, k, rfl⟩ : ∃ n k, r = railOf n k := ⟨_, _, (railOf_kindOfRail r).symm⟩
  rw [hpair, restartNest_rail, restartNest_rail, hnest]
  simp only [nestOfRail_railOf]
  rcases nest_cases n with rfl | rfl
  · rw [if_neg fun h => absurd h.1 (by decide)]
    simp only [true_and]
  · rw [if_neg (c := (1 : NestId) = 0 ∧ _) fun h => absurd h.1 (by decide)]
    simp only [true_and]

theorem nestsRestarted_grows (s : State) : s.post.Grows (nestsRestarted s).post :=
  forEach_induct (fun t => s.post.Grows t.post) _ (fun n t h => h.trans (restartNest_grows n t)) _ s (.refl _)

/-! ### Tracks and outputs (R68) -/

/-- R68: the record of a track after RESTART. -/
def Track.restarted (x : Track) : Track :=
  if x.state = .idle then x
  else Track.renew { x with state := .idle, cause := .none, held := [], stalled := false }

theorem Track.restarted_idle (x : Track) : x.restarted.state = .idle
    ∧ (x.state ≠ .idle → x.restarted.cause = .none ∧ x.restarted.held = []) := by
  unfold Track.restarted
  split
  · rename_i h; exact ⟨h, fun hne => absurd h hne⟩
  · exact ⟨rfl, fun _ => ⟨rfl, rfl⟩⟩

theorem restartFreed_besideClaims (t : TrackId) (s : State) :
    (unstall t (releaseClaims t s)).besideClaims = s.besideClaims := by simp

theorem restartTrack_track (t : TrackId) (s : State) (k : TrackId) :
    (restartTrack t s).tracks[k] = if k = t then s.tracks[t].restarted else s.tracks[k] := by
  have htracks : (unstall t (releaseClaims t s)).tracks = s.tracks := tracks_of_claims (restartFreed_besideClaims t s)
  unfold restartTrack Track.restarted
  by_cases h : s.tracks[t].state = .idle
  · rw [if_pos h, if_pos h]
    split
    · rename_i hk; rw [hk]
    · rfl
  · rw [if_neg h, if_neg h, offerTrack_tracks, changeTrack_get]
    simp only [htracks]

theorem restartTrack_besideTracks (t : TrackId) (s : State) : (restartTrack t s).besideTracks = s.besideTracks := by
  unfold restartTrack
  split
  · rfl
  · rw [offerTrack_besideTracks, changeTrack_besideTracks]
    exact besideTracks_of_claims (restartFreed_besideClaims t s)

theorem unstall_portState (t : TrackId) (s : State) (p : NestId) :
    (unstall t s).ports[p].state = s.ports[p].state :=
  forEach_keeps (fun s => s.ports[p].state) _ (fun j s => by
    rw [modPort_get]
    split
    · rename_i h; subst h; rfl
    · rfl) _ s

theorem releaseClaims_ports (t : TrackId) (s : State) : (releaseClaims t s).ports = s.ports :=
  forEach_keeps State.ports (fun n s => s.modHolders n fun v => v.set t false) (fun _ _ => rfl) _ _

theorem restartTrack_portState (t : TrackId) (s : State) (p : NestId) :
    (restartTrack t s).ports[p].state = s.ports[p].state := by
  have hfreed : (unstall t (releaseClaims t s)).ports[p].state = s.ports[p].state := by
    rw [unstall_portState]; simp only [releaseClaims_ports]
  unfold restartTrack
  split
  · rfl
  · exact hfreed

theorem restartTrack_posted (t : TrackId) (s : State) : NothingPosted s (restartTrack t s) := by
  have hpost : (unstall t (releaseClaims t s)).post = s.post := post_of_claims (restartFreed_besideClaims t s)
  unfold restartTrack
  split
  · exact ⟨rfl, rfl⟩
  · generalize unstall t (releaseClaims t s) = u at hpost ⊢
    unfold NothingPosted
    rw [← hpost]
    exact ⟨rfl, rfl⟩

theorem restartTracks_eq (s : State) :
    restartTracks s = idleNest 1 (idleNest 0 (s.forEach allTracks restartTrack)) := rfl

theorem restartTracks_track (s : State) (t : TrackId) : (restartTracks s).tracks[t] = s.tracks[t].restarted := by
  have htable := forEach_table (t := fun s (t : TrackId) => s.tracks[t]) (u := restartTrack)
    (f := fun _ x => x.restarted) restartTrack_track allTracks (List.nodup_finRange 8) s t
  rw [restartTracks_eq, idleNest_tracks, idleNest_tracks]
  exact htable.trans (if_pos (List.mem_finRange t))

theorem restartTracks_besideTracks (s : State) : (restartTracks s).besideTracks = s.besideTracks := by
  rw [restartTracks_eq, idleNest_besideTracks, idleNest_besideTracks]
  exact forEach_keeps State.besideTracks _ restartTrack_besideTracks _ s

theorem restartTracks_outputs (s : State) (n : NestId) : (restartTracks s).outputs[n] = Outputs.idle := by
  rw [restartTracks_eq]
  unfold idleNest
  rw [modOutputs_get]
  split
  · rfl
  · rename_i h
    rw [modOutputs_get, if_pos ((nest_cases n).resolve_right h)]

theorem restartTracks_portState (s : State) (p : NestId) : (restartTracks s).ports[p].state = s.ports[p].state := by
  rw [restartTracks_eq, idleNest_ports, idleNest_ports]
  exact forEach_keeps (fun s => s.ports[p].state) _ (fun t s => restartTrack_portState t s p) _ s

theorem restartTracks_posted (s : State) : NothingPosted s (restartTracks s) := by
  have htracks : NothingPosted s (s.forEach allTracks restartTrack) :=
    forEach_induct (NothingPosted s) restartTrack (fun t u h =>
      ⟨(restartTrack_posted t u).1.trans h.1, (restartTrack_posted t u).2.trans h.2⟩) allTracks s ⟨rfl, rfl⟩
  rw [restartTracks_eq]
  generalize s.forEach allTracks restartTrack = u at *
  exact htracks

/-! ### Ports (R86) -/

/-- R86: the record of a port after RESTART. -/
def Port.restarted (x : Port) : Port :=
  if x.state = .off then x else { x with queue := [], inFlight := none, state := .off, stall := [] }

theorem Port.restarted_off (x : Port) : x.restarted.state = .off
    ∧ (x.state ≠ .off → x.restarted.queue = [] ∧ x.restarted.inFlight = none ∧ x.restarted.stall = []) := by
  unfold Port.restarted
  split
  · rename_i h; exact ⟨h, fun hne => absurd h hne⟩
  · exact ⟨rfl, fun _ => ⟨rfl, rfl, rfl⟩⟩

theorem restartPort_port (p : NestId) (s : State) (j : NestId) :
    (restartPort p s).ports[j] = if j = p then s.ports[p].restarted else s.ports[j] := by
  unfold restartPort Port.restarted
  by_cases h : s.ports[p].state = .off
  · rw [if_pos h, if_pos h]
    split
    · rename_i hj; rw [hj]
    · rfl
  · rw [if_neg h, if_neg h, modPort_get]
    simp only [dropQueue_ports]
    split
    · simp
    · rename_i hj
      simp [Fin.val_ne_of_ne (Ne.symm hj)]

/-- What RESTART of a port leaves, beside the states, causes and entries of the tracks. -/
def State.besideEmptied (s : State) := (s.besideTracks, s.outputs, s.post.fifo, s.post.lost)

theorem restartPort_besideEmptied (p : NestId) (s : State) : (restartPort p s).besideEmptied = s.besideEmptied := by
  have hdropped := dropQueue_besideDrops p s
  simp only [State.besideDrops, Prod.mk.injEq] at hdropped
  obtain ⟨hbeside, houtputs, -, -, hfifo, hlost⟩ := hdropped
  unfold restartPort
  split
  · rfl
  · exact congrArg₂ Prod.mk hbeside (congrArg₂ Prod.mk houtputs (congrArg₂ Prod.mk hfifo hlost))

theorem restartPort_standing (p : NestId) (s : State) (t : TrackId) :
    (restartPort p s).tracks[t].standing = s.tracks[t].standing := by
  unfold restartPort
  split
  · rfl
  · exact dropQueue_standing p s t

/-- R86: RESTART of both ports. -/
def portsRestarted (s : State) : State := s.forEach allNests restartPort

theorem portsRestarted_port (s : State) (p : NestId) : (portsRestarted s).ports[p] = s.ports[p].restarted := by
  have htable := forEach_table (t := fun s (p : NestId) => s.ports[p]) (u := restartPort)
    (f := fun _ x => x.restarted) restartPort_port allNests (by decide) s p
  exact htable.trans (if_pos (mem_allNests p))

theorem portsRestarted_besideEmptied (s : State) : (portsRestarted s).besideEmptied = s.besideEmptied :=
  forEach_keeps State.besideEmptied _ restartPort_besideEmptied _ s

theorem portsRestarted_standing (s : State) (t : TrackId) :
    (portsRestarted s).tracks[t].standing = s.tracks[t].standing :=
  forEach_keeps (fun s => s.tracks[t].standing) _ (fun p s => restartPort_standing p s t) _ s

end Sys2Proof.Machine
end

section
/-! SUPPORT. RESTART of checks (R121), of the link (R143) and of prompt contexts (R155). -/
namespace Sys2Proof.Machine

open Stated

/-! ### Checks (R121) -/

/-- R121: the record of a check after RESTART. -/
def Check.restarted (x : Check) : Check :=
  if x.state.undecided then
    { x with state := .idle, due := none, query := if x.query = .held then .none else x.query }
  else x

/-- R121: RESTART of one check. -/
def restartCheck (c : CheckId) (s : State) : State :=
  if s.checks[c].state.undecided then
    s.modCheck c fun k =>
      { k with state := .idle, due := none, query := if k.query = .held then .none else k.query }
  else s

theorem restartChecks_eq (s : State) : restartChecks s = s.forEach allChecks restartCheck := rfl

theorem restartCheck_check (c : CheckId) (s : State) (e : CheckId) :
    (restartCheck c s).checks[e] = if e = c then s.checks[c].restarted else s.checks[e] := by
  unfold restartCheck Check.restarted
  by_cases h : s.checks[c].state.undecided = true
  · rw [if_pos h, if_pos h, modCheck_get]
  · rw [if_neg h, if_neg h]
    split
    · rename_i he; rw [he]
    · rfl

theorem restartChecks_check (s : State) (c : CheckId) : (restartChecks s).checks[c] = s.checks[c].restarted := by
  have htable := forEach_table (t := fun s (c : CheckId) => s.checks[c]) (u := restartCheck)
    (f := fun _ x => x.restarted) restartCheck_check allChecks (List.nodup_finRange 64) s c
  rw [restartChecks_eq]
  exact htable.trans (if_pos (List.mem_finRange c))

/-- RESTART of checks changes the checks alone. -/
theorem restartChecks_alone (s : State) : restartChecks s = { s with checks := (restartChecks s).checks } := by
  rw [restartChecks_eq]
  refine forEach_induct (fun t => t = { s with checks := t.checks }) _ (fun c t h => ?_) _ s rfl
  unfold restartCheck
  split
  · rw [h]; rfl
  · exact h

/-! ### The link (R143) -/

/-- R143 step 1: the queue is emptied, and the transaction in flight is flushed. -/
def linkEmptied (s : State) : State :=
  s.modLink fun l => { l with queue := [], flight := l.flight.map fun t => { t with flushed := true } }

/-- R143: no node holds a poll any more. -/
def pollsDropped (s : State) : State :=
  s.forEach allNodes fun d s => s.modNode d fun x => { x with pollHeld := false }

/-- R143 step 3: the poll of node d is offered again. -/
def repoll (d : NodeId) (s : State) : State := offerPoll d (s.modNode d fun x => { x with servicePending := true })

theorem restartLink_eq (s : State) : restartLink s =
    ((pollsDropped (linkEmptied s)).forEach s.link.queue flushRequest).forEach (pollsToRepeat s) repoll := rfl

theorem pollsDropped_node (s : State) (d : NodeId) :
    (pollsDropped s).nodes[d] = { s.nodes[d] with pollHeld := false } := by
  have htable := forEach_table (t := fun s (d : NodeId) => s.nodes[d])
    (u := fun d s => s.modNode d fun x => { x with pollHeld := false }) (f := fun _ x => { x with pollHeld := false })
    (fun d s e => modNode_get d _ s e) allNodes (List.nodup_finRange 15) s d
  exact htable.trans (if_pos (List.mem_finRange d))

theorem pollsDropped_alone (s : State) : pollsDropped s = { s with nodes := (pollsDropped s).nodes } :=
  forEach_induct (fun t => t = { s with nodes := t.nodes })
    (fun d s => s.modNode d fun x => { x with pollHeld := false }) (fun d t h => by rw [h]; rfl) _ s rfl

theorem flushRequest_alone (q : Request) (s : State) :
    flushRequest q s = { s with post := (flushRequest q s).post } := by
  unfold flushRequest
  split
  · rename_i hhost
    unfold answer
    rw [hhost]
    exact postEvent_eq ..
  all_goals rfl

theorem flushRequest_grows (q : Request) (s : State) : s.post.Grows (flushRequest q s).post := by
  unfold flushRequest
  split
  · rename_i hhost
    unfold answer
    rw [hhost]
    exact postEvent_grows ..
  all_goals exact .refl _

/-- R143 step 2: the answers to the hosts are posted, and nothing else changes. -/
theorem flushes_alone (l : List Request) (s : State) :
    s.forEach l flushRequest = { s with post := (s.forEach l flushRequest).post } :=
  forEach_induct (fun t => t = { s with post := t.post }) _ (fun q t h => by
    have hflush := flushRequest_alone q t
    rw [hflush]
    rw [h] at hflush ⊢) l s rfl

theorem flushes_grow (l : List Request) (s : State) : s.post.Grows (s.forEach l flushRequest).post :=
  forEach_induct (fun t => s.post.Grows t.post) _ (fun q t h => h.trans (flushRequest_grows q t)) l s (.refl _)

theorem enqueue_servicePoll (d : NodeId) (l : List NodeId) :
    enqueue (servicePoll d) (l.map servicePoll) = (l ++ [d]).map servicePoll := by
  have hpolls : (l.map servicePoll).filter Request.isServicePoll = l.map servicePoll := by
    rw [List.filter_eq_self]
    intro q hq
    obtain ⟨e, -, rfl⟩ := List.mem_map.1 hq
    rfl
  have hothers : (l.map servicePoll).filter (fun q => !q.isServicePoll) = [] := by
    rw [List.filter_eq_nil_iff]
    intro q hq
    obtain ⟨e, -, rfl⟩ := List.mem_map.1 hq
    exact Bool.false_ne_true
  have hpoll : (servicePoll d).isServicePoll = true := rfl
  unfold enqueue
  rw [if_pos hpoll, hpolls, hothers, List.map_append]
  rfl

/-- R143 step 3: with the polls of `before` in the queue, the poll of d joins them. -/
theorem repoll_joins {before : List NodeId} {s : State} (d : NodeId) (hqueue : s.link.queue = before.map servicePoll)
    (hroom : before.length < 16) : repoll d s = { s with
      nodes := s.nodes.set d { s.nodes[d] with servicePending := true }
      link := { s.link with queue := (before ++ [d]).map servicePoll } } := by
  have hfree : (s.modNode d fun x => { x with servicePending := true }).link.queue.length < 16 := by
    rw [modNode_link, hqueue, List.length_map]
    exact hroom
  unfold repoll
  rw [offerPoll_joins d hfree, ← enqueue_servicePoll, ← hqueue]
  rfl

theorem repolls_join (l : List NodeId) {before : List NodeId} {s : State}
    (hqueue : s.link.queue = before.map servicePoll) (hroom : before.length + l.length ≤ 16) :
    ∃ nodes, s.forEach l repoll =
        { s with nodes := nodes, link := { s.link with queue := (before ++ l).map servicePoll } }
      ∧ ∀ d : NodeId, nodes[d] = if d ∈ l then { s.nodes[d] with servicePending := true } else s.nodes[d] := by
  induction l generalizing before s with
  | nil =>
    refine ⟨s.nodes, ?_, fun d => (if_neg List.not_mem_nil).symm⟩
    rw [List.append_nil, ← hqueue]
    rfl
  | cons e l ih =>
    rw [List.length_cons] at hroom
    have hstep := repoll_joins e hqueue (by omega)
    obtain ⟨nodes, heq, hnodes⟩ := ih (before := before ++ [e]) (s := repoll e s) (by rw [hstep])
      (by rw [List.length_append, List.length_singleton]; omega)
    have hnode (d : NodeId) : (repoll e s).nodes[d]
        = if d = e then { s.nodes[d] with servicePending := true } else s.nodes[d] := by
      rw [hstep]
      by_cases hd : d = e
      · subst hd; simp
      · simp [hd, Fin.val_ne_of_ne (Ne.symm hd)]
    refine ⟨nodes, ?_, fun d => ?_⟩
    · rw [forEach_cons, heq, hstep, List.append_assoc]
      rfl
    · rw [hnodes, hnode]
      by_cases hd : d = e
      · subst hd; simp
      · simp [hd]

theorem pollsToRepeat_length (s : State) : (pollsToRepeat s).length ≤ 15 :=
  (List.length_filter_le ..).trans (Nat.le_of_eq (List.length_finRange ..))

/-- R143: what RESTART makes of the link and of the nodes. -/
theorem restartLink_restarts (s : State) : ∃ nodes post, restartLink s = { s with
      nodes := nodes
      link := { s.link with
        queue := (pollsToRepeat s).map servicePoll
        flight := s.link.flight.map fun t => { t with flushed := true } }
      post := post }
    ∧ s.post.Grows post
    ∧ ∀ d : NodeId, nodes[d] =
      { s.nodes[d] with
        pollHeld := false
        servicePending := if d ∈ pollsToRepeat s then true else s.nodes[d].servicePending } := by
  have hflushes := flushes_alone s.link.queue (pollsDropped (linkEmptied s))
  have hgrows := flushes_grow s.link.queue (pollsDropped (linkEmptied s))
  have hdropped := pollsDropped_alone (linkEmptied s)
  have hnode := pollsDropped_node (linkEmptied s)
  rw [restartLink_eq]
  generalize (pollsDropped (linkEmptied s)).forEach s.link.queue flushRequest = u at *
  generalize (pollsDropped (linkEmptied s)) = v at *
  have hpost : v.post = s.post := by rw [hdropped]; rfl
  have hlink : u.link = (linkEmptied s).link := by rw [hflushes, hdropped]
  have hunodes (d : NodeId) : u.nodes[d] = { s.nodes[d] with pollHeld := false } := by
    rw [hflushes]; exact hnode d
  obtain ⟨nodes, heq, hnodes⟩ := repolls_join (pollsToRepeat s) (before := []) (s := u) (by rw [hlink]; rfl)
    (by rw [List.length_nil, Nat.zero_add]; exact Nat.le_succ_of_le (pollsToRepeat_length s))
  refine ⟨nodes, u.post, ?_, hpost ▸ hgrows, fun d => ?_⟩
  · rw [heq, List.nil_append, hlink]
    generalize u.post = p at hflushes ⊢
    rw [hflushes, hdropped]
    rfl
  · rw [hnodes, hunodes]
    split <;> rfl

/-! ### Prompt contexts (R155) -/

/-- R155: the CLEAR step of the context of nest n. -/
def clearOf (n : NestId) (p : Prompt) : Request := stepRequest n p.panel p.sequence p.answers p.text .clear

/-- R155: the context of nest n may show a question, and no place is free for its CLEAR. -/
def clearWaits (p : Prompt) (queue : List Request) : Bool := p.state.noted && decide (16 ≤ queue.length)

/-- R155: the context after RESTART. -/
def Prompt.restarted (p : Prompt) (queue : List Request) : Prompt :=
  { p.free with
    waiting := []
    restartClear := if clearWaits p queue then some (p.panel, p.sequence) else p.restartClear }

/-- R155: the queue after the CLEAR of nest n has been offered. -/
def clearOffered (n : NestId) (p : Prompt) (queue : List Request) : List Request :=
  if p.state.noted && decide (queue.length < 16) then queue ++ [clearOf n p] else queue

section
variable {n : NestId} {s : State}

theorem restarted_clears {p : Prompt} {queue : List Request} (h : clearWaits p queue = false) :
    p.restarted queue = { p.free with waiting := [] } := by
  unfold Prompt.restarted
  rw [h]
  rfl

/-- R155 step 1: the context is free and nobody waits for it. -/
def contextFreed (n : NestId) (s : State) : State := s.modPrompt n fun p => { p.free with waiting := [] }

theorem contextFreed_prompt (n : NestId) (s : State) :
    (contextFreed n s).prompts[n] = { s.prompts[n].free with waiting := [] } := modPrompt_self ..

theorem contextFreed_link (n : NestId) (s : State) : (contextFreed n s).link = s.link := rfl

theorem restartPrompt_unnoted (h : s.prompts[n].state.noted = false) :
    restartPrompt n s = contextFreed n s := by
  unfold restartPrompt
  dsimp only
  rw [h]
  rfl

theorem restartPrompt_noted (h : s.prompts[n].state.noted = true) :
    restartPrompt n s = offerRestartClear n (contextFreed n s) := by
  unfold restartPrompt
  exact if_pos h

theorem offerRestartClear_joins (h : s.link.queue.length < 16) :
    offerRestartClear n s = joinQueue (clearOf n s.prompts[n]) s := by
  unfold offerRestartClear
  exact if_pos ((linkFree_iff s).2 h)

theorem offerRestartClear_holds (h : ¬ s.link.queue.length < 16) : offerRestartClear n s =
    s.modPrompt n fun p => { p with restartClear := some (s.prompts[n].panel, s.prompts[n].sequence) } := by
  unfold offerRestartClear
  exact if_neg (mt (linkFree_iff s).1 h)

theorem restartPrompt_restarts (n : NestId) (s : State) : restartPrompt n s = { s with
    prompts := s.prompts.set n (s.prompts[n].restarted s.link.queue)
    link := { s.link with queue := clearOffered n s.prompts[n] s.link.queue } } := by
  have hfreed := contextFreed_prompt n s
  cases hnoted : s.prompts[n].state.noted with
  | false =>
    have hwaits : clearWaits s.prompts[n] s.link.queue = false := by unfold clearWaits; rw [hnoted]; rfl
    have hqueue : clearOffered n s.prompts[n] s.link.queue = s.link.queue := by unfold clearOffered; rw [hnoted]; rfl
    rw [restartPrompt_unnoted hnoted, restarted_clears hwaits, hqueue]
    rfl
  | true =>
    by_cases hroom : s.link.queue.length < 16
    · have hwaits : clearWaits s.prompts[n] s.link.queue = false := by
        unfold clearWaits; rw [decide_eq_false (Nat.not_le.2 hroom)]; exact Bool.and_false _
      have hqueue : clearOffered n s.prompts[n] s.link.queue = s.link.queue ++ [clearOf n s.prompts[n]] := by
        unfold clearOffered; rw [hnoted, decide_eq_true hroom]; rfl
      rw [restartPrompt_noted hnoted, offerRestartClear_joins (s := contextFreed n s) hroom, hfreed,
        restarted_clears hwaits, hqueue]
      rfl
    · have hwaits : clearWaits s.prompts[n] s.link.queue = true := by
        unfold clearWaits; rw [hnoted, decide_eq_true (Nat.not_lt.1 hroom)]; rfl
      have hqueue : clearOffered n s.prompts[n] s.link.queue = s.link.queue := by
        unfold clearOffered; rw [hnoted, decide_eq_false hroom]; rfl
      have hrestarted : s.prompts[n].restarted s.link.queue = { s.prompts[n].free with
          waiting := [], restartClear := some (s.prompts[n].panel, s.prompts[n].sequence) } := by
        unfold Prompt.restarted; rw [hwaits]; rfl
      rw [restartPrompt_noted hnoted, offerRestartClear_holds (s := contextFreed n s) hroom, hrestarted, hqueue]
      unfold contextFreed State.modPrompt
      simp only [Fin.getElem_fin, Vector.getElem_set_self, Vector.set_set]
      rfl
end

/-- R155: the CLEAR step that RESTART owes for the context of nest n. -/
def clearOwed (n : NestId) (p : Prompt) : List Request := if p.state.noted then [clearOf n p] else []

theorem clearOwed_length_le (n : NestId) (p : Prompt) : (clearOwed n p).length ≤ 1 := by
  unfold clearOwed
  split
  · exact Nat.le_refl 1
  · exact Nat.zero_le 1

/-- R155: the CLEAR joins while the queue has a place. -/
theorem clearOffered_take (n : NestId) (p : Prompt) {queue : List Request} (hqueue : queue.length ≤ 16) :
    clearOffered n p queue = (queue ++ clearOwed n p).take 16 := by
  unfold clearOffered clearOwed
  by_cases hnoted : p.state.noted = true
  · by_cases hroom : queue.length < 16
    · have hlength : (queue ++ [clearOf n p]).length ≤ 16 := by simpa using hroom
      simp [hnoted, hroom, List.take_of_length_le hlength]
    · have hfull : queue.length = 16 := by omega
      simp [hnoted, hfull]
  · simp [hnoted, List.take_of_length_le hqueue]

theorem clearOffered_room (n : NestId) (p : Prompt) {queue : List Request} (hroom : queue.length ≤ 15) :
    clearOffered n p queue = queue ++ clearOwed n p := by
  have howed := clearOwed_length_le n p
  rw [clearOffered_take n p (by omega), List.take_of_length_le (by rw [List.length_append]; omega)]

theorem clearWaits_iff (p : Prompt) (queue : List Request) :
    clearWaits p queue = true ↔ p.state.noted = true ∧ 16 ≤ queue.length := by simp [clearWaits]

/-- R155: the prompt contexts of both nests after RESTART. -/
def promptsRestarted (s : State) : State := s.forEach allNests restartPrompt

/-- The nests whose context may show a question. -/
def notedNests (s : State) : List NestId := allNests.filter fun n => s.prompts[n].state.noted

/-- The CLEAR steps that RESTART owes, in nest order. -/
def clearsOwed (s : State) : List Request := (notedNests s).map fun n => clearOf n s.prompts[n]

theorem clearsOwed_eq (s : State) :
    clearsOwed s = clearOwed 0 s.prompts[(0 : NestId)] ++ clearOwed 1 s.prompts[(1 : NestId)] := by
  have hnests : allNests = [0, 1] := by decide
  unfold clearsOwed notedNests clearOwed
  rw [hnests]
  cases h : s.prompts[(0 : NestId)].state.noted with
  | false => cases h' : s.prompts[(1 : NestId)].state.noted with
    | false => simp_all
    | true => simp_all
  | true => cases h' : s.prompts[(1 : NestId)].state.noted with
    | false => simp_all
    | true => simp_all

/-- The CLEAR steps owed for the nests before n. -/
def clearsBefore (s : State) (n : NestId) : Nat := ((notedNests s).filter fun j => decide (j < n)).length

theorem clearsBefore_first (s : State) : clearsBefore s 0 = 0 := by
  unfold clearsBefore
  rw [List.filter_eq_nil_iff.2 fun j _ => by simp]
  rfl

theorem clearsBefore_second (s : State) : clearsBefore s 1 = (clearOwed 0 s.prompts[(0 : NestId)]).length := by
  have hnests : allNests = [0, 1] := by decide
  unfold clearsBefore notedNests clearOwed
  rw [hnests, List.filter_filter]
  cases h : s.prompts[(0 : NestId)].state.noted <;> simp_all

/-- R155: what RESTART makes of the contexts and of the queue. -/
theorem promptsRestarted_restarts {s : State} (hroom : s.link.queue.length ≤ 15) :
    ∃ prompts, promptsRestarted s = { s with
        prompts := prompts
        link := { s.link with queue := (s.link.queue ++ clearsOwed s).take 16 } }
      ∧ ∀ n : NestId, ∃ queue, prompts[n] = s.prompts[n].restarted queue
        ∧ (clearWaits s.prompts[n] queue = true ↔
          s.prompts[n].state.noted = true ∧ 16 ≤ s.link.queue.length + clearsBefore s n) := by
  have hpair : promptsRestarted s = restartPrompt 1 (restartPrompt 0 s) := rfl
  have hfirst := restartPrompt_restarts 0 s
  have hother : (restartPrompt 0 s).prompts[(1 : NestId)] = s.prompts[(1 : NestId)] := by rw [hfirst]; simp
  have hjoined : (restartPrompt 0 s).link.queue = s.link.queue ++ clearOwed 0 s.prompts[(0 : NestId)] := by
    rw [hfirst, clearOffered_room 0 _ hroom]
  have howed := clearOwed_length_le 0 s.prompts[(0 : NestId)]
  have hqueue : clearOffered 1 s.prompts[(1 : NestId)] (s.link.queue ++ clearOwed 0 s.prompts[(0 : NestId)])
      = (s.link.queue ++ clearsOwed s).take 16 := by
    rw [clearOffered_take _ _ (by rw [List.length_append]; omega), clearsOwed_eq, List.append_assoc]
  refine ⟨(restartPrompt 1 (restartPrompt 0 s)).prompts, ?_, fun n => ?_⟩
  · rw [hpair, ← hqueue, restartPrompt_restarts 1 (restartPrompt 0 s), hother, hjoined]
    generalize clearOffered 1 _ _ = queue
    rw [hfirst]
  · rw [restartPrompt_restarts 1 (restartPrompt 0 s), hother, hjoined]
    rcases nest_cases n with rfl | rfl
    · refine ⟨s.link.queue, ?_, ?_⟩
      · rw [hfirst]
        simp
      · rw [clearWaits_iff, clearsBefore_first]
        rfl
    · refine ⟨s.link.queue ++ clearOwed 0 s.prompts[(0 : NestId)], ?_, ?_⟩
      · simp
      · rw [clearWaits_iff, clearsBefore_second, List.length_append]

end Sys2Proof.Machine
end

section
/-! CERTIFICATE. RESTART brings the part to rest (O60). -/
namespace Sys2Proof.Machine

open Stated

/-! ### Nests, rails, tracks, outputs and ports together -/

/-- RESTART of the blocks that drive the bench: nests (R19), then tracks (R68), then ports (R86). -/
def benchRestarted (s : State) : State := portsRestarted (restartTracks (nestsRestarted s))

/-- What RESTART of the driving blocks leaves to the blocks after them. -/
def State.besideBench (s : State) :=
  (s.path, s.supplies, s.capture, s.checks, s.unposted, s.nodes, s.link, s.prompts)

theorem besideBench_of_besideNests {s t : State} (h : s.besideNests = t.besideNests) :
    s.besideBench = t.besideBench := by
  simp only [State.besideNests, Prod.mk.injEq] at h
  simp only [State.besideBench, h]

theorem besideBench_of_besideTracks {s t : State} (h : s.besideTracks = t.besideTracks) :
    s.besideBench = t.besideBench := by
  simp only [State.besideTracks, State.bus, Prod.mk.injEq] at h
  simp only [State.besideBench, h]

theorem nests_of_besideTracks {s t : State} (h : s.besideTracks = t.besideTracks) : s.nests = t.nests :=
  congrArg (fun p => p.2.1) h

theorem rails_of_besideTracks {s t : State} (h : s.besideTracks = t.besideTracks) : s.rails = t.rails :=
  congrArg (fun p => p.2.2.2.1) h

theorem portsRestarted_besideTracks (s : State) : (portsRestarted s).besideTracks = s.besideTracks :=
  congrArg (fun p => p.1) (portsRestarted_besideEmptied s)

theorem portsRestarted_outputs (s : State) : (portsRestarted s).outputs = s.outputs :=
  congrArg (fun p => p.2.1) (portsRestarted_besideEmptied s)

theorem portsRestarted_posted (s : State) : NothingPosted s (portsRestarted s) :=
  ⟨congrArg (fun p => p.2.2.1) (portsRestarted_besideEmptied s),
    congrArg (fun p => p.2.2.2) (portsRestarted_besideEmptied s)⟩

theorem benchRestarted_besideTracks (s : State) : (benchRestarted s).besideTracks = (nestsRestarted s).besideTracks :=
  (portsRestarted_besideTracks _).trans (restartTracks_besideTracks _)

theorem benchRestarted_besideBench (s : State) : (benchRestarted s).besideBench = s.besideBench :=
  (besideBench_of_besideTracks (benchRestarted_besideTracks s)).trans
    (besideBench_of_besideNests (nestsRestarted_besideNests s))

theorem benchRestarted_nest (s : State) (n : NestId) : (benchRestarted s).nests[n] = s.nests[n].restarted := by
  have hnests := nests_of_besideTracks (benchRestarted_besideTracks s)
  simp only [hnests]
  exact nestsRestarted_nest s n

theorem benchRestarted_rail (s : State) (r : RailId) : (benchRestarted s).rails[r] =
    if s.nests[nestOfRail r].state = .opened ∨ s.nests[nestOfRail r].state = .draining then
      forcedRail .restart s.rails[r]
    else s.rails[r] := by
  have hrails := rails_of_besideTracks (benchRestarted_besideTracks s)
  simp only [hrails]
  exact nestsRestarted_rail s r

theorem nestsRestarted_tracks (s : State) : (nestsRestarted s).tracks = s.tracks :=
  congrArg (fun p => p.2.2.2.1) (nestsRestarted_besideNests s)

theorem nestsRestarted_ports (s : State) : (nestsRestarted s).ports = s.ports :=
  congrArg (fun p => p.2.2.2.2.2.1) (nestsRestarted_besideNests s)

theorem benchRestarted_standing (s : State) (t : TrackId) :
    (benchRestarted s).tracks[t].standing = s.tracks[t].restarted.standing := by
  have htracks := nestsRestarted_tracks s
  have hstanding := portsRestarted_standing (restartTracks (nestsRestarted s)) t
  rw [restartTracks_track] at hstanding
  simp only [htracks] at hstanding
  exact hstanding

theorem benchRestarted_outputs (s : State) (n : NestId) : (benchRestarted s).outputs[n] = Outputs.idle := by
  have houtputs := portsRestarted_outputs (restartTracks (nestsRestarted s))
  unfold benchRestarted
  simp only [houtputs]
  exact restartTracks_outputs _ n

theorem benchRestarted_posted (s : State) : s.post.Grows (benchRestarted s).post := by
  obtain ⟨htracks, htracksLost⟩ := restartTracks_posted (nestsRestarted s)
  obtain ⟨hports, hportsLost⟩ := portsRestarted_posted (restartTracks (nestsRestarted s))
  have hnests := nestsRestarted_grows s
  unfold benchRestarted
  generalize portsRestarted (restartTracks (nestsRestarted s)) = v at *
  generalize restartTracks (nestsRestarted s) = u at *
  exact (hnests.trans (.of_eq htracks htracksLost)).trans (.of_eq hports hportsLost)

/-- R86: a port whose state was OFF stays off, and every other is emptied. -/
theorem benchRestarted_port (s : State) (p : NestId) : (benchRestarted s).ports[p].state = .off
    ∧ (s.ports[p].state ≠ .off → (benchRestarted s).ports[p].queue = []
      ∧ (benchRestarted s).ports[p].inFlight = none ∧ (benchRestarted s).ports[p].stall = []) := by
  have hbefore := nestsRestarted_ports s
  have hstate := restartTracks_portState (nestsRestarted s) p
  simp only [hbefore] at hstate
  obtain ⟨hoff, hemptied⟩ := (restartTracks (nestsRestarted s)).ports[p].restarted_off
  unfold benchRestarted
  rw [portsRestarted_port]
  exact ⟨hoff, fun hne => hemptied (by rw [hstate]; exact hne)⟩

/-! ### Checks, link and prompt contexts together -/

theorem pollsToRepeat_congr {s t : State} (hnodes : s.nodes = t.nodes) (hlink : s.link = t.link) :
    pollsToRepeat s = pollsToRepeat t := by
  unfold pollsToRepeat
  rw [hnodes, hlink]

theorem clearsOwed_congr {s t : State} (h : s.prompts = t.prompts) : clearsOwed s = clearsOwed t := by
  unfold clearsOwed notedNests
  rw [h]

theorem clearsBefore_congr {s t : State} (h : s.prompts = t.prompts) (n : NestId) :
    clearsBefore s n = clearsBefore t n := by
  unfold clearsBefore notedNests
  rw [h]

/-- RESTART of the blocks that report and ask: checks (R121), the link (R143), then prompt contexts (R155). -/
def askingRestarted (s : State) : State := promptsRestarted (restartLink (restartChecks s))

/-- R143: the record of a node after RESTART, whose poll is to be repeated or not. -/
def Node.restarted (x : Node) (repeats : Bool) : Node :=
  { x with pollHeld := false, servicePending := if repeats then true else x.servicePending }

/-- R143, R155: the link after RESTART. -/
def linkRestarted (s : State) : Link :=
  { s.link with
    queue := ((pollsToRepeat s).map servicePoll ++ clearsOwed s).take 16
    flight := s.link.flight.map fun t => { t with flushed := true } }

/-- R121, R143, R155: u is s after RESTART of checks, link and contexts. -/
structure AskingRestarted (s u : State) : Prop where
  check : ∀ c : CheckId, u.checks[c] = s.checks[c].restarted
  node : ∀ d : NodeId, u.nodes[d] = s.nodes[d].restarted (decide (d ∈ pollsToRepeat s))
  link : u.link = linkRestarted s
  prompt : ∀ n : NestId, ∃ queue, u.prompts[n] = s.prompts[n].restarted queue
    ∧ (clearWaits s.prompts[n] queue = true ↔
      s.prompts[n].state.noted = true ∧ 16 ≤ (pollsToRepeat s).length + clearsBefore s n)
  posted : s.post.Grows u.post
  others : u = { s with checks := u.checks, nodes := u.nodes, link := u.link, prompts := u.prompts, post := u.post }

theorem askingRestarted_restarted (s : State) : AskingRestarted s (askingRestarted s) := by
  have hchecks := restartChecks_alone s
  have hcheck := restartChecks_check s
  unfold askingRestarted
  generalize restartChecks s = t at *
  obtain ⟨nodes, post, hlink, hgrows, hnode⟩ := restartLink_restarts t
  have hpolls : pollsToRepeat t = pollsToRepeat s := by rw [hchecks]; rfl
  generalize restartLink t = v at *
  have hprompts : v.prompts = s.prompts := by rw [hlink, hchecks]
  have hqueue : v.link.queue = (pollsToRepeat s).map servicePoll := by rw [hlink, hpolls]
  have hlength : v.link.queue.length = (pollsToRepeat s).length := by rw [hqueue, List.length_map]
  have hroom : v.link.queue.length ≤ 15 := hlength ▸ pollsToRepeat_length s
  obtain ⟨prompts, heq, hprompt⟩ := promptsRestarted_restarts hroom
  have hnodes : t.nodes = s.nodes := by rw [hchecks]
  have hpost : t.post = s.post := by rw [hchecks]
  have hall : promptsRestarted v = { s with
      checks := t.checks, nodes := nodes, link := linkRestarted s, prompts := prompts, post := post } := by
    rw [heq, clearsOwed_congr hprompts, hqueue, hlink, hchecks]
    rfl
  rw [hpost] at hgrows
  simp only [hlength, clearsBefore_congr hprompts, hprompts] at hprompt
  simp only [hpolls, hnodes] at hnode
  rw [hall]
  refine ⟨hcheck, fun d => (hnode d).trans ?_, rfl, hprompt, hgrows, rfl⟩
  simp only [Node.restarted, decide_eq_true_eq]

/-! ### The whole part -/

/-- R170: RESTART up to the posting of RESTARTED. -/
def partRestarted (s : State) : State := askingRestarted (benchRestarted s)

theorem actRestart_eq (obj opd : Nat) (s : State) :
    actRestart obj opd s = .ok (postEvent evRestarted (partRestarted s)) := rfl

/-- R170: u is s after RESTART, before RESTARTED is posted. -/
structure PartRestarted (s u : State) : Prop where
  nest : ∀ n : NestId, u.nests[n] = s.nests[n].restarted
  rail : ∀ r : RailId, u.rails[r] =
    if s.nests[nestOfRail r].state = .opened ∨ s.nests[nestOfRail r].state = .draining then
      forcedRail .restart s.rails[r]
    else s.rails[r]
  track : ∀ t : TrackId, u.tracks[t].standing = s.tracks[t].restarted.standing
  outputs : ∀ n : NestId, u.outputs[n] = Outputs.idle
  port : ∀ p : NestId, u.ports[p].state = .off
    ∧ (s.ports[p].state ≠ .off → u.ports[p].queue = [] ∧ u.ports[p].inFlight = none ∧ u.ports[p].stall = [])
  check : ∀ c : CheckId, u.checks[c] = s.checks[c].restarted
  node : ∀ d : NodeId, u.nodes[d] = s.nodes[d].restarted (decide (d ∈ pollsToRepeat s))
  link : u.link = linkRestarted s
  prompt : ∀ n : NestId, ∃ queue, u.prompts[n] = s.prompts[n].restarted queue
    ∧ (clearWaits s.prompts[n] queue = true ↔
      s.prompts[n].state.noted = true ∧ 16 ≤ (pollsToRepeat s).length + clearsBefore s n)
  posted : s.post.Grows u.post
  kept : (u.path, u.supplies, u.capture, u.unposted) = (s.path, s.supplies, s.capture, s.unposted)

theorem partRestarted_restarted (s : State) : PartRestarted s (partRestarted s) := by
  have hnest := benchRestarted_nest s
  have hrail := benchRestarted_rail s
  have htrack := benchRestarted_standing s
  have houtputs := benchRestarted_outputs s
  have hport := benchRestarted_port s
  have hposted := benchRestarted_posted s
  have hbeside := benchRestarted_besideBench s
  unfold partRestarted
  generalize benchRestarted s = t at *
  simp only [State.besideBench, Prod.mk.injEq] at hbeside
  obtain ⟨hpath, hsupplies, hcapture, hchecks, hunposted, hnodes, hlink, hprompts⟩ := hbeside
  obtain ⟨hcheck, hnode, hlinked, hprompt, hgrows, hothers⟩ := askingRestarted_restarted t
  generalize askingRestarted t = u at *
  have hpolls := pollsToRepeat_congr hnodes hlink
  have hrestarted : linkRestarted t = linkRestarted s := by
    unfold linkRestarted
    rw [hpolls, clearsOwed_congr hprompts, hlink]
  simp only [hpolls, hchecks, hnodes, hprompts, clearsBefore_congr hprompts] at hcheck hnode hprompt
  have hplant : u.nests = t.nests ∧ u.rails = t.rails ∧ u.tracks = t.tracks ∧ u.outputs = t.outputs
      ∧ u.ports = t.ports := by
    rw [hothers]
    exact ⟨rfl, rfl, rfl, rfl, rfl⟩
  obtain ⟨hnests, hrails, htracks, houts, hports⟩ := hplant
  simp only [← hnests, ← hrails, ← htracks, ← houts, ← hports] at hnest hrail htrack houtputs hport
  refine ⟨hnest, hrail, htrack, houtputs, hport, hcheck, hnode, hlinked.trans hrestarted, hprompt,
    hposted.trans hgrows, ?_⟩
  rw [hothers, ← hpath, ← hsupplies, ← hcapture, ← hunposted]

/-! ### RESTARTED, and what the commands leaves -/

theorem Post.Grows.lost_le_or_full {p q : Post} (h : p.Grows q) : p.lost ≤ q.lost ∨ q.lost = 4294967295 := by
  obtain ⟨-, hlost⟩ := h
  unfold max32 at hlost
  omega

theorem Prompt.restarted_free (p : Prompt) (queue : List Request) :
    (p.restarted queue).state = .free ∧ (p.restarted queue).waiting = [] ∧ (p.restarted queue).check = none
      ∧ (p.restarted queue).sequence = p.sequence ∧ (p.restarted queue).answered = p.answered :=
  ⟨rfl, rfl, rfl, rfl, rfl⟩

theorem Prompt.restarted_restartClear (p : Prompt) (queue : List Request) :
    (p.restarted queue).restartClear = if clearWaits p queue then some (p.panel, p.sequence) else p.restartClear := rfl

theorem PartRestarted.track_idle {s u : State} (h : PartRestarted s u) (t : TrackId) : u.tracks[t].state = .idle
    ∧ (s.tracks[t].state ≠ .idle → u.tracks[t].cause = .none ∧ u.tracks[t].held = []) := by
  have hstanding := h.track t
  simp only [Track.standing, Prod.mk.injEq] at hstanding
  obtain ⟨hstate, hcause, hheld⟩ := hstanding
  rw [hstate, hcause, hheld]
  exact s.tracks[t].restarted_idle

theorem PartRestarted.prompt_free {s u : State} (h : PartRestarted s u) (n : NestId) :
    u.prompts[n].state = .free ∧ u.prompts[n].waiting = [] ∧ u.prompts[n].check = none
      ∧ u.prompts[n].sequence = s.prompts[n].sequence ∧ u.prompts[n].answered = s.prompts[n].answered := by
  obtain ⟨queue, hprompt, -⟩ := h.prompt n
  rw [hprompt]
  exact s.prompts[n].restarted_free queue

theorem PartRestarted.prompt_clear {s u : State} (h : PartRestarted s u) (n : NestId) :
    u.prompts[n].restartClear =
      if s.prompts[n].state.noted = true ∧ 16 ≤ (pollsToRepeat s).length + clearsBefore s n then
        some (s.prompts[n].panel, s.prompts[n].sequence)
      else s.prompts[n].restartClear := by
  obtain ⟨queue, hprompt, hwaits⟩ := h.prompt n
  rw [hprompt, Prompt.restarted_restartClear]
  exact if_congr hwaits rfl rfl

theorem PartRestarted.node_pending {s u : State} (h : PartRestarted s u) (d : NodeId) :
    u.nodes[d].servicePending = if d ∈ pollsToRepeat s then true else s.nodes[d].servicePending := by
  rw [h.node d]
  simp only [Node.restarted, decide_eq_true_eq]

theorem PartRestarted.node_kept {s u : State} (h : PartRestarted s u) (d : NodeId) :
    u.nodes[d].state = s.nodes[d].state ∧ u.nodes[d].status = s.nodes[d].status
      ∧ u.nodes[d].lineSeen = s.nodes[d].lineSeen ∧ u.nodes[d].pollHeld = false := by
  rw [h.node d]
  exact ⟨rfl, rfl, rfl, rfl⟩

theorem PartRestarted.link_kept {s u : State} (h : PartRestarted s u) : u.link.paused = s.link.paused
    ∧ u.link.outOfService = s.link.outOfService ∧ u.link.consumer = s.link.consumer := by
  rw [h.link]
  exact ⟨rfl, rfl, rfl⟩

/-- Settles O60: RESTART has no test, and each block is brought to rest by its own rule, before RESTARTED is posted. -/
theorem restartBringsThePartToRest : Obligations.RestartBringsThePartToRest := by
  intro s k a hgrant
  refine answers_of_refusal rfl actRestart_bus ⟨hgrant, rfl⟩ (fun e he => nomatch he) fun _ => ?_
  have hact := actRestart_eq (wordObject a.data) (wordOperand a.data) (writeAction a (clearHost s))
  have hrest := partRestarted_restarted (writeAction a (clearHost s))
  generalize partRestarted (writeAction a (clearHost s)) = v at *
  have hposted := posted_postEvent evRestarted v
  have hpost := postEvent_eq evRestarted v
  generalize postEvent evRestarted v = u at *
  have hkept := hrest.kept
  simp only [Prod.mk.injEq] at hkept
  obtain ⟨hpath, hsupplies, hcapture, hunposted⟩ := hkept
  have hshadow : v.path.shadow = s.path.shadow := (congrArg Path.shadow hpath).trans rfl
  have hbase : v.path.base = s.path.base := (congrArg Path.base hpath).trans rfl
  have hguards : v.path.guards = s.path.guards := (congrArg Path.guards hpath).trans rfl
  obtain ⟨hpaused, houtOfService, hconsumer⟩ := hrest.link_kept
  generalize hposts : u.post = q at hpost
  subst hpost
  refine ⟨_, hact, hrest.nest, hrest.rail, hrest.track_idle, hrest.outputs, hrest.port, hrest.check,
    hrest.prompt_free, ⟨hrest.node_pending, congrArg Link.queue hrest.link, hrest.prompt_clear⟩, hrest.node_kept,
    congrArg Link.flight hrest.link, hpaused, houtOfService, hconsumer,
    ⟨v, rfl, rfl, rfl, rfl, rfl, hrest.posted.fifo, hrest.posted.lost_le_or_full, hposted⟩,
    hshadow, hbase, hguards, hcapture, hsupplies, hunposted⟩

end Sys2Proof.Machine
end
